-- ==== Sys2Proof/Word.lean ====
section
/-! DEFINITION. The word, the block of words, and the small index types of the HT848 (00_scope, Conventions). -/

namespace Sys2Proof

/-- A word is 32 bits (00_scope, Conventions). -/
abbrev Word := BitVec 32

/-- A block, given by its leading words. Words beyond the list are zero, up to word 1023
(10.8: "Block contents beyond the words listed are zero"; log entry 15). -/
abbrev Block := List Word

/-- A slot number, 0 to 7. -/
abbrev SlotId := Fin 8

/-- An upstream tag, 0 to 31 (R84). -/
abbrev Tag := Fin 32

/-- A drive tag, 0 to 31 (R96). -/
abbrev DriveTag := Fin 32

/-- The eight slot numbers in ascending order. -/
def slotIds : List SlotId := [0, 1, 2, 3, 4, 5, 6, 7]

end Sys2Proof
end

