-- ==== Sys2Proof/Syntax.lean ====
section
/-! DEFINITION. The commands of the HT848: one constructor of `Instr` per row of spec/opcode_table.json, with the
operands the spec gives the event. -/

namespace Sys2Proof

/-- The drive's error class (R100, section 5.6). -/
inductive DriveErrorClass
  | media
  | other
deriving DecidableEq, Repr

/-- The drive error detail: the class and, when the drive gave one, the failing block address (R86). -/
structure DriveError where
  cls     : DriveErrorClass
  failing : Option (BitVec 48)
deriving DecidableEq, Repr

/-- The status of a drive completion (section 5.6). -/
inductive DriveStatus
  | good
  | error (e : DriveError)
deriving DecidableEq, Repr

/-- What an identification block says: the 20-byte serial (byte 0 in bits 7..0), the number of logical blocks the drive
reports, and its logical block size in bytes (R131). The spec does not give the block's layout, so the three values
stand beside the block (log entry 8). -/
structure Identification where
  serial    : BitVec 160
  capacity  : BitVec 64
  blockSize : BitVec 32
deriving DecidableEq, Repr

/-- The levels of a slot's carrier-present and latch lines (R127): true for a carrier present, true for a latch closed. -/
structure Lines where
  carrier : Bool
  latch   : Bool
deriving DecidableEq, Repr

/-- The commands the HT848 takes, one constructor per row of spec/opcode_table.json. `s` is the slot, `t` the upstream
tag, `a` and `b` the parameter words of a control-window command. -/
inductive Instr
  /-- READ: a READ command record arrives (R84, R89). -/
  | read (s : SlotId) (t : Tag) (addr : BitVec 48) (count : BitVec 16) (omitted : Bool)
  /-- WRITE: a WRITE record that carries data arrives; its frames follow (R84, R93). -/
  | write (s : SlotId) (t : Tag) (addr : BitVec 48) (count : BitVec 16)
  /-- DATA_OMITTED_WRITE: a WRITE record with data omitted arrives (R84, R108). -/
  | dataOmittedWrite (s : SlotId) (t : Tag) (addr : BitVec 48) (count : BitVec 16)
  /-- FLUSH: a FLUSH record arrives (R84, R103). -/
  | flush (s : SlotId) (t : Tag) (addr : BitVec 48) (count : BitVec 16) (omitted : Bool)
  /-- IDENTIFY: an IDENTIFY record arrives (R84, R104). -/
  | identify (s : SlotId) (t : Tag) (addr : BitVec 48) (count : BitVec 16) (omitted : Bool)
  /-- OTHER: an OTHER record arrives, with its parameter (R84, R104). -/
  | other (s : SlotId) (t : Tag) (addr : BitVec 48) (count : BitVec 16) (omitted : Bool) (param : BitVec 128)
  /-- DATA_FRAME: a data frame arrives from the host (R84). -/
  | dataFrame (data : Block)
  /-- ARM: control-window command 1 (R46). -/
  | arm (s : SlotId) (t : Tag) (a b : Word)
  /-- HOLD: control-window command 2 (R49). -/
  | hold (s : SlotId) (t : Tag) (a b : Word)
  /-- RESUME: control-window command 3 (R50). -/
  | resume (s : SlotId) (t : Tag) (a b : Word)
  /-- ABORT: control-window command 4 (R51, R164). -/
  | abort (s : SlotId) (t : Tag) (a b : Word)
  /-- SOAK: control-window command 5 (R63). -/
  | soak (s : SlotId) (t : Tag) (a b : Word)
  /-- ADOPT: control-window command 6 (R175). -/
  | adopt (s : SlotId) (t : Tag) (a b : Word)
  /-- CLOSE: control-window command 7 (R145, R146). -/
  | close (s : SlotId) (t : Tag) (a b : Word)
  /-- SHIP: control-window command 8 (R158). -/
  | ship (s : SlotId) (t : Tag) (a b : Word)
  /-- RELEASE: control-window command 9 (R165). -/
  | release (s : SlotId) (t : Tag) (a b : Word)
  /-- RESET_SLOT: control-window command 10 (R134, R135). -/
  | resetSlot (s : SlotId) (t : Tag) (a b : Word)
  /-- CLEAR_EVENTS: control-window command 11 (R177). -/
  | clearEvents (s : SlotId) (t : Tag) (a b : Word)
  /-- SET_MASK: control-window command 12 (R177). -/
  | setMask (s : SlotId) (t : Tag) (a b : Word)
  /-- UNKNOWN_COMMAND: a COMMAND write whose code names no command (R173). -/
  | unknownCommand (s : SlotId) (t : Tag) (code a b : Word)
  /-- PENDING_RECIPE_WRITE: a write to the PENDING RECIPE block (R174). -/
  | pendingRecipeWrite (s : SlotId) (t : Tag) (data : Block)
  /-- SHELF_BLOCK_WRITE: a write to the shelf block through a slot (R179). -/
  | shelfBlockWrite (s : SlotId) (t : Tag) (data : Block)
  /-- READ_ONLY_BLOCK_WRITE: a control write to a read-only or unassigned offset (R171). -/
  | readOnlyBlockWrite (s : SlotId) (t : Tag) (offset : Fin 64) (data : Block)
  /-- GRADE_RECORD_READ: a read of the GRADE RECORD block (R156). -/
  | gradeRecordRead (s : SlotId) (t : Tag)
  /-- ISSUE: the first unblocked command of the slot's issue queue goes to the drive (R97, R100). `pref` is the drive
  tag it takes when that tag is free (log entry 4). -/
  | issue (s : SlotId) (pref : DriveTag)
  /-- DRIVE_COMPLETION: a drive completion naming drive tag `d` arrives (R101, R102). -/
  | driveCompletion (s : SlotId) (d : DriveTag) (status : DriveStatus) (data : List Block) (ident : Identification)
  /-- ENGINE_GRANT: the idle engine grants a burst (R20). -/
  | engineGrant
  /-- ENGINE_BURST_DONE: the granted burst has done its blocks (R21). -/
  | engineBurstDone
  /-- DEADLINE_EXPIRY: the deadline of the command at drive tag `d` expires (R119). -/
  | deadlineExpiry (s : SlotId) (d : DriveTag)
  /-- LINK_UP: the drive link reports UP (R122, R130). -/
  | linkUp (s : SlotId)
  /-- LINK_LOST: the drive link reports lost (R125). -/
  | linkLost (s : SlotId)
  /-- LINK_UP_DEADLINE_EXPIRY: the link-up deadline of a reset expires (R123). -/
  | linkUpDeadlineExpiry (s : SlotId)
  /-- ATTACH_LINK_DEADLINE_EXPIRY: the attach link deadline expires (R130). -/
  | attachLinkDeadlineExpiry (s : SlotId)
  /-- CARRIER_INSERTED: the carrier line is taken as present (R127). -/
  | carrierInserted (s : SlotId)
  /-- CARRIER_REMOVED: the carrier line is taken as absent (R133). -/
  | carrierRemoved (s : SlotId)
  /-- LATCH_CLOSED: the latch line is taken as closed (R127). -/
  | latchClosed (s : SlotId)
  /-- LATCH_OPENED: the latch line is taken as open (R132). -/
  | latchOpened (s : SlotId)
  /-- SPIN_UP_GRACE_END: the spin-up grace runs out (R129). -/
  | spinUpGraceEnd (s : SlotId)
  /-- SAMPLE_EVENT: a current reading in mA and a temperature reading in tenths of a degree (R136). -/
  | sampleEvent (s : SlotId) (current : BitVec 32) (temp : BitVec 16)
  /-- DRAIN_END: the closing drain of the slot ends (R147). -/
  | drainEnd (s : SlotId)
  /-- COMPUTATION_START: the idle grading unit starts the head of its list (R148, R149). -/
  | computationStart
  /-- COMPUTATION_COMPLETE: the current grade computation completes (R155). -/
  | computationComplete
  /-- RELEASE_COMPLETION: the release drain of the slot ends (R166). -/
  | releaseCompletion (s : SlotId)
  /-- SHELF_RESET: the whole part resets; `lines` are the eight slots' line levels as read afresh, `memory` is what the
  configuration memory answers, none when it does not (R127, R181, R182). -/
  | shelfReset (lines : List Lines) (memory : Option Block)
  /-- UNKNOWN_KIND_COMMAND_RECORD: a record whose kind code is none of the five (R90). -/
  | unknownKindRecord (s : SlotId) (t : Tag) (kind : BitVec 4) (addr : BitVec 48) (count : BitVec 16) (omitted : Bool)
deriving DecidableEq, Repr

end Sys2Proof
end

