-- ==== Sys2Proof/WellFormed.lean ====
section
/-! DEFINITION. Which commands are well formed: the operands that no bit width already bounds. -/

namespace Sys2Proof

/-- A block holds at most 1024 words (00_scope, Conventions). -/
def Block.wellFormed (b : Block) : Bool := b.length ≤ 1024

/-- The command codes of section 10.8 are 1 to 12. -/
def knownCommandCode (code : Word) : Bool := 1#32 ≤ code && code ≤ 12#32

/-- The record kinds of section 10.8 are 1 to 5. -/
def knownRecordKind (kind : BitVec 4) : Bool := 1#4 ≤ kind && kind ≤ 5#4

/-- The offsets of the window that a control write may change: COMMAND, PENDING RECIPE and the shelf block (R170). -/
def writableOffset (offset : Fin 64) : Bool := offset == 1 || offset == 2 || offset == 32

/-- A well-formed command: its blocks are blocks, an unknown code is unknown, an unknown kind is unknown, a read-only
offset is read-only, and a shelf reset reads eight slots' lines. -/
def Instr.wellFormed : Instr → Bool
  | .read _ _ _ _ _ => true
  | .write _ _ _ _ => true
  | .dataOmittedWrite _ _ _ _ => true
  | .flush _ _ _ _ _ => true
  | .identify _ _ _ _ _ => true
  | .other _ _ _ _ _ _ => true
  | .dataFrame data => Block.wellFormed data
  | .arm _ _ _ _ => true
  | .hold _ _ _ _ => true
  | .resume _ _ _ _ => true
  | .abort _ _ _ _ => true
  | .soak _ _ _ _ => true
  | .adopt _ _ _ _ => true
  | .close _ _ _ _ => true
  | .ship _ _ _ _ => true
  | .release _ _ _ _ => true
  | .resetSlot _ _ _ _ => true
  | .clearEvents _ _ _ _ => true
  | .setMask _ _ _ _ => true
  | .unknownCommand _ _ code _ _ => !knownCommandCode code
  | .pendingRecipeWrite _ _ data => Block.wellFormed data
  | .shelfBlockWrite _ _ data => Block.wellFormed data
  | .readOnlyBlockWrite _ _ offset data => !writableOffset offset && Block.wellFormed data
  | .gradeRecordRead _ _ => true
  | .issue _ _ => true
  | .driveCompletion _ _ _ data _ => data.length ≤ 256 && data.all Block.wellFormed
  | .engineGrant => true
  | .engineBurstDone => true
  | .deadlineExpiry _ _ => true
  | .linkUp _ => true
  | .linkLost _ => true
  | .linkUpDeadlineExpiry _ => true
  | .attachLinkDeadlineExpiry _ => true
  | .carrierInserted _ => true
  | .carrierRemoved _ => true
  | .latchClosed _ => true
  | .latchOpened _ => true
  | .spinUpGraceEnd _ => true
  | .sampleEvent _ _ _ => true
  | .drainEnd _ => true
  | .computationStart => true
  | .computationComplete => true
  | .releaseCompletion _ => true
  | .shelfReset lines memory => lines.length == 8 && (memory.map Block.wellFormed).getD true
  | .unknownKindRecord _ _ kind _ _ _ => !knownRecordKind kind

end Sys2Proof
end

