-- ==== Sys2Proof/Decode.lean ====
section
/-! DEFINITION. The words of a shelf-link command record read as a command, and written as words (10.8, Shelf link
records). The rows of spec/opcode_table.json give no bits, so `decodeTableWord` answers none. -/

namespace Sys2Proof

/-- The table gives no row any bits: no word spells a command by it. -/
def decodeTableWord (_nbits _w : Nat) : Option Instr := none

/-- Word `n` of a record; a word that is missing is zero. -/
def recordWord (ws : List Word) (n : Nat) : Word := ws.getD n 0

/-- Slot (bits 0 to 2), tag (bits 8 to 12), kind (bits 16 to 19), data omitted (bit 24) of word 0. -/
def recordSlot (w : Word) : SlotId := (w.extractLsb' 0 3).toFin
def recordTag (w : Word) : Tag := (w.extractLsb' 8 5).toFin
def recordKind (w : Word) : BitVec 4 := w.extractLsb' 16 4
def recordOmitted (w : Word) : Bool := w.getLsbD 24

/-- The block address: word 1 and the low half of word 2. -/
def recordAddr (w1 w2 : Word) : BitVec 48 := w2.extractLsb' 0 16 ++ w1

/-- The block count: the high half of word 2. -/
def recordCount (w2 : Word) : BitVec 16 := w2.extractLsb' 16 16

/-- The parameter: words 4 to 7. -/
def recordParam (w4 w5 w6 w7 : Word) : BitVec 128 := w7 ++ w6 ++ w5 ++ w4

/-- The command that the eight words of a command record spell. Every record spells one: a kind code that is none of the
five is an unknown kind (R84, R90). Words beyond the eighth and unused bits are not looked at. -/
def decodeRecord (ws : List Word) : Instr :=
  let w0 := recordWord ws 0
  let w2 := recordWord ws 2
  let s := recordSlot w0
  let t := recordTag w0
  let o := recordOmitted w0
  let addr := recordAddr (recordWord ws 1) w2
  let count := recordCount w2
  let kind := recordKind w0
  if kind = 1 then .read s t addr count o
  else if kind = 2 then (if o then .dataOmittedWrite s t addr count else .write s t addr count)
  else if kind = 3 then .flush s t addr count o
  else if kind = 4 then .identify s t addr count o
  else if kind = 5 then
    .other s t addr count o (recordParam (recordWord ws 4) (recordWord ws 5) (recordWord ws 6) (recordWord ws 7))
  else .unknownKindRecord s t kind addr count o

/-- Word 0 of a record. -/
def recordWord0 (s : SlotId) (t : Tag) (kind : BitVec 4) (omitted : Bool) : Word :=
  (0#7 ++ BitVec.ofBool omitted ++ 0#4 ++ kind ++ 0#3 ++ BitVec.ofFin (w := 5) t ++ 0#5 ++ BitVec.ofFin (w := 3) s :
    BitVec 32)

/-- The eight words of a record. -/
def recordWords (s : SlotId) (t : Tag) (kind : BitVec 4) (addr : BitVec 48) (count : BitVec 16) (omitted : Bool)
    (param : BitVec 128) : List Word :=
  [ recordWord0 s t kind omitted, addr.extractLsb' 0 32, count ++ addr.extractLsb' 32 16, 0,
    param.extractLsb' 0 32, param.extractLsb' 32 32, param.extractLsb' 64 32, param.extractLsb' 96 32 ]

/-- The command record of a command that arrives as one; none for a command that is an event of another kind. -/
def encodeRecord : Instr → Option (List Word)
  | .read s t addr count o => some (recordWords s t 1 addr count o 0)
  | .write s t addr count => some (recordWords s t 2 addr count false 0)
  | .dataOmittedWrite s t addr count => some (recordWords s t 2 addr count true 0)
  | .flush s t addr count o => some (recordWords s t 3 addr count o 0)
  | .identify s t addr count o => some (recordWords s t 4 addr count o 0)
  | .other s t addr count o param => some (recordWords s t 5 addr count o param)
  | .unknownKindRecord s t kind addr count o => some (recordWords s t kind addr count o 0)
  | .dataFrame _ | .arm _ _ _ _ | .hold _ _ _ _ | .resume _ _ _ _ | .abort _ _ _ _ | .soak _ _ _ _
  | .adopt _ _ _ _ | .close _ _ _ _ | .ship _ _ _ _ | .release _ _ _ _ | .resetSlot _ _ _ _
  | .clearEvents _ _ _ _ | .setMask _ _ _ _ | .unknownCommand _ _ _ _ _ | .pendingRecipeWrite _ _ _
  | .shelfBlockWrite _ _ _ | .readOnlyBlockWrite _ _ _ _ | .gradeRecordRead _ _ | .issue _ _
  | .driveCompletion _ _ _ _ _ | .engineGrant | .engineBurstDone | .deadlineExpiry _ _ | .linkUp _ | .linkLost _
  | .linkUpDeadlineExpiry _ | .attachLinkDeadlineExpiry _ | .carrierInserted _ | .carrierRemoved _ | .latchClosed _
  | .latchOpened _ | .spinUpGraceEnd _ | .sampleEvent _ _ _ | .drainEnd _ | .computationStart | .computationComplete
  | .releaseCompletion _ | .shelfReset _ _ => none

end Sys2Proof
end

