-- ==== Sys2Proof/Config.lean ====
section
/-! DEFINITION. The constants of the HT848 and the one value the manual leaves undefined. -/

namespace Sys2Proof.Config

/-- The control window base W, 2^48 − 64 (R87). -/
def controlBase : Nat := 281474976710592

/-- One past the last block address, 2^48. -/
def addressEnd : Nat := 281474976710656

/-- The wipe epoch (R5). -/
def wipeEpoch : Nat := 65535

/-- A zone map has at most 1024 zones (R25). -/
def maxZones : Nat := 1024

/-- A defect table holds at most 512 extents (R67). -/
def maxExtents : Nat := 512

/-- An extent is at most 65535 blocks long (R66). -/
def maxExtentLength : Nat := 65535

/-- A post list holds at most 8 entries (R107). -/
def maxPosted : Nat := 8

/-- A burst is at most 16 blocks (R20). -/
def burstBlocks : Nat := 16

/-- Largest values of the saturating counters. -/
def max16 : Nat := 65535
def max24 : Nat := 16777215
def max32 : Nat := 4294967295
def max48 : Nat := 281474976710655

/-- The pass serial counter stops at 65535 (R44), the write epoch counter at 65534 (R45). -/
def maxSerial : Nat := 65535
def maxWriteEpoch : Nat := 65534

/-- Times, in milliseconds of the shelf clock: sample period (R136), spin-up grace and attach link deadline (R129),
link-up deadline (R123). -/
def samplePeriod : Nat := 100
def spinUpGrace : Nat := 15000
def attachLinkTime : Nat := 30000
def linkUpTime : Nat := 10000

/-- The option marker, word 0 of an option record (R182). -/
def optionMarker : Word := 0x7E5A0C31#32

/-- The record marker, word 0 of a ship record (10.8). -/
def shipMarker : Word := 0x5C31E8A7#32

/-- FREE VALUE. The slot key while no drive is identified: R1 says K is undefined then. No reachable state uses it (a
slot without a key has no stamp class, R1); log entry 14. -/
opaque undefinedKey : Word

end Sys2Proof.Config
end

