-- ==== Sys2Proof/Machine/State.lean ====
section
/-! DEFINITION. The state of the HT848: every record the spec gives the part, as plain data, and its value right after a
shelf reset. The names are the spec's; each type cites the rule that gives it. -/

namespace Sys2Proof.Machine

/-! ## Named values (the codes of section 10.8) -/

/-- The phase of a slot (R144). -/
inductive Phase
  | empty | attaching | ready | running | held | soak | grading | graded | shipping | shipped | released | faulted
deriving DecidableEq, Repr

/-- The cause of a FAULTED phase (R143). -/
inductive FaultCause
  | trip | linkLost | resetLimit
deriving DecidableEq, Repr

/-- The grading step (R146). -/
inductive GradingStep
  | none | draining | queued | computing
deriving DecidableEq, Repr

/-- The region status (R24). -/
inductive RegionStatus
  | unidentified | formatMismatch | empty | enabled
deriving DecidableEq, Repr

/-- The drive link state (section 6.3). -/
inductive LinkState
  | down | up | resetting
deriving DecidableEq, Repr

/-- The state of a zone (R26). -/
inductive ZoneState
  | blank | ordered | mixed | untracked
deriving DecidableEq, Repr

/-- The kind of a pass (R43). -/
inductive PassKind
  | none | write | read | ship
deriving DecidableEq, Repr

/-- The state of a pass (R43). -/
inductive PassState
  | none | running | held | complete | aborted
deriving DecidableEq, Repr

/-- The kinds of failure, of a run and of an extent (R11, R66). -/
inductive FailKind
  | miscompare | stale | timeout | writeFail | media | misplaced
deriving DecidableEq, Repr

/-- The status of an extent (R66). -/
inductive ExtentStatus
  | suspect | confirmed | cleared
deriving DecidableEq, Repr

/-- The address classes (R87). -/
inductive AddrClass
  | control | beyond | guarded | stamp | clear
deriving DecidableEq, Repr

/-- The kinds of drive command (R84). -/
inductive CmdKind
  | read | write | flush | identify | other
deriving DecidableEq, Repr

/-- The state of a command of the slot: WAITING (or, for a posted write, QUEUED), AT-DRIVE, CANCELLED (posted writes
only), CHECKING, AT-RESPONDER (R95, R107). -/
inductive CmdState
  | waiting | atDrive | cancelled | checking | atResponder
deriving DecidableEq, Repr

/-- The condition of a completion record (R86). -/
inductive Condition
  | good | verifyFail | media | driveError | timeout | aborted | slotDown
  | malformed | tagBusy | outOfRange | straddle | slotLeaving | wrongPhase | guarded | noData | notArmed | held
  | readOnly
deriving DecidableEq, Repr

/-- The outcome of a control-window command (R173). -/
inductive CmdOutcome
  | none | done | wrongPhase | thermal | passLimit | noRegion | closed | unknown
deriving DecidableEq, Repr

/-- The current live status (R137). -/
inductive CurrentLive
  | normal | over
deriving DecidableEq, Repr

/-- The temperature live status (R138). -/
inductive TempLive
  | inWindow | below | above | critical
deriving DecidableEq, Repr

/-- The verdict of a slot, with the grade's bin where it shows one (R168). -/
inductive Verdict
  | none | ship (bin : Nat) | unshipped (bin : Nat) | reject (bin : Nat) | fault
deriving DecidableEq, Repr

/-- The sixteen event flags (R177). -/
inductive EventFlag
  | attached | passDone | lap | checkpoint | soakDone | defect | tableFull | postFail
  | timeout | sense | held | gradeReady | shipDone | released | trip | fault
deriving DecidableEq, Repr

/-! ## Recipes and the shelf block -/

/-- A recipe, field by field as its 16 words carry it (10.8, Recipe). -/
structure Recipe where
  s0           : BitVec 64
  e0           : BitVec 64
  seed         : Word
  guardCode    : BitVec 8
  readReturn   : BitVec 8
  polarity     : BitVec 8
  posting      : BitVec 8
  priority     : BitVec 8
  timeout      : BitVec 8
  slow         : BitVec 16
  checkpoint   : BitVec 16
  mask         : BitVec 16
  overCode     : BitVec 8
  tripCode     : BitVec 8
  lowCode      : BitVec 8
  highCode     : BitVec 8
  criticalCode : BitVec 8
  wh           : BitVec 8
  ws           : BitVec 8
  we           : BitVec 8
  wt           : BitVec 8
  wl           : BitVec 8
deriving DecidableEq, Repr

/-- One entry of the bin table (R154). -/
structure BinEntry where
  enabled          : Bool
  ceiling          : Word
  maxMisplaced     : BitVec 8
  coverageRequired : Bool
  minSoak          : BitVec 16
  allowance        : BitVec 8
deriving DecidableEq, Repr

/-- The shelf block's own fields and the shelf clock (R179, R180). `loaded` is the option status LOADED. -/
structure Shelf where
  number : BitVec 8
  loaded : Bool
  clock  : Nat
  recipe : Recipe
  bins   : List BinEntry
deriving DecidableEq, Repr

/-! ## Zones and passes -/

/-- The stamp region of a slot as last derived: status, S and E (R23, R24). -/
structure Region where
  status : RegionStatus
  first  : Nat
  stop   : Nat
deriving DecidableEq, Repr

/-- A zone record (R26): state, E, P, WF, RF. -/
structure Zone where
  state    : ZoneState
  current  : Nat
  previous : Nat
  wf       : Nat
  rf       : Nat
deriving DecidableEq, Repr

/-- The zone map with the region it was built for (R38). -/
structure ZoneMap where
  region : Region
  zones  : List Zone
deriving DecidableEq, Repr

/-- The pass record (R43). -/
structure PassRecord where
  kind        : PassKind
  endless     : Bool
  serial      : Nat
  epoch       : Nat
  state       : PassState
  holdHost    : Bool
  holdThermal : Bool
  remaining   : Nat
  outstanding : Nat
  laps        : Nat
  failures    : Nat
  checkpoint  : Nat
deriving DecidableEq, Repr

/-- The counters and flags beside the pass record, and the soak (R44, R45, R59, R60, R63, R64). -/
structure Tally where
  serials      : Nat
  writeEpochs  : Nat
  writeCovered : Bool
  verified     : Bool
  writePasses  : Nat
  readPasses   : Nat
  soakMs       : Nat
  soakTarget   : Nat
  soakGained   : Nat
deriving DecidableEq, Repr

/-! ## Classification and the defect table -/

/-- The class of one block of a stamp-region read (section 1.4); MISCOMPARE carries its bad-word count, MISPLACED the
address the block claims. -/
inductive BlockClass
  | good | unverified | unread | media | stale
  | misplaced (claimed : Nat)
  | miscompare (bad : Nat)
deriving DecidableEq, Repr

/-- A failure run as it is handed to the defect table, without the serial and time it gets there (R16, R68). -/
structure Run where
  first   : Nat
  length  : Nat
  kind    : FailKind
  worstB  : Nat
  claimed : Option Nat
deriving DecidableEq, Repr

/-- An extent of the defect table (R66). Times are whole seconds. -/
structure Extent where
  start       : Nat
  length      : Nat
  kind        : FailKind
  status      : ExtentStatus
  firstSerial : Nat
  firstTime   : Nat
  lastSerial  : Nat
  lastTime    : Nat
  hits        : Nat
  worstB      : Nat
  claimed     : Option Nat
deriving DecidableEq, Repr

/-- A slot's defect table (R67). Its frozen condition is the slot's closed flag. -/
structure DefectTable where
  extents   : List Extent
  overflow  : Nat
  postClose : Nat
deriving DecidableEq, Repr

/-! ## Commands, jobs and the drive link -/

/-- A zone as a read copied it at its issue, with the blocks it covers (R6). -/
structure ZoneCopy where
  first  : Nat
  length : Nat
  zone   : Zone
deriving DecidableEq, Repr

/-- The check information of a stamp-region read, copied at its issue (R6, R14): zones, key, polarity, return mode. -/
structure CheckInfo where
  zones     : List ZoneCopy
  key       : Word
  alternate : Bool
  full      : Bool
deriving DecidableEq, Repr

/-- What a generation job generates under: key, polarity, epoch (R18). -/
structure Generation where
  key       : Word
  alternate : Bool
  epoch     : Nat
deriving DecidableEq, Repr

/-- One command of the slot. `tag` is its upstream tag; a posted write has none. A command with a tag is an entry of the
command table (R95), one without is an entry of the post list (R107), and the commands in state `waiting` are the issue
queue (R97). `cls` is the class decided when the command was taken; FLUSH, IDENTIFY and OTHER have none. -/
structure Cmd where
  tag        : Option Tag
  kind       : CmdKind
  addr       : BitVec 48
  count      : BitVec 16
  omitted    : Bool
  param      : BitVec 128
  cls        : Option AddrClass
  state      : CmdState
  driveTag   : Option DriveTag
  serial     : Option Nat
  frames     : List Block
  check      : Option CheckInfo
  returned   : List Block
  classes    : List BlockClass
  driveError : Option DriveError
  reissues   : Nat
  generation : Option Generation
  issuedAt   : Nat
  deadline   : Option Nat
deriving DecidableEq, Repr

/-- Whose job it is: a generation job belongs to the write at its drive tag, a check job to the read at its upstream
tag (R18). -/
inductive JobOwner
  | generate (d : DriveTag) (g : Generation)
  | check (t : Tag)
deriving DecidableEq, Repr

/-- An engine job: the blocks from `addr`, `total` of them, `done` of them worked, and `granted` blocks in the burst that
holds the engine now (0 when this job does not hold it; log entry 28). -/
structure Job where
  owner   : JobOwner
  addr    : Nat
  total   : Nat
  done    : Nat
  granted : Nat
deriving DecidableEq, Repr

/-- The commands of the slot in acceptance order, the drive tags that cancelled commands hold, and the engine queue. -/
structure Traffic where
  cmds     : List Cmd
  heldTags : List DriveTag
  jobs     : List Job
deriving DecidableEq, Repr

/-- What the part sends on a drive link: link actions, drive commands (R100) and blocks (R21, R100). -/
inductive DriveMsg
  | bringUp
  | linkReset
  | command (d : DriveTag) (kind : CmdKind) (addr : BitVec 48) (count : BitVec 16) (param : BitVec 128)
  | block (d : DriveTag) (data : Block)
deriving DecidableEq, Repr

/-- The drive link: state, link-up deadline of a reset in progress, and what was sent on it, oldest first (log entry
13). -/
structure Link where
  state      : LinkState
  upDeadline : Option Nat
  out        : List DriveMsg
deriving DecidableEq, Repr

/-- The timing statistics (R116). -/
structure Timing where
  completed   : Nat
  sum         : Nat
  longest     : Nat
  histogram   : List Nat
  slow        : Nat
  timeouts    : Nat
  linkResets  : Nat
  consecutive : Nat
  late        : Nat
deriving DecidableEq, Repr

/-! ## Supervisor, monitors, grading -/

/-- The supervisor's carrier state, phase, fault cause and closed flag (chapter 7). The grace, the attach link deadline
and the next sample event are held as the shelf times at which they are due. -/
structure Supervisor where
  phase          : Phase
  cause          : Option FaultCause
  closed         : Bool
  carrier        : Bool
  latch          : Bool
  power          : Bool
  warning        : Bool
  graceEnd       : Option Nat
  attachDeadline : Option Nat
  nextSample     : Option Nat
deriving DecidableEq, Repr

/-- The identity of a drive (R131). -/
structure Identity where
  serial    : BitVec 160
  capacity  : Nat
  blockSize : Nat
deriving DecidableEq, Repr

/-- The monitors (R136 to R140). The `Out` fields are the previous-sample states: true for outside the limit. -/
structure Monitors where
  current       : BitVec 32
  temp          : BitVec 16
  currentLive   : CurrentLive
  tempLive      : TempLive
  overOut       : Bool
  lowOut        : Bool
  highOut       : Bool
  criticalOut   : Bool
  currentCount  : Nat
  tempCount     : Nat
  currentSticky : Bool
  tempSticky    : Bool
deriving DecidableEq, Repr

/-- The inputs of a grade computation that the grade record keeps (R149, R155). -/
structure GradeInputs where
  capacity    : Nat
  confirmed   : Nat
  suspect     : Nat
  misplaced   : Nat
  overflow    : Nat
  tempCount   : Nat
  currentCount : Nat
  timeouts    : Nat
  slow        : Nat
  soakMinutes : Nat
  coverage    : Bool
  writePasses : Nat
  readPasses  : Nat
  serial      : BitVec 160
  closedAt    : Nat
deriving DecidableEq, Repr

/-- The five weights of a recipe (R149). -/
structure Weights where
  wh : Nat
  ws : Nat
  we : Nat
  wt : Nat
  wl : Nat
deriving DecidableEq, Repr

/-- The grade record (R155). -/
structure GradeRecord where
  bin    : Nat
  score  : Nat
  inputs : GradeInputs
deriving DecidableEq, Repr

/-- The current computation of the grading unit: slot, inputs, weights and the copy of the bin table (R148, R149). -/
structure Computation where
  slot    : SlotId
  inputs  : GradeInputs
  weights : Weights
  bins    : List BinEntry
deriving DecidableEq, Repr

/-- Grading step, grade record, ship record state, release-pending condition and verdict of a slot. -/
structure Closing where
  step           : GradingStep
  grade          : Option GradeRecord
  shipWritten    : Bool
  releasePending : Bool
  verdict        : Verdict
deriving DecidableEq, Repr

/-- The event flags and the event mask, bit n as R177 numbers them. -/
structure Events where
  flags : BitVec 16
  mask  : BitVec 16
deriving DecidableEq, Repr

/-- The COMMAND block (R173). -/
structure CommandBlock where
  code    : Word
  a       : Word
  b       : Word
  outcome : CmdOutcome
  count   : BitVec 16
deriving DecidableEq, Repr

/-- Everything the part holds for one slot. -/
structure Slot where
  sup      : Supervisor
  mon      : Monitors
  ident    : Option Identity
  key      : Option Word
  pending  : Recipe
  active   : Recipe
  zmap     : ZoneMap
  pass     : PassRecord
  tally    : Tally
  defects  : DefectTable
  traffic  : Traffic
  link     : Link
  timing   : Timing
  closing  : Closing
  events   : Events
  command  : CommandBlock
deriving DecidableEq, Repr

/-! ## The shelf link and the whole part -/

/-- The verify summary of a stamp-region read (R12). -/
structure Summary where
  verified   : Nat
  unverified : Nat
  bad        : Nat
  firstBad   : Option Nat
  worst      : Option FailKind
deriving DecidableEq, Repr

/-- A completion record (R86). -/
structure Completion where
  slot    : SlotId
  tag     : Tag
  cond    : Condition
  detail  : Option DriveError
  summary : Option Summary
deriving DecidableEq, Repr

/-- What the part sends on the shelf link: data frames and completion records (R86). -/
inductive Upstream
  | frame (s : SlotId) (data : Block)
  | completion (c : Completion)
deriving DecidableEq, Repr

/-- The WRITE record whose frames the shelf link port is collecting (R84). -/
structure Collecting where
  slot   : SlotId
  tag    : Tag
  addr   : BitVec 48
  count  : BitVec 16
  frames : List Block
deriving DecidableEq, Repr

/-- The grading unit: request list, head first, and current computation (R148). -/
structure Grader where
  queue   : List SlotId
  current : Option Computation
deriving DecidableEq, Repr

/-- The state of the HT848. `pending` is the queue of commands that wait, first in, first out; `upstream` is what the
shelf link port has sent, oldest first (log entry 13). -/
structure State where
  pending    : List Instr
  slots      : Vector Slot 8
  shelf      : Shelf
  port       : Option Collecting
  upstream   : List Upstream
  engineLast : SlotId
  grader     : Grader
deriving DecidableEq, Repr

/-- Reasons for a fault of the machine. There is none: the spec gives the part no stop, and every command has an effect
or leaves the part as it stands. (The phase FAULTED of a slot is state.) -/
inductive Fault
deriving DecidableEq, Repr

/-- Reasons for a refusal by the model. -/
inductive Refusal
  /-- Raised by an arm of `exec` whose command has no meaning yet; safe, since nothing can be proved of its effect. -/
  | notModelled (mnemonic : String)
deriving DecidableEq, Repr

/-! ## The values right after a shelf reset -/

/-- The built-in default recipe (R182). -/
def Recipe.builtin : Recipe where
  s0 := 0
  e0 := 281474976710592#64
  seed := 0
  guardCode := 2
  readReturn := 0
  polarity := 1
  posting := 1
  priority := 1
  timeout := 10
  slow := 500
  checkpoint := 0
  mask := 0xFFFF
  overCode := 5
  tripCode := 3
  lowCode := 2
  highCode := 4
  criticalCode := 6
  wh := 4
  ws := 1
  we := 10
  wt := 50
  wl := 2

/-- A bin table entry that is not enabled, as entries 4 to 8 of the built-in table (R182). -/
def BinEntry.disabled : BinEntry where
  enabled := false
  ceiling := 0
  maxMisplaced := 0
  coverageRequired := false
  minSoak := 0
  allowance := 0

/-- The built-in bin table (R182). -/
def builtinBins : List BinEntry :=
  [ { enabled := true, ceiling := 100, maxMisplaced := 0, coverageRequired := true, minSoak := 480, allowance := 0 },
    { enabled := true, ceiling := 400, maxMisplaced := 0, coverageRequired := true, minSoak := 480, allowance := 0 },
    { enabled := true, ceiling := 2000, maxMisplaced := 0, coverageRequired := true, minSoak := 240, allowance := 0 },
    .disabled, .disabled, .disabled, .disabled, .disabled ]

/-- The region of a slot with no identified drive (R24). -/
def Region.unidentified : Region where
  status := .unidentified
  first := 0
  stop := 0

/-- The zone map with no records (R39). -/
def ZoneMap.none : ZoneMap where
  region := .unidentified
  zones := []

/-- The pass record before the first pass (R62). -/
def PassRecord.none : PassRecord where
  kind := .none
  endless := false
  serial := 0
  epoch := 0
  state := .none
  holdHost := false
  holdThermal := false
  remaining := 0
  outstanding := 0
  laps := 0
  failures := 0
  checkpoint := 0

/-- Counters, coverage and soak as cleared (R62). -/
def Tally.zero : Tally where
  serials := 0
  writeEpochs := 0
  writeCovered := false
  verified := false
  writePasses := 0
  readPasses := 0
  soakMs := 0
  soakTarget := 0
  soakGained := 0

/-- The empty defect table (R81). -/
def DefectTable.empty : DefectTable where
  extents := []
  overflow := 0
  postClose := 0

/-- No command, no held drive tag, no job (R95 to R97, R22). -/
def Traffic.empty : Traffic where
  cmds := []
  heldTags := []
  jobs := []

/-- The timing statistics as cleared (R116). -/
def Timing.zero : Timing where
  completed := 0
  sum := 0
  longest := 0
  histogram := [0, 0, 0, 0, 0, 0, 0, 0]
  slow := 0
  timeouts := 0
  linkResets := 0
  consecutive := 0
  late := 0

/-- The monitors as cleared (R144). -/
def Monitors.zero : Monitors where
  current := 0
  temp := 0
  currentLive := .normal
  tempLive := .inWindow
  overOut := false
  lowOut := false
  highOut := false
  criticalOut := false
  currentCount := 0
  tempCount := 0
  currentSticky := false
  tempSticky := false

/-- No grading step, no grade record, ship record NONE, no release pending, verdict NONE. -/
def Closing.none : Closing where
  step := .none
  grade := Option.none
  shipWritten := false
  releasePending := false
  verdict := .none

/-- The COMMAND block after shelf reset (R173). -/
def CommandBlock.none : CommandBlock where
  code := 0
  a := 0
  b := 0
  outcome := .none
  count := 0

/-- The supervisor in EMPTY with the lines at the given levels (R144). -/
def Supervisor.empty (lines : Lines) : Supervisor where
  phase := .empty
  cause := Option.none
  closed := false
  carrier := lines.carrier
  latch := lines.latch
  power := false
  warning := false
  graceEnd := Option.none
  attachDeadline := Option.none
  nextSample := Option.none

/-- An EMPTY slot after shelf reset under the built-in default recipe, carrier absent and latch open (log entry 5). -/
def Slot.reset : Slot where
  sup := .empty { carrier := false, latch := false }
  mon := .zero
  ident := Option.none
  key := Option.none
  pending := .builtin
  active := { Recipe.builtin with mask := 0 }
  zmap := .none
  pass := .none
  tally := .zero
  defects := .empty
  traffic := .empty
  link := { state := .down, upDeadline := Option.none, out := [] }
  timing := .zero
  closing := .none
  events := { flags := 0, mask := 0xFFFF }
  command := .none

/-- The part right after a shelf reset at which no carrier was seated and the configuration memory did not answer
(R181, R182; log entry 5). -/
def State.reset : State where
  pending := []
  slots := #v[Slot.reset, Slot.reset, Slot.reset, Slot.reset, Slot.reset, Slot.reset, Slot.reset, Slot.reset]
  shelf := { number := 0, loaded := false, clock := 0, recipe := .builtin, bins := builtinBins }
  port := Option.none
  upstream := []
  engineLast := 7
  grader := { queue := [], current := Option.none }

end Sys2Proof.Machine
end

