-- ==== Sys2Proof/Machine/Ops.lean ====
section
/-! DEFINITION. The named operations over the state: updates of one record of a slot, the slot inside the part, the
shelf link's output, the shelf clock, saturating counts, and the words of a block. -/

namespace Sys2Proof.Machine

/-! ## Counts and words -/

/-- A count that stops at `top` (00_scope, Conventions: saturating). -/
def satAdd (top a b : Nat) : Nat := min top (a + b)

/-- Word `n` of a block; words beyond the list are zero (log entry 15). -/
def wordAt (b : Block) (n : Nat) : Word := b.getD n 0

/-- Byte `n` of a word, byte 0 its low eight bits (10.8). -/
def byteOf (w : Word) (n : Nat) : BitVec 8 := w.extractLsb' (8 * n) 8

/-- The low and the high half of a word. -/
def lowHalf (w : Word) : BitVec 16 := w.extractLsb' 0 16
def highHalf (w : Word) : BitVec 16 := w.extractLsb' 16 16

/-- A word from its four bytes, byte 0 first. -/
def ofBytes (b0 b1 b2 b3 : BitVec 8) : Word := b3 ++ b2 ++ b1 ++ b0

/-- A word from its low and high halves. -/
def ofHalves (lo hi : BitVec 16) : Word := hi ++ lo

/-- The two words of a value of up to 48 bits: low 32 bits, then the high 16 bits in bits 0 to 15 (10.8). -/
def twoWords (n : Nat) : List Word := [BitVec.ofNat 32 n, BitVec.ofNat 32 (n / 4294967296 % 65536)]

/-- The words of a serial number, bytes 0 to 3 in the first (R1, 10.8). -/
def serialWords (serial : BitVec 160) : List Word :=
  [serial.extractLsb' 0 32, serial.extractLsb' 32 32, serial.extractLsb' 64 32, serial.extractLsb' 96 32,
   serial.extractLsb' 128 32]

/-- The leading `n` bytes of a block: what a drive block of fewer than 4096 bytes carries (R84, R161). -/
def leadingBytes : Nat → Block → Block
  | _, [] => []
  | n, w :: ws =>
    if n = 0 then []
    else if n < 4 then [w &&& BitVec.ofNat 32 (2 ^ (8 * n) - 1)]
    else w :: leadingBytes (n - 4) ws

/-! ## Records of a slot -/

/-- Change one record of a slot. -/
def Slot.modSup (f : Supervisor → Supervisor) (sl : Slot) : Slot := { sl with sup := f sl.sup }
def Slot.modMon (f : Monitors → Monitors) (sl : Slot) : Slot := { sl with mon := f sl.mon }
def Slot.modZmap (f : ZoneMap → ZoneMap) (sl : Slot) : Slot := { sl with zmap := f sl.zmap }
def Slot.modPass (f : PassRecord → PassRecord) (sl : Slot) : Slot := { sl with pass := f sl.pass }
def Slot.modTally (f : Tally → Tally) (sl : Slot) : Slot := { sl with tally := f sl.tally }
def Slot.modDefects (f : DefectTable → DefectTable) (sl : Slot) : Slot := { sl with defects := f sl.defects }
def Slot.modTraffic (f : Traffic → Traffic) (sl : Slot) : Slot := { sl with traffic := f sl.traffic }
def Slot.modLink (f : Link → Link) (sl : Slot) : Slot := { sl with link := f sl.link }
def Slot.modTiming (f : Timing → Timing) (sl : Slot) : Slot := { sl with timing := f sl.timing }
def Slot.modClosing (f : Closing → Closing) (sl : Slot) : Slot := { sl with closing := f sl.closing }
def Slot.modEvents (f : Events → Events) (sl : Slot) : Slot := { sl with events := f sl.events }
def Slot.modCommand (f : CommandBlock → CommandBlock) (sl : Slot) : Slot := { sl with command := f sl.command }

/-- The phase of a slot becomes `p`. -/
def Slot.setPhase (p : Phase) (sl : Slot) : Slot := sl.modSup fun u => { u with phase := p }

/-- The commands of the slot become `f` of what they were. -/
def Slot.modCmds (f : List Cmd → List Cmd) (sl : Slot) : Slot := sl.modTraffic fun t => { t with cmds := f t.cmds }

/-- The engine queue of the slot becomes `f` of what it was. -/
def Slot.modJobs (f : List Job → List Job) (sl : Slot) : Slot := sl.modTraffic fun t => { t with jobs := f t.jobs }

/-- Messages go out on the drive link of the slot. -/
def Slot.toDrive (msgs : List DriveMsg) (sl : Slot) : Slot := sl.modLink fun l => { l with out := l.out ++ msgs }

/-! ## The slot inside the part -/

/-- Slot `i` of the part. -/
def State.slot (s : State) (i : SlotId) : Slot := s.slots[i]

/-- Slot `i` becomes `sl`. -/
def State.setSlot (s : State) (i : SlotId) (sl : Slot) : State := { s with slots := s.slots.set i sl }

/-- Change slot `i`. -/
def State.modSlot (s : State) (i : SlotId) (f : Slot → Slot) : State := s.setSlot i (f (s.slot i))

/-- The shelf link port sends records, in order (R86). -/
def State.say (s : State) (out : List Upstream) : State := { s with upstream := s.upstream ++ out }

/-- The shelf clock now, in milliseconds (R180). -/
def State.now (s : State) : Nat := s.shelf.clock

/-- The shelf clock is brought forward to `t` if it has not reached it; it stops at 2^48 − 1 (R180, log entry 2). -/
def State.advance (t : Nat) (s : State) : State :=
  { s with shelf := { s.shelf with clock := min Config.max48 (max s.shelf.clock t) } }

/-- The shelf clock is brought forward to an event's due time, where it has one. -/
def State.advanceTo (due : Option Nat) (s : State) : State := (due.map fun t => s.advance t).getD s

/-- One millisecond passes (R180, log entry 1). -/
def State.tick (s : State) : State :=
  { s with shelf := { s.shelf with clock := min Config.max48 (s.shelf.clock + 1) } }

/-- A slot inside an event, with the records the event has sent upstream so far. The changes of an event stand in the
slot before its records are sent (R184). -/
structure Act where
  sl  : Slot
  out : List Upstream

/-- An event begins at a slot. -/
def Act.start (sl : Slot) : Act := { sl := sl, out := [] }

/-- The event changes the slot. -/
def Act.mod (f : Slot → Slot) (x : Act) : Act := { x with sl := f x.sl }

/-- The event sends records upstream. -/
def Act.say (out : List Upstream) (x : Act) : Act := { x with out := x.out ++ out }

/-- The event of slot `i` ends: the slot is as the event left it and its records are sent. -/
def State.commit (s : State) (i : SlotId) (x : Act) : State := (s.setSlot i x.sl).say x.out

/-- A completion record with no detail and no summary. -/
def reply (i : SlotId) (t : Tag) (c : Condition) : Upstream :=
  .completion { slot := i, tag := t, cond := c, detail := none, summary := none }

/-! ## Commands of a slot -/

/-- A posted write has no upstream tag (R107). -/
def Cmd.posted (c : Cmd) : Bool := c.tag.isNone

/-- A data command: every command of the list but a control command at the responder, being answered or held. -/
def Cmd.isData (c : Cmd) : Bool := c.state != .atResponder

/-- The command is at the drive under drive tag `d`. -/
def Cmd.atTag (d : DriveTag) (c : Cmd) : Bool := c.state == .atDrive && c.driveTag == some d

/-- A control command takes its entry in slot `i`'s command table (R93). -/
def State.takeEntry (i : SlotId) (c : Cmd) (s : State) : State :=
  s.modSlot i fun sl => sl.modCmds fun cs => cs ++ [c]

/-- The entry under tag `t` becomes free, since its completion record has been sent (R95). -/
def State.freeEntry (i : SlotId) (t : Tag) (s : State) : State :=
  s.modSlot i fun sl => sl.modCmds fun cs => cs.filter fun c => c.tag != some t

/-- The first block of the range and its length. -/
def Cmd.start (c : Cmd) : Nat := c.addr.toNat
def Cmd.length (c : Cmd) : Nat := c.count.toNat

/-- Only READ and WRITE have a block range (R84). -/
def Cmd.hasRange (c : Cmd) : Bool := c.kind == .read || c.kind == .write

/-- Two commands share a block. -/
def Cmd.overlaps (c d : Cmd) : Bool :=
  c.hasRange && d.hasRange && c.start < d.start + d.length && d.start < c.start + c.length

/-- A data-omitted write of class STAMP: stamped by the part (R18). -/
def Cmd.stamped (c : Cmd) : Bool := c.kind == .write && c.omitted && c.cls == some .stamp

/-- A read of class STAMP: verified by the part (R6). -/
def Cmd.verified (c : Cmd) : Bool := c.kind == .read && c.cls == some .stamp

/-- A ship record write: the only data-omitted write of class GUARDED that is ever taken (R92). -/
def Cmd.shipRecord (c : Cmd) : Bool := c.kind == .write && c.omitted && c.cls == some .guarded

/-- The commands that hold an upstream tag, in command table order, tag 0 first (R95, R105). -/
def inTagOrder (cmds : List Cmd) : List Cmd :=
  (List.finRange 32).filterMap fun t => cmds.find? fun c => c.tag == some t

/-- The failure run of a command's whole range. -/
def Cmd.wholeRun (c : Cmd) (k : FailKind) : Run :=
  { first := c.start, length := c.length, kind := k, worstB := 0, claimed := none }

/-- The failing block as an offset into the command's range, when the drive gave one inside it (R7, R102, R111). -/
def Cmd.failingOffset (c : Cmd) (e : DriveError) : Option Nat :=
  match e.failing with
  | none => none
  | some f => if c.start ≤ f.toNat ∧ f.toNat < c.start + c.length then some (f.toNat - c.start) else none

/-- The WRITE-FAIL run of a write the drive failed: from the failing block to the end, or the whole range (R102,
R111). -/
def Cmd.writeFailRun (c : Cmd) (e : DriveError) : Run :=
  match c.failingOffset e with
  | none => c.wholeRun .writeFail
  | some k => { first := c.start + k, length := c.length - k, kind := .writeFail, worstB := 0, claimed := none }

end Sys2Proof.Machine
end

