-- ==== Sys2Proof/Machine/Flags.lean ====
section
/-! DEFINITION. Event flags, masks, the attention line and the bin indicator (R169, R177, R178). -/

namespace Sys2Proof.Machine

/-- The bit of an event flag (R177). -/
def EventFlag.bit : EventFlag → BitVec 16
  | .attached => 0x0001
  | .passDone => 0x0002
  | .lap => 0x0004
  | .checkpoint => 0x0008
  | .soakDone => 0x0010
  | .defect => 0x0020
  | .tableFull => 0x0040
  | .postFail => 0x0080
  | .timeout => 0x0100
  | .sense => 0x0200
  | .held => 0x0400
  | .gradeReady => 0x0800
  | .shipDone => 0x1000
  | .released => 0x2000
  | .trip => 0x4000
  | .fault => 0x8000

/-- The mask bits that are always 1: TRIP and FAULT (R177, R178). -/
def alwaysOn : BitVec 16 := 0xC000

/-- A flag is set by its cause and stays set (R177). -/
def Slot.raise (f : EventFlag) (sl : Slot) : Slot := sl.modEvents fun e => { e with flags := e.flags ||| f.bit }

/-- A flag is set when `p` holds. -/
def Slot.raiseIf (p : Bool) (f : EventFlag) (sl : Slot) : Slot := if p then sl.raise f else sl

/-- The flag is set. -/
def Slot.flagSet (sl : Slot) (f : EventFlag) : Bool := sl.events.flags &&& f.bit != 0

/-- A mask as it is stored: TRIP and FAULT taken as 1 (R177). -/
def storedMask (m : BitVec 16) : BitVec 16 := m ||| alwaysOn

/-- CLEAR-EVENTS: the selected flags are cleared; clearing SENSE clears both sticky flags (R177). -/
def Slot.clearFlags (m : BitVec 16) (sl : Slot) : Slot :=
  let sl := sl.modEvents fun e => { e with flags := e.flags &&& ~~~m }
  if m &&& EventFlag.sense.bit = 0 then sl
  else sl.modMon fun q => { q with currentSticky := false, tempSticky := false }

/-- The slot contributes to the attention line (R178). -/
def Slot.attention (sl : Slot) : Bool := sl.events.flags &&& sl.events.mask != 0

/-- The attention line (R178). -/
def State.attentionLine (s : State) : Bool := slotIds.any fun i => (s.slot i).attention

/-- The attention summary, one bit per slot (R178). Which bit of the byte stands for which slot the spec does not say: bit
`n` for slot `n` is the model's choice (DESIGN CHOICE, unsafe; log entry 32). -/
def State.attentionSummary (s : State) : Nat :=
  (slotIds.map fun i => if (s.slot i).attention then 2 ^ i.val else 0).sum

/-- The value on a slot's bin indicator lines (R169). -/
def Slot.indicator (sl : Slot) : Nat :=
  match sl.sup.phase with
  | .empty => 0
  | .attaching | .ready | .running | .held | .soak => 9
  | .faulted => 11
  | .grading | .graded | .shipping | .shipped => 12
  | .released =>
    match sl.closing.verdict with
    | .ship n => n
    | .reject _ => 10
    | .fault => 11
    | .unshipped _ => 13
    | .none => 0

end Sys2Proof.Machine
end

