-- ==== Sys2Proof/Machine/Recipe.lean ====
section
/-! DEFINITION. Recipes, bin tables and option records: their words, clamping, and the tables the codes select. -/

namespace Sys2Proof.Machine

/-- The recipe carried by the 16 words of a block from word `k` on (10.8, Recipe; R174: whole, no field clamped; log
entry 17 for the upper halves of S0 and E0). -/
def Recipe.ofBlock (b : Block) (k : Nat) : Recipe where
  s0 := wordAt b (k + 1) ++ wordAt b k
  e0 := wordAt b (k + 3) ++ wordAt b (k + 2)
  seed := wordAt b (k + 4)
  guardCode := byteOf (wordAt b (k + 5)) 0
  readReturn := byteOf (wordAt b (k + 5)) 1
  polarity := byteOf (wordAt b (k + 5)) 2
  posting := byteOf (wordAt b (k + 5)) 3
  priority := byteOf (wordAt b (k + 6)) 0
  timeout := byteOf (wordAt b (k + 6)) 1
  slow := highHalf (wordAt b (k + 6))
  checkpoint := lowHalf (wordAt b (k + 7))
  mask := highHalf (wordAt b (k + 7))
  overCode := byteOf (wordAt b (k + 8)) 0
  tripCode := byteOf (wordAt b (k + 8)) 1
  lowCode := byteOf (wordAt b (k + 8)) 2
  highCode := byteOf (wordAt b (k + 8)) 3
  criticalCode := byteOf (wordAt b (k + 9)) 0
  wh := byteOf (wordAt b (k + 10)) 0
  ws := byteOf (wordAt b (k + 10)) 1
  we := byteOf (wordAt b (k + 10)) 2
  wt := byteOf (wordAt b (k + 10)) 3
  wl := byteOf (wordAt b (k + 11)) 0

/-- The 16 words of a recipe; unused bits and words are zero (10.8). -/
def Recipe.words (r : Recipe) : List Word :=
  [ r.s0.extractLsb' 0 32, r.s0.extractLsb' 32 32, r.e0.extractLsb' 0 32, r.e0.extractLsb' 32 32, r.seed,
    ofBytes r.guardCode r.readReturn r.polarity r.posting,
    ofHalves (r.timeout ++ r.priority) r.slow,
    ofHalves r.checkpoint r.mask,
    ofBytes r.overCode r.tripCode r.lowCode r.highCode,
    ofBytes r.criticalCode 0 0 0,
    ofBytes r.wh r.ws r.we r.wt,
    ofBytes r.wl 0 0 0, 0, 0, 0, 0 ]

/-- `x` or `top`, whichever is less. -/
def atMost {n : Nat} (top x : BitVec n) : BitVec n := if top < x then top else x

/-- The timeout adopted: 1 to 120 seconds (R118, R176). -/
def clampTimeout (x : BitVec 8) : BitVec 8 := if x = 0 then 1 else atMost 120 x

/-- The slow threshold adopted: rounded down to a multiple of 50, then clamped to 50 to 5000 (R117, R176). -/
def clampSlow (x : BitVec 16) : BitVec 16 :=
  let r := x.toNat / 50 * 50
  BitVec.ofNat 16 (if r < 50 then 50 else if 5000 < r then 5000 else r)

/-- A recipe as clamped at adoption (R176). -/
def Recipe.clamp (r : Recipe) : Recipe :=
  { r with
    s0 := r.s0 &&& 0x0000FFFFFFFFFFFF
    e0 := r.e0 &&& 0x0000FFFFFFFFFFFF
    guardCode := atMost 4 r.guardCode
    readReturn := r.readReturn &&& 1
    polarity := r.polarity &&& 1
    posting := r.posting &&& 1
    priority := atMost 3 r.priority
    timeout := clampTimeout r.timeout
    slow := clampSlow r.slow
    mask := 0
    overCode := atMost 7 r.overCode
    tripCode := atMost 7 r.tripCode
    lowCode := atMost 7 r.lowCode
    highCode := atMost 7 r.highCode
    criticalCode := atMost 7 r.criticalCode }

/-- FULL read return (R14): code 1, decided by the lowest bit (R171). -/
def Recipe.full (r : Recipe) : Bool := r.readReturn.getLsbD 0

/-- ALTERNATE polarity (R4): code 1, decided by the lowest bit. -/
def Recipe.alternate (r : Recipe) : Bool := r.polarity.getLsbD 0

/-- Posting on (R108): code 1, decided by the lowest bit. -/
def Recipe.posts (r : Recipe) : Bool := r.posting.getLsbD 0

/-- The guard size G that the guard code selects (R23). -/
def Recipe.guardSize (r : Recipe) : Nat :=
  match r.guardCode.toNat with
  | 0 => 0
  | 1 => 512
  | 2 => 1024
  | 3 => 2048
  | _ => 4096

/-- The over-current level in mA (R136). -/
def overLevel (code : BitVec 8) : Nat :=
  match code.toNat with
  | 0 => 800
  | 1 => 1000
  | 2 => 1200
  | 3 => 1500
  | 4 => 1800
  | 5 => 2000
  | 6 => 2500
  | _ => 3000

/-- The trip level in mA, none for code 7 (R136). -/
def tripLevel (code : BitVec 8) : Option Nat :=
  match code.toNat with
  | 0 => some 2000
  | 1 => some 2500
  | 2 => some 3000
  | 3 => some 3500
  | 4 => some 4000
  | 5 => some 4500
  | 6 => some 5000
  | _ => none

/-- The temperature of a low, high or critical code, in tenths of a degree Celsius (R136). -/
def tempLevel (code : BitVec 8) : Int :=
  match code.toNat with
  | 0 => 300
  | 1 => 350
  | 2 => 400
  | 3 => 450
  | 4 => 500
  | 5 => 550
  | 6 => 600
  | _ => 650

/-- The temperature window is disabled: low at or above high (R138). -/
def Recipe.windowDisabled (r : Recipe) : Bool := tempLevel r.highCode ≤ tempLevel r.lowCode

/-- The timeout of the recipe in milliseconds (R118). -/
def Recipe.timeoutMs (r : Recipe) : Nat := r.timeout.toNat * 1000

/-- One entry of a bin table from the four words of a block from word `k` on; a ceiling above 16,777,215 is stored as
16,777,215 (R179, R182). -/
def BinEntry.ofBlock (b : Block) (k : Nat) : BinEntry where
  enabled := (wordAt b k).getLsbD 0
  coverageRequired := (wordAt b k).getLsbD 1
  maxMisplaced := byteOf (wordAt b k) 1
  allowance := byteOf (wordAt b k) 2
  ceiling := atMost 16777215 (wordAt b (k + 1))
  minSoak := lowHalf (wordAt b (k + 2))

/-- The four words of a bin table entry (10.8). -/
def BinEntry.words (e : BinEntry) : List Word :=
  [ ofBytes (BitVec.ofNat 8 (e.enabled.toNat + 2 * e.coverageRequired.toNat)) e.maxMisplaced e.allowance 0,
    e.ceiling, ofHalves e.minSoak 0, 0 ]

/-- The bin table in words 32 to 63 of a shelf block or an option record (10.8). -/
def binsOfBlock (b : Block) : List BinEntry :=
  [0, 1, 2, 3, 4, 5, 6, 7].map fun n => BinEntry.ofBlock b (32 + 4 * n)

/-- Entry `n` of a bin table, 1 to 8 (R154). -/
def binEntry (bins : List BinEntry) (n : Nat) : BinEntry := bins.getD (n - 1) .disabled

/-- A write to the shelf block: the default recipe and the bin table are replaced, both whole (R179). -/
def Shelf.written (b : Block) (sh : Shelf) : Shelf := { sh with recipe := Recipe.ofBlock b 16, bins := binsOfBlock b }

/-- The shelf block after the option record has been read at a shelf reset, with the clock at 0 (R181, R182). -/
def Shelf.loadOption (memory : Option Block) : Shelf :=
  match memory with
  | none => { number := 0, loaded := false, clock := 0, recipe := .builtin, bins := builtinBins }
  | some b =>
    if wordAt b 0 = Config.optionMarker then
      { number := byteOf (wordAt b 1) 0, loaded := true, clock := 0, recipe := Recipe.ofBlock b 16,
        bins := binsOfBlock b }
    else { number := 0, loaded := false, clock := 0, recipe := .builtin, bins := builtinBins }

end Sys2Proof.Machine
end

