-- ==== Sys2Proof/Machine/ZoneMap.lean ====
section
/-! DEFINITION. The stamp region, its zones, and what arming, issues and adoption do to the zone map (chapter 2). -/

namespace Sys2Proof.Machine

/-! ## The region -/

/-- The region a recipe and a drive give (R23, R24): S is S0 raised to G, E is E0 lowered to C. -/
def deriveRegion (r : Recipe) (ident : Option Identity) : Region :=
  match ident with
  | none => .unidentified
  | some d =>
    let s := max r.s0.toNat r.guardSize
    let e := min r.e0.toNat d.capacity
    { status := if d.blockSize ≠ 4096 then .formatMismatch else if e ≤ s then .empty else .enabled
      first := s
      stop := e }

/-- The region is enabled (R24). -/
def Region.enabled (g : Region) : Bool := g.status == .enabled

/-- N, the region's block count; 0 unless it is enabled (R23, R158). -/
def Region.blocks (g : Region) : Nat := if g.enabled then g.stop - g.first else 0

/-- Z, the zone length: ceil(N / 1024) (R25). -/
def Region.zoneLength (g : Region) : Nat := (g.blocks + (Config.maxZones - 1)) / Config.maxZones

/-- The zone count: ceil(N / Z) (R25). -/
def Region.zoneCount (g : Region) : Nat := (g.blocks + (g.zoneLength - 1)) / g.zoneLength

/-- The length of zone `i`: Z, but what is left for the last zone (R25). -/
def Region.lengthOf (g : Region) (i : Nat) : Nat := min g.zoneLength (g.blocks - i * g.zoneLength)

/-- A BLANK zone with every field 0 (R39). -/
def Zone.blank : Zone where
  state := .blank
  current := 0
  previous := 0
  wf := 0
  rf := 0

/-- The map built for a region: its zones by R25, each BLANK; no records unless the region is enabled (R38, R39). -/
def ZoneMap.build (g : Region) : ZoneMap where
  region := g
  zones := if g.enabled then List.replicate g.zoneCount .blank else []

/-! ## Ranges over zones -/

/-- Apply `f a b len` to each zone that the blocks from `lo` up to `hi` reach, zone by zone in ascending order (R28):
`a` up to `b` are the offsets covered and `len` is the zone's length. The zones begin at block `first`, are `z` long and
end at `stop`. -/
def overZones (f : Nat → Nat → Nat → Zone → Zone) (lo hi z stop : Nat) : Nat → List Zone → List Zone
  | _, [] => []
  | first, zn :: zs =>
    let len := min z (stop - first)
    let a := max lo first - first
    let b := min hi (first + len) - first
    (if a < b then f a b len zn else zn) :: overZones f lo hi z stop (first + z) zs

/-- The copies of the zones that the blocks from `lo` up to `hi` reach (R6). -/
def copyZones (lo hi z stop : Nat) : Nat → List Zone → List ZoneCopy
  | _, [] => []
  | first, zn :: zs =>
    let len := min z (stop - first)
    if lo < first + len ∧ first < hi then
      { first := first, length := len, zone := zn } :: copyZones lo hi z stop (first + z) zs
    else copyZones lo hi z stop (first + z) zs

/-- A zone map with `f` applied to the portions of the blocks from `lo` up to `hi` (R28). -/
def ZoneMap.portions (f : Nat → Nat → Nat → Zone → Zone) (lo hi : Nat) (m : ZoneMap) : List Zone :=
  overZones f lo hi m.region.zoneLength m.region.stop m.region.first m.zones

/-- A zone map with `f` applied to every zone, with the zone's length. -/
def ZoneMap.every (f : Nat → Zone → Zone) (m : ZoneMap) : List Zone :=
  m.portions (fun _ _ len z => f len z) m.region.first m.region.stop

/-- The zones a read touches, as copied at its issue (R6). -/
def ZoneMap.copies (lo hi : Nat) (m : ZoneMap) : List ZoneCopy :=
  copyZones lo hi m.region.zoneLength m.region.stop m.region.first m.zones

/-- The sums of the write frontiers and of the read frontiers (R54). -/
def sumWF (zs : List Zone) : Nat := (zs.map Zone.wf).sum
def sumRF (zs : List Zone) : Nat := (zs.map Zone.rf).sum

/-! ## What happens to one zone -/

/-- Arming a write pass or a ship pass with epoch `e` over a zone of length `len` (R29). -/
def Zone.arm (e len : Nat) (z : Zone) : Zone :=
  if z.current = e then z
  else match z.state with
    | .blank => { z with state := .ordered, current := e, previous := 0, wf := 0 }
    | .ordered =>
      if z.wf = len then { z with previous := z.current, current := e, wf := 0 }
      else if z.wf = 0 then { z with current := e, wf := 0 }
      else { z with state := .untracked, current := e, wf := 0 }
    | .mixed | .untracked => { z with state := .untracked, current := e, wf := 0 }

/-- Arming a read pass or starting a lap (R30). -/
def Zone.clearRF (z : Zone) : Zone := { z with rf := 0 }

/-- Issue of a data-omitted write of the zone's own epoch while the pass is not HELD (R31). -/
def Zone.stampRunning (a b len : Nat) (z : Zone) : Zone :=
  if a ≤ z.wf then
    { z with wf := max z.wf b, state := if max z.wf b = len then .ordered else z.state }
  else { z with state := if z.state = .ordered then .mixed else z.state }

/-- Issue of a data-omitted write of the zone's own epoch while the pass is HELD (R32). -/
def Zone.stampHeld (b : Nat) (z : Zone) : Zone :=
  if b ≤ z.wf then z else { z with state := if z.state = .ordered then .mixed else z.state }

/-- Issue of a data-omitted write whose epoch is not the zone's (R33). -/
def Zone.outrun (a : Nat) (z : Zone) : Zone := { z with state := .untracked, wf := min z.wf a }

/-- Issue of a data-omitted write under epoch `e` (R31 to R34); a BLANK zone has no epoch and is left unchanged (R33). -/
def Zone.stamp (e : Nat) (held : Bool) (a b len : Nat) (z : Zone) : Zone :=
  if z.state = .blank then z
  else if z.current ≠ e then z.outrun a
  else if held then z.stampHeld b
  else z.stampRunning a b len

/-- Issue of a write with host data (R35). -/
def Zone.foreign (a _b _len : Nat) (z : Zone) : Zone := { z with state := .untracked, wf := min z.wf a }

/-- Issue of a read: the read frontier advances over a portion that starts at or below it, unless the pass is HELD
(R36). -/
def Zone.readOver (held : Bool) (a b _len : Nat) (z : Zone) : Zone :=
  if held then z else if a ≤ z.rf then { z with rf := max z.rf b } else z

end Sys2Proof.Machine
end

