-- ==== Sys2Proof/Machine/Pattern.lean ====
section
/-! DEFINITION. The slot key, the stamp block, the classification of read blocks, failure runs and verify summaries
(chapter 1). -/

namespace Sys2Proof.Machine

/-! ## Key and stamp block -/

/-- The slot key: the XOR of the serial's five words and the seed modifier (R1). -/
def keyOf (serial : BitVec 160) (seed : Word) : Word := (serialWords serial).foldl (· ^^^ ·) seed

/-- The key the slot's identity and active recipe give, none while no drive is identified (R1). -/
def slotKey (ident : Option Identity) (r : Recipe) : Option Word := ident.map fun d => keyOf d.serial r.seed

/-- The low 32 bits of a block address, and the high 16 bits times 65536 plus an epoch (R2). -/
def addrLow (L : Nat) : Word := BitVec.ofNat 32 L
def addrHighEpoch (L e : Nat) : Word := BitVec.ofNat 32 (L / 4294967296 % 65536 * 65536 + e)

/-- One step of the generator (R3): times 8192, over 131072, times 32. -/
def genStep (x : Word) : Word :=
  let x1 := x ^^^ (x <<< 13)
  let x2 := x1 ^^^ (x1 >>> 17)
  x2 ^^^ (x2 <<< 5)

/-- The start state X0 (R3). -/
def genStart (K : Word) (L e : Nat) : Word :=
  let x := K ^^^ addrLow L ^^^ BitVec.ofNat 32 (L / 4294967296 % 65536 * 65536) ^^^ BitVec.ofNat 32 e
  if x = 0 then 1 else x

/-- `n` raw body words after state `x` (R3). -/
def genWords : Nat → Word → List Word
  | 0, _ => []
  | n + 1, x => genStep x :: genWords n (genStep x)

/-- A body word as stored: complemented in a block of odd epoch under ALTERNATE (R4). -/
def storedWord (alternate : Bool) (e : Nat) (w : Word) : Word := if alternate && e % 2 == 1 then ~~~w else w

/-- The 1022 stored body words of a normal stamp block (R3, R4). -/
def stampBody (K : Word) (L e : Nat) (alternate : Bool) : List Word :=
  (genWords 1022 (genStart K L e)).map (storedWord alternate e)

/-- The stamp block for (K, L, e): the wipe block for the wipe epoch, a normal stamp block otherwise (R2 to R5). -/
def stampBlock (K : Word) (alternate : Bool) (e L : Nat) : Block :=
  if e = Config.wipeEpoch then List.replicate 1024 0
  else addrLow L :: addrHighEpoch L e :: stampBody K L e alternate

/-- The blocks a generation job generates: `n` of them from block `L` (R21). -/
def stampBlocks (g : Generation) (L n : Nat) : List Block :=
  (List.range n).map fun k => stampBlock g.key g.alternate g.epoch (L + k)

/-! ## Classification -/

/-- All 1024 words of a block, and its body words 2 to 1023. -/
def fullWords (b : Block) : List Word := (b ++ List.replicate (1024 - b.length) 0).take 1024
def bodyOf (b : Block) : List Word := (fullWords b).drop 2

/-- The claimed address of a block (R2). -/
def claimedAddress (b : Block) : Nat := (wordAt b 1).toNat / 65536 * 4294967296 + (wordAt b 0).toNat

/-- The epoch field of a block (R2). -/
def epochField (b : Block) : Nat := (wordAt b 1).toNat % 65536

/-- How many words of `xs` differ from the word of `ys` at their place. -/
def countDiff (xs ys : List Word) : Nat := ((List.zipWith (fun x y => x != y) xs ys).filter id).length

/-- How many words are not zero. -/
def countNonzero (xs : List Word) : Nat := (xs.filter (· != 0)).length

/-- The expected epochs of a block at offset `k` of a zone, first candidate first (R27). -/
def Zone.expected (z : Zone) (k : Nat) : List Nat :=
  match z.state with
  | .blank | .untracked => []
  | .ordered => if k < z.wf then [z.current] else if z.previous = 0 then [] else [z.previous]
  | .mixed =>
    if k < z.wf then [z.current] else if z.previous = 0 then [z.current] else [z.current, z.previous]

/-- Epoch `c` is recorded in the zone: it is its E or its P, and a write epoch (R9). -/
def Zone.records (z : Zone) (c : Nat) : Bool := (c == z.current || c == z.previous) && 1 ≤ c && c ≤ 65534

/-- The block read back at `L` matches candidate `c` (R8). -/
def matchesEpoch (b : Block) (L c : Nat) : Bool :=
  if c = Config.wipeEpoch then countNonzero (fullWords b) == 0
  else wordAt b 0 == addrLow L && wordAt b 1 == addrHighEpoch L c

/-- The bad body words of a block against candidate `c` (R8, R9). -/
def badBody (K : Word) (alternate : Bool) (b : Block) (L c : Nat) : Nat :=
  if c = Config.wipeEpoch then countNonzero (bodyOf b) else countDiff (bodyOf b) (stampBody K L c alternate)

/-- GOOD for a bad-word count of 0, MISCOMPARE otherwise (R8). -/
def goodOrMiscompare (bad : Nat) : BlockClass := if bad = 0 then .good else .miscompare bad

/-- The class of a returned block at `L` with candidates `cs` in zone `z`, by the cases of R8 and R9. -/
def classifyWith (K : Word) (alternate : Bool) (z : Zone) (cs : List Nat) (L : Nat) (b : Block) : BlockClass :=
  match cs with
  | [] => .unverified
  | c :: more =>
    if c = Config.wipeEpoch ∧ more = [] then goodOrMiscompare (countNonzero (fullWords b))
    else match (c :: more).find? (matchesEpoch b L) with
      | some m => goodOrMiscompare (if m = Config.wipeEpoch then 0 else badBody K alternate b L m)
      | none =>
        if claimedAddress b = L ∧ z.records (epochField b) ∧ epochField b ∉ c :: more then .stale
        else if z.records (epochField b) ∧ claimedAddress b ≠ L then .misplaced (claimedAddress b)
        else .miscompare (2 + badBody K alternate b L c)

/-- The class of the block returned for `L` under a read's check information; a block outside every copied zone has no
expectation (R7, R27). -/
def CheckInfo.classify (i : CheckInfo) (L : Nat) (b : Block) : BlockClass :=
  match i.zones.find? (fun c => c.first ≤ L && L < c.first + c.length) with
  | none => .unverified
  | some c => classifyWith i.key i.alternate c.zone (c.zone.expected (L - c.first)) L b

/-! ## Runs, coverage, summary -/

/-- The failing class of a block, if it has one (section 1.4). -/
def BlockClass.failKind : BlockClass → Option FailKind
  | .good | .unverified | .unread => none
  | .media => some .media
  | .stale => some .stale
  | .misplaced _ => some .misplaced
  | .miscompare _ => some .miscompare

/-- The bad-word count a block gives its run (R10, R16). -/
def BlockClass.bad : BlockClass → Nat
  | .miscompare n => n
  | _ => 0

/-- The address a MISPLACED block claims. -/
def BlockClass.claimed : BlockClass → Option Nat
  | .misplaced n => some n
  | _ => none

/-- Severity, most severe highest (R11). -/
def FailKind.severity : FailKind → Nat
  | .miscompare => 1
  | .stale => 2
  | .timeout => 3
  | .writeFail => 4
  | .media => 5
  | .misplaced => 6

/-- The more severe of two kinds; the first when they are equal. -/
def FailKind.worse (k l : FailKind) : FailKind := if k.severity < l.severity then l else k

/-- Put a failing block in front of the runs of the blocks after it: it lengthens the first run when it adjoins it with
the same class (R16). -/
def joinRun (L : Nat) (k : FailKind) (c : BlockClass) : List Run → List Run
  | [] => [{ first := L, length := 1, kind := k, worstB := c.bad, claimed := c.claimed }]
  | r :: rs =>
    if r.first = L + 1 ∧ r.kind = k then
      { first := L, length := r.length + 1, kind := k, worstB := max c.bad r.worstB, claimed := c.claimed } :: rs
    else { first := L, length := 1, kind := k, worstB := c.bad, claimed := c.claimed } :: r :: rs

/-- The failure runs of blocks classed `cs` from block `L` on, in ascending order (R16). -/
def failureRuns (L : Nat) : List BlockClass → List Run
  | [] => []
  | c :: cs =>
    match c.failKind with
    | none => failureRuns (L + 1) cs
    | some k => joinRun L k c (failureRuns (L + 1) cs)

/-- The good coverage: the maximal ranges of blocks classed GOOD, as first block and length (R16). -/
def goodCoverage (L : Nat) : List BlockClass → List (Nat × Nat)
  | [] => []
  | c :: cs =>
    if c = .good then
      match goodCoverage (L + 1) cs with
      | (f, n) :: rest => if f = L + 1 then (L, n + 1) :: rest else (L, 1) :: (f, n) :: rest
      | [] => [(L, 1)]
    else goodCoverage (L + 1) cs

/-- The block counts as verified: GOOD or a failing class (R12). -/
def BlockClass.isVerified (c : BlockClass) : Bool := c != .unverified && c != .unread

/-- The most severe failing class of a read, none when no block failed (R11). -/
def worstClass (cs : List BlockClass) : Option FailKind :=
  (cs.filterMap BlockClass.failKind).foldl (fun w k => some ((w.map fun v => v.worse k).getD k)) none

/-- The verify summary of a read's classes (R12). -/
def summaryOf (cs : List BlockClass) : Summary where
  verified := (cs.filter BlockClass.isVerified).length
  unverified := (cs.filter fun c => !c.isVerified).length
  bad := (cs.filterMap BlockClass.failKind).length
  firstBad := cs.findIdx? fun c => c.failKind.isSome
  worst := worstClass cs

/-- The classes of the blocks a drive error leaves without data: MEDIA for the failing block, UNREAD after it; all
UNREAD when no failing address lies in the range (R7). -/
def errorClasses (offset : Option Nat) (count : Nat) : List BlockClass :=
  match offset with
  | none => List.replicate count .unread
  | some k => .media :: List.replicate (count - k - 1) .unread

/-- How many blocks of a read returned data (R7). -/
def returnedCount (c : Cmd) (e : Option DriveError) : Nat :=
  match e with
  | none => c.length
  | some e => (c.failingOffset e).getD 0

/-- All classes of a read whose returned blocks are classed `cs` (R7). -/
def Cmd.allClasses (c : Cmd) (cs : List BlockClass) : List BlockClass :=
  match c.driveError with
  | none => cs
  | some e => cs ++ errorClasses (c.failingOffset e) c.length

/-- The condition of a stamp-region read's completion (R13). -/
def readCondition (e : Option DriveError) (bad : Nat) : Condition :=
  match e with
  | some e => match e.cls with
    | .media => .media
    | .other => .driveError
  | none => if bad = 0 then .good else .verifyFail

end Sys2Proof.Machine
end

