-- ==== Sys2Proof/Machine/Defect.lean ====
section
/-! DEFINITION. The defect table: taking a run, clearing by good coverage, freezing, grading inputs (chapter 4). -/

namespace Sys2Proof.Machine

/-- One past the last block of an extent and of a run. -/
def Extent.stop (e : Extent) : Nat := e.start + e.length
def Run.stop (r : Run) : Nat := r.first + r.length

/-- The extent shares a block with the run (R69). -/
def Extent.meets (e : Extent) (r : Run) : Bool := e.start < r.stop && r.first < e.stop

/-- The blocks from `lo` up to `hi` that lie in no extent of an ascending table: the gap parts, as first block and end
(R69, step 1). -/
def gapParts (lo hi : Nat) : List Extent → List (Nat × Nat)
  | [] => if lo < hi then [(lo, hi)] else []
  | e :: es =>
    if hi ≤ e.start then (if lo < hi then [(lo, hi)] else [])
    else if e.stop ≤ lo then gapParts lo hi es
    else (if lo < e.start then [(lo, e.start)] else []) ++ gapParts e.stop hi es

/-- A run is immediate-confirm (R71). -/
def Run.immediate (r : Run) : Bool :=
  r.kind == .media || r.kind == .misplaced || r.kind == .writeFail || (r.kind == .miscompare && 8 < r.worstB)

/-- The status of an extent after a hit (R71). -/
def Extent.statusAfter (r : Run) (serial : Nat) (e : Extent) : ExtentStatus :=
  match e.status with
  | .suspect => if serial ≠ e.lastSerial ∨ r.immediate then .confirmed else .suspect
  | .confirmed => .confirmed
  | .cleared => .confirmed

/-- An extent after a hit from run `r` of serial `serial` at time `t` (R70). -/
def Extent.hit (r : Run) (serial t : Nat) (e : Extent) : Extent :=
  { e with
    hits := min 255 (e.hits + 1)
    kind := e.kind.worse r.kind
    worstB := max e.worstB r.worstB
    claimed := if e.kind ≠ .misplaced ∧ r.kind = .misplaced then r.claimed else e.claimed
    lastSerial := serial
    lastTime := t
    status := e.statusAfter r serial }

/-- The gap part from `g` up to `h` as a part or as a new extent (R73, R74). -/
def Run.part (r : Run) (serial t g h : Nat) : Extent where
  start := g
  length := h - g
  kind := r.kind
  status := if r.immediate then .confirmed else .suspect
  firstSerial := serial
  firstTime := t
  lastSerial := serial
  lastTime := t
  hits := 1
  worstB := r.worstB
  claimed := if r.kind = .misplaced then r.claimed else none

/-- A neighbour qualifies for joining: same kind, not CLEARED (R72). -/
def Extent.qualifies (k : FailKind) (e : Extent) : Bool := e.kind == k && e.status != .cleared

/-- Two parts joined, `x` the lower one, under last-seen (serial, t) (R73). The claimed address is the lower part's when
`x` is an extent of the table and the upper part's otherwise: `fromLower` says which. -/
def Extent.join (serial t : Nat) (fromLower : Bool) (x y : Extent) : Extent where
  start := x.start
  length := x.length + y.length
  kind := x.kind
  status := if x.status = .confirmed ∨ y.status = .confirmed then .confirmed else .suspect
  firstSerial := if y.firstTime < x.firstTime then y.firstSerial else x.firstSerial
  firstTime := min x.firstTime y.firstTime
  lastSerial := serial
  lastTime := t
  hits := max x.hits y.hits
  worstB := max x.worstB y.worstB
  claimed := if fromLower then x.claimed else y.claimed

/-- Put an extent at the place its start requires (R74). -/
def insertExtent (x : Extent) : List Extent → List Extent
  | [] => [x]
  | e :: es => if x.start < e.start then x :: e :: es else e :: insertExtent x es

/-- The table without the extent that starts at `n`. -/
def dropExtent (n : Nat) (es : List Extent) : List Extent := es.filter fun e => e.start != n

/-- What taking a run has done so far: the extents, the blocks that found no room, whether a gap part was recorded. -/
structure Taking where
  extents  : List Extent
  lost     : Nat
  recorded : Bool
deriving DecidableEq, Repr

/-- The neighbour of a gap part on one side, when it qualifies (R72). -/
def leftNeighbour (k : FailKind) (g : Nat) (es : List Extent) : Option Extent :=
  es.find? fun e => e.stop == g && e.qualifies k
def rightNeighbour (k : FailKind) (h : Nat) (es : List Extent) : Option Extent :=
  es.find? fun e => e.start == h && e.qualifies k

/-- Record the gap part from `g` up to `h` by the first case of R72 that applies (R72 to R74, R76). -/
def recordGap (r : Run) (serial t : Nat) (x : Taking) (gap : Nat × Nat) : Taking :=
  let part := r.part serial t gap.1 gap.2
  let fresh : Taking :=
    if x.extents.length < Config.maxExtents then
      { x with extents := insertExtent part x.extents, recorded := true }
    else { x with lost := x.lost + part.length }
  let joinL (l : Extent) : Taking :=
    { x with extents := insertExtent (Extent.join serial t true l part) (dropExtent l.start x.extents)
             recorded := true }
  let joinR (e : Extent) : Taking :=
    { x with extents := insertExtent (Extent.join serial t false part e) (dropExtent e.start x.extents)
             recorded := true }
  match leftNeighbour r.kind gap.1 x.extents, rightNeighbour r.kind gap.2 x.extents with
  | some l, some e =>
    if l.length + part.length + e.length ≤ Config.maxExtentLength then
      { x with
        extents := insertExtent (Extent.join serial t true (Extent.join serial t true l part) e)
          (dropExtent e.start (dropExtent l.start x.extents))
        recorded := true }
    else if l.length + part.length ≤ Config.maxExtentLength then joinL l
    else if part.length + e.length ≤ Config.maxExtentLength then joinR e
    else fresh
  | some l, none => if l.length + part.length ≤ Config.maxExtentLength then joinL l else fresh
  | none, some e => if part.length + e.length ≤ Config.maxExtentLength then joinR e else fresh
  | none, none => fresh

/-- The extents after step 2 of R69: each overlapped extent has taken its hit. -/
def hitExtents (r : Run) (serial t : Nat) (es : List Extent) : List Extent :=
  es.map fun e => if e.meets r then e.hit r serial t else e

/-- A run taken by a table that is not frozen (R69): partition, hits, gap parts. -/
def insertRun (r : Run) (serial t : Nat) (es : List Extent) : Taking :=
  (gapParts r.first r.stop es).foldl (recordGap r serial t)
    { extents := hitExtents r serial t es, lost := 0, recorded := false }

/-- The run moves an extent to CONFIRMED by a hit (R75). -/
def confirmsByHit (r : Run) (serial : Nat) (es : List Extent) : Bool :=
  es.any fun e => e.meets r && e.status != .confirmed && e.statusAfter r serial == .confirmed

/-- The failures field of a running or held pass rises by the length of a run handed over (R55). -/
def Slot.countFailures (n : Nat) (sl : Slot) : Slot :=
  sl.modPass fun p =>
    if p.state = .running ∨ p.state = .held then { p with failures := satAdd Config.max32 p.failures n } else p

/-- A run is handed to the slot's defect table at shelf time `now` (R68, R69, R75, R76, R79, R80, R55): inserted, with
DEFECT and TABLE-FULL raised as they are due, or counted post-close while the table is frozen. -/
def Slot.takeRun (now : Nat) (r : Run) (sl : Slot) : Slot :=
  if sl.sup.closed then
    (sl.modDefects fun d => { d with postClose := satAdd Config.max32 d.postClose r.length }).countFailures r.length
  else
    let serial := sl.tally.serials
    let x := insertRun r serial (now / 1000) sl.defects.extents
    let confirms := confirmsByHit r serial sl.defects.extents
    (((sl.modDefects fun d =>
        { d with extents := x.extents, overflow := satAdd Config.max48 d.overflow x.lost }).countFailures r.length
      ).raiseIf (x.recorded || confirms) .defect).raiseIf (0 < x.lost) .tableFull

/-- The runs of a command are taken one after the other (R68). -/
def Slot.takeRuns (now : Nat) (rs : List Run) (sl : Slot) : Slot := rs.foldl (fun sl r => sl.takeRun now r) sl

/-- The extent lies wholly inside a range of good blocks (R77). -/
def Extent.inside (e : Extent) (g : Nat × Nat) : Bool := g.1 ≤ e.start && e.stop ≤ g.1 + g.2

/-- A SUSPECT extent that the good coverage of one read includes becomes CLEARED (R77). -/
def Extent.clearedBy (ranges : List (Nat × Nat)) (e : Extent) : Extent :=
  if e.status = .suspect ∧ ranges.any e.inside then { e with status := .cleared } else e

/-- The good coverage of a read is handed over; a frozen table ignores it (R77, R79). -/
def Slot.takeCoverage (ranges : List (Nat × Nat)) (sl : Slot) : Slot :=
  if sl.sup.closed then sl
  else sl.modDefects fun d => { d with extents := d.extents.map (Extent.clearedBy ranges) }

/-- H and U: the lengths of the CONFIRMED and of the SUSPECT extents (R83). -/
def blocksOf (st : ExtentStatus) (es : List Extent) : Nat :=
  ((es.filter fun e => e.status == st).map Extent.length).sum

/-- X: the number of extents of kind MISPLACED (R83). -/
def misplacedCount (es : List Extent) : Nat := (es.filter fun e => e.kind == .misplaced).length

end Sys2Proof.Machine
end

