-- ==== Sys2Proof/Machine/Pass.lean ====
section
/-! DEFINITION. Pass control: adoption, arming, joining and finishing, completion and laps, the zone map's issues, holds
and soak (chapters 2, 3, 9, 10.4). -/

namespace Sys2Proof.Machine

/-- A pass is RUNNING or HELD. -/
def PassRecord.active (p : PassRecord) : Bool := p.state == .running || p.state == .held

/-! ## Adoption -/

/-- The previous-sample state of every limit is taken as inside (R140). -/
def Monitors.inside (q : Monitors) : Monitors :=
  { q with overOut := false, lowOut := false, highOut := false, criticalOut := false }

/-- The region is derived again; the map is rebuilt, and the coverage flags cleared, when S, E or the status differ from
what it was built for (R23, R24, R38). -/
def Slot.rederive (sl : Slot) : Slot :=
  let g := deriveRegion sl.active sl.ident
  if g = sl.zmap.region then sl
  else { sl with
    zmap := .build g
    tally := { sl.tally with writeCovered := false, verified := false } }

/-- A recipe is adopted into the active recipe, clamped; region, key and previous-sample states follow (R175, R1, R38,
R140). -/
def Slot.adopt (r : Recipe) (sl : Slot) : Slot :=
  let sl := Slot.rederive { sl with active := r.clamp }
  { sl with key := slotKey sl.ident sl.active, mon := sl.mon.inside }

/-! ## Completion, laps, SHIPPED -/

/-- The slot has a ship record block: G is above 0 and C is at least G (R162). -/
def Slot.hasShipBlock (sl : Slot) : Bool :=
  0 < sl.active.guardSize && sl.active.guardSize ≤ (sl.ident.map Identity.capacity).getD 0

/-- SHIPPING becomes SHIPPED when the ship pass is COMPLETE and the record, where there is a block for one, is WRITTEN
(R163). -/
def Slot.testShipped (sl : Slot) : Slot :=
  if sl.sup.phase = .shipping ∧ sl.pass.kind = .ship ∧ sl.pass.state = .complete
      ∧ (sl.hasShipBlock = false ∨ sl.closing.shipWritten = true) then
    (sl.setPhase .shipped).raise .shipDone
  else sl

/-- The end of a read pass or of a lap: the read counter rises, and verified-coverage is set while write-covered is set
(R59, R60). -/
def Tally.readDone (t : Tally) : Tally :=
  { t with readPasses := satAdd Config.max16 t.readPasses 1, verified := t.verified || t.writeCovered }

/-- The end of a write pass: the write counter rises and write-covered is set (R59, R60). -/
def Tally.writeDone (t : Tally) : Tally :=
  { t with writePasses := satAdd Config.max16 t.writePasses 1, writeCovered := true }

/-- RF of every zone becomes 0 (R30). -/
def Slot.clearReadFrontiers (sl : Slot) : Slot := sl.modZmap fun m => { m with zones := m.zones.map Zone.clearRF }

/-- The end of a lap of an endless read pass (R57). -/
def Slot.endLap (sl : Slot) : Slot :=
  ((((sl.modPass fun p => { p with laps := satAdd Config.max32 p.laps 1 }).modTally Tally.readDone
    ).clearReadFrontiers).modPass fun p => { p with remaining := sl.zmap.region.blocks }).raise .lap

/-- Completion of a pass: state COMPLETE, coverage and counters by kind, PASS-DONE, phase READY for a write or read pass;
a ship pass may reach SHIPPED (R56, R59, R60, R159, R163). -/
def Slot.completePass (sl : Slot) : Slot :=
  let done := sl.modPass fun p => { p with state := .complete }
  match sl.pass.kind with
  | .write => ((done.modTally Tally.writeDone).setPhase .ready).raise .passDone
  | .read => ((done.modTally Tally.readDone).setPhase .ready).raise .passDone
  | .ship => (done.raise .passDone).testShipped
  | .none => done.raise .passDone

/-- Pass control's test: a running pass whose remaining and outstanding counts are both 0 completes, or ends its lap
(R56, R57). -/
def Slot.testPass (sl : Slot) : Slot :=
  if sl.pass.state = .running ∧ sl.pass.remaining = 0 ∧ sl.pass.outstanding = 0 then
    if sl.pass.kind = .read ∧ sl.pass.endless = true then sl.endLap else sl.completePass
  else sl

/-! ## Joining and finishing -/

/-- The command suits the running or held pass (R52). -/
def Slot.suits (sl : Slot) (c : Cmd) : Bool :=
  sl.pass.active &&
    ((c.stamped && (sl.pass.kind == .write || sl.pass.kind == .ship)) || (c.verified && sl.pass.kind == .read))

/-- The serial a command carries after it has been tried for the pass (R52). -/
def Slot.joinSerial (sl : Slot) (c : Cmd) : Option Nat := if sl.suits c then some sl.pass.serial else c.serial

/-- The outstanding count rises when the command suits the pass (R52). -/
def Slot.join (c : Cmd) (sl : Slot) : Slot :=
  if sl.suits c then sl.modPass fun p => { p with outstanding := p.outstanding + 1 } else sl

/-- A command carrying `serial` finishes: the outstanding count of the record with that serial falls by one; a record
since replaced is not changed (R53). -/
def Slot.finishCount (serial : Option Nat) (sl : Slot) : Slot :=
  sl.modPass fun p =>
    if p.kind ≠ .none ∧ serial = some p.serial then { p with outstanding := p.outstanding - 1 } else p

/-- A pass command finishes and pass control tests the pass (R53, R56). -/
def Slot.finish (serial : Option Nat) (sl : Slot) : Slot :=
  let next := sl.finishCount serial
  if sl.pass.kind ≠ .none ∧ serial = some sl.pass.serial then next.testPass else next

/-! ## Arming -/

/-- The next value of the pass serial counter, or of the write epoch counter (R44, R45). -/
def Tally.nextSerial (t : Tally) : Tally := { t with serials := t.serials + 1 }
def Tally.nextWrite (t : Tally) : Tally :=
  { t with serials := t.serials + 1, writeEpochs := t.writeEpochs + 1, writeCovered := false, verified := false }

/-- Every zone is armed with epoch `e` (R29). -/
def Slot.armZones (e : Nat) (sl : Slot) : Slot := sl.modZmap fun m => { m with zones := m.every (Zone.arm e) }

/-- A new pass record (R47, R48, R158). -/
def PassRecord.armed (kind : PassKind) (endless : Bool) (serial epoch remaining : Nat) : PassRecord where
  kind := kind
  endless := endless
  serial := serial
  epoch := epoch
  state := .running
  holdHost := false
  holdThermal := false
  remaining := remaining
  outstanding := 0
  laps := 0
  failures := 0
  checkpoint := 0

/-- Arming a write pass (R47). -/
def Slot.armWrite (sl : Slot) : Slot :=
  let sl := (sl.modTally Tally.nextWrite).armZones (sl.tally.writeEpochs + 1)
  sl.modPass fun _ => .armed .write false sl.tally.serials sl.tally.writeEpochs sl.zmap.region.blocks

/-- Arming a read pass (R48). -/
def Slot.armRead (endless : Bool) (sl : Slot) : Slot :=
  let sl := (sl.modTally Tally.nextSerial).clearReadFrontiers
  sl.modPass fun p => .armed .read endless sl.tally.serials p.epoch sl.zmap.region.blocks

/-- Arming a ship pass: remaining is N less the sum of the write frontiers (R158). -/
def Slot.armShip (sl : Slot) : Slot :=
  let sl := (sl.modTally Tally.nextSerial).armZones Config.wipeEpoch
  sl.modPass fun _ =>
    .armed .ship false sl.tally.serials Config.wipeEpoch (sl.zmap.region.blocks - sumWF sl.zmap.zones)

/-! ## Frontiers and checkpoints -/

/-- The frontiers a pass of this kind counts (R54). -/
def PassKind.frontiers : PassKind → List Zone → List Nat
  | .read, zs => zs.map Zone.rf
  | _, zs => zs.map Zone.wf

/-- How far the frontiers of a pass advanced from `old` to `new`: the fall in remaining (R54, R58). -/
def advanced (old new : List Nat) : Nat := (List.zipWith (fun o n => n - o) old new).sum

/-- The zones move at an issue: remaining follows the frontiers, and every fall counts toward the checkpoint (R54,
R58). -/
def Slot.moveZones (zones : List Zone) (sl : Slot) : Slot :=
  let moved := sl.modZmap fun m => { m with zones := zones }
  if sl.pass.active then
    let fronts := sl.pass.kind.frontiers
    let fall := advanced (fronts sl.zmap.zones) (fronts zones)
    let interval := sl.active.checkpoint.toNat * 65536
    let acc := sl.pass.checkpoint + fall
    let count := moved.modPass fun p => { p with remaining := sl.zmap.region.blocks - (fronts zones).sum }
    if interval = 0 then count
    else if interval ≤ acc then
      (count.modPass fun p => { p with checkpoint := acc - interval }).raise .checkpoint
    else count.modPass fun p => { p with checkpoint := acc }
  else moved

/-- The zones after the issue of a command (R28, R31 to R36): only class STAMP reaches the zone map. -/
def Slot.zonesAfter (sl : Slot) (c : Cmd) (epoch : Nat) : List Zone :=
  let held := sl.pass.state == .held
  let lo := c.start
  let hi := c.start + c.length
  if c.cls = some .stamp then
    match c.kind with
    | .read => sl.zmap.portions (Zone.readOver held) lo hi
    | .write => if c.omitted then sl.zmap.portions (Zone.stamp epoch held) lo hi
                else sl.zmap.portions Zone.foreign lo hi
    | .flush | .identify | .other => sl.zmap.zones
  else sl.zmap.zones

/-- The issue lowered the remaining count of the running or held pass, so pass control tests the pass (R56). -/
def Slot.issueFell (sl : Slot) (zones : List Zone) : Bool :=
  sl.pass.active && 0 < advanced (sl.pass.kind.frontiers sl.zmap.zones) (sl.pass.kind.frontiers zones)

/-! ## Holding, ending, soak -/

/-- The pass ends ABORTED, its hold causes removed (R51, R62). -/
def PassRecord.abort (p : PassRecord) : PassRecord :=
  { p with state := .aborted, holdHost := false, holdThermal := false }

/-- A RUNNING or HELD pass becomes ABORTED (R62). -/
def Slot.abortPass (sl : Slot) : Slot := if sl.pass.active then sl.modPass PassRecord.abort else sl

/-- A temperature sample at or above the critical temperature reaches pass control (R61, R142). -/
def Slot.thermalHold (sl : Slot) : Slot :=
  if sl.pass.kind = .write ∨ sl.pass.kind = .read then
    match sl.pass.state with
    | .running =>
      ((sl.modPass fun p => { p with state := .held, holdThermal := true }).setPhase .held).raise .held
    | .held =>
      if sl.pass.holdThermal then sl else (sl.modPass fun p => { p with holdThermal := true }).raise .held
    | .none | .complete | .aborted => sl
  else sl

/-- The soak accumulator stops at 2^32 − 1 seconds (R64). -/
def maxSoakMs : Nat := Config.max32 * 1000

/-- A sample in phase SOAK with live status IN adds 100 ms; reaching the target ends the soak (R64, R65). -/
def Slot.soakSample (sl : Slot) : Slot :=
  if sl.sup.phase = .soak ∧ sl.mon.tempLive = .inWindow then
    let sl := sl.modTally fun t =>
      { t with soakMs := satAdd maxSoakMs t.soakMs Config.samplePeriod
               soakGained := t.soakGained + Config.samplePeriod }
    if sl.tally.soakTarget * 60000 ≤ sl.tally.soakGained then (sl.setPhase .ready).raise .soakDone else sl
  else sl

end Sys2Proof.Machine
end

