-- ==== Sys2Proof/Machine/Grading.lean ====
section
/-! DEFINITION. Grading and release: inputs, score, bin, grade record, ship record, drains, verdict (chapters 8, 9). -/

namespace Sys2Proof.Machine

/-- The inputs taken at the start of a slot's computation at shelf time `now` (R149, R83). -/
def Slot.gradeInputs (now : Nat) (sl : Slot) : GradeInputs where
  capacity := (sl.ident.map Identity.capacity).getD 0
  confirmed := blocksOf .confirmed sl.defects.extents
  suspect := blocksOf .suspect sl.defects.extents
  misplaced := misplacedCount sl.defects.extents
  overflow := sl.defects.overflow
  tempCount := sl.mon.tempCount
  currentCount := sl.mon.currentCount
  timeouts := sl.timing.timeouts
  slow := sl.timing.slow
  soakMinutes := sl.tally.soakMs / 60000
  coverage := sl.tally.verified
  writePasses := sl.tally.writePasses
  readPasses := sl.tally.readPasses
  serial := (sl.ident.map Identity.serial).getD 0
  closedAt := now / 1000

/-- The weights of a recipe (R149). -/
def Recipe.weights (r : Recipe) : Weights where
  wh := r.wh.toNat
  ws := r.ws.toNat
  we := r.we.toNat
  wt := r.wt.toNat
  wl := r.wl.toNat

/-- Stages 1 and 2: the defect density (R151). -/
def defectDensity (i : GradeInputs) (w : Weights) : Nat :=
  let dw := w.wh * i.confirmed + w.ws * i.suspect
  if i.capacity = 0 then (if dw = 0 then 0 else Config.max24)
  else min Config.max24 (dw * 268435456 / i.capacity)

/-- Stage 3: the health penalty (R152). -/
def healthPenalty (i : GradeInputs) (w : Weights) : Nat :=
  min Config.max24 (w.we * (i.tempCount + i.currentCount) + w.wt * i.timeouts + w.wl * i.slow)

/-- Stage 4: the score (R152). -/
def gradeScore (i : GradeInputs) (w : Weights) : Nat :=
  min Config.max24 (defectDensity i w + healthPenalty i w)

/-- An entry accepts a score and inputs (R153). -/
def BinEntry.accepts (i : GradeInputs) (score : Nat) (e : BinEntry) : Bool :=
  e.enabled && score ≤ e.ceiling.toNat && i.misplaced ≤ e.maxMisplaced.toNat
    && (!e.coverageRequired || i.coverage) && e.minSoak.toNat ≤ i.soakMinutes

/-- The bin (R153). -/
def chooseBin (bins : List BinEntry) (i : GradeInputs) (score : Nat) : Nat :=
  if 0 < i.overflow then 0
  else match bins.findIdx? (BinEntry.accepts i score) with
    | some n => n + 1
    | none => 0

/-- The grade record a computation writes (R155). -/
def Computation.record (c : Computation) : GradeRecord :=
  let score := gradeScore c.inputs c.weights
  { bin := chooseBin c.bins c.inputs score, score := score, inputs := c.inputs }

/-! ## The records as words -/

/-- Words 1 to 20, common to the grade record and the ship record (10.8). -/
def GradeRecord.commonWords (g : GradeRecord) : List Word :=
  let i := g.inputs
  [ ofBytes (BitVec.ofNat 8 g.bin) (BitVec.ofNat 8 i.coverage.toNat) 0 0,
    BitVec.ofNat 32 g.score, BitVec.ofNat 32 i.confirmed, BitVec.ofNat 32 i.suspect,
    ofHalves (BitVec.ofNat 16 i.misplaced) 0 ]
  ++ twoWords i.overflow
  ++ [ ofHalves (BitVec.ofNat 16 i.tempCount) (BitVec.ofNat 16 i.currentCount),
       BitVec.ofNat 32 i.timeouts, BitVec.ofNat 32 i.slow, BitVec.ofNat 32 i.soakMinutes,
       ofHalves (BitVec.ofNat 16 i.writePasses) (BitVec.ofNat 16 i.readPasses) ]
  ++ twoWords i.capacity ++ serialWords i.serial ++ [BitVec.ofNat 32 i.closedAt]

/-- The GRADE RECORD block: word 0 is 1 when the record is present; every field 0 when it is absent (R156, 10.8). -/
def Slot.gradeBlock (sl : Slot) : Block :=
  match sl.closing.grade with
  | none => []
  | some g => 1 :: g.commonWords

/-- The ship record block at its issue: the grade record's fields, the post-close count, the ship time, the slot number
and the shelf number (R161, 10.8). -/
def Slot.shipBlock (now : Nat) (number : BitVec 8) (i : SlotId) (sl : Slot) : Block :=
  Config.shipMarker :: ((sl.closing.grade.map GradeRecord.commonWords).getD (List.replicate 20 0)
    ++ [ BitVec.ofNat 32 sl.defects.postClose, BitVec.ofNat 32 (now / 1000),
         ofBytes (BitVec.ofNat 8 i.val) number 0 0 ])

/-! ## Drains, computation, release -/

/-- Nothing holds back the closing drain: no posted write, no WRITE waiting and none at the drive (R147). A control write
AT-RESPONDER, such as the one that carries CLOSE, is none of these. -/
def Slot.drained (sl : Slot) : Bool := sl.traffic.cmds.all fun c => c.kind != .write || !c.isData

/-- Nothing holds back the release drain: no posted write and no data command (R166). -/
def Slot.quiet (sl : Slot) : Bool := sl.traffic.cmds.all fun c => !c.isData

/-- The grading step of a slot becomes `g`. -/
def Slot.setStep (g : GradingStep) (sl : Slot) : Slot := sl.modClosing fun c => { c with step := g }

/-- The idle grading unit starts the computation of the slot at the head of its list: closed flag, inputs, weights and
the copy of the bin table at one event (R148, R149, R79). -/
def State.startNext (s : State) : State :=
  match s.grader.current, s.grader.queue with
  | none, i :: rest =>
    let sl := s.slot i
    { s.modSlot i fun sl => (sl.setStep .computing).modSup fun u => { u with closed := true } with
      grader :=
        { queue := rest
          current := some { slot := i, inputs := sl.gradeInputs s.now, weights := sl.active.weights,
                            bins := s.shelf.bins } } }
  | _, _ => s

/-- The closing drain is tested: when it ends the slot's request joins the list and the unit starts it if it is idle
(R146, R147, R148). -/
def State.testDrain (i : SlotId) (s : State) : State :=
  if (s.slot i).closing.step = .draining ∧ (s.slot i).drained = true then
    State.startNext
      { s.modSlot i (Slot.setStep .queued) with grader := { s.grader with queue := s.grader.queue ++ [i] } }
  else s

/-- The slot's request leaves the list; the other slots keep their order (R148, R157). -/
def State.withdraw (i : SlotId) (s : State) : State :=
  { s with grader := { s.grader with queue := s.grader.queue.filter (· != i) } }

/-- A computation of the slot is abandoned and the unit starts the next (R148, R157). -/
def State.abandon (i : SlotId) (s : State) : State :=
  match s.grader.current with
  | some c => if c.slot = i then State.startNext { s with grader := { s.grader with current := none } } else s
  | none => s

/-- The verdict by the phase at release (R168): the allowance is read from the shelf's table as it stands. -/
def Slot.verdictAt (bins : List BinEntry) (sl : Slot) : Verdict :=
  let bin := (sl.closing.grade.map GradeRecord.bin).getD 0
  match sl.sup.phase with
  | .shipped =>
    if bin = 0 ∨ (binEntry bins bin).allowance.toNat < sl.defects.postClose then .reject bin else .ship bin
  | .graded => .unshipped bin
  | .faulted => .fault
  | _ => .none

/-- Power goes OFF: no sample event is due, the link is DOWN, a reset in progress is abandoned, and the removal warning
ends (R128, R132, R166). -/
def Slot.powerOff (sl : Slot) : Slot :=
  (sl.modSup fun u => { u with power := false, warning := false, nextSample := none }).modLink fun l =>
    { l with state := .down, upDeadline := none }

/-- The release completes: power OFF, verdict fixed, phase RELEASED, RELEASED raised (R166). -/
def Slot.completeRelease (bins : List BinEntry) (sl : Slot) : Slot :=
  let v := sl.verdictAt bins
  ((sl.powerOff.modClosing fun c => { c with verdict := v, releasePending := false }).setPhase .released).raise .released

/-- The release drain is tested (R166). -/
def State.testRelease (i : SlotId) (s : State) : State :=
  if (s.slot i).closing.releasePending = true ∧ (s.slot i).quiet = true then
    s.modSlot i (Slot.completeRelease s.shelf.bins)
  else s

/-- The tests made at every event that can end a write or a data command of the slot: the closing drain, then the
release drain (R147, R166). -/
def State.settle (i : SlotId) (s : State) : State := (s.testDrain i).testRelease i

end Sys2Proof.Machine
end

