-- ==== Sys2Proof/Machine/Recovery.lean ====
section
/-! DEFINITION. Drive link resets, cancellation, entry to FAULTED, and how a slot's commands end without the drive
(R105, R112, R114, R120, R126). -/

namespace Sys2Proof.Machine

/-! ## Ending commands -/

/-- What the host receives for a command that an event ends: the condition for a data command; for a held control read
the block and GOOD when the event answers it, the condition otherwise (R94, R105). -/
def Cmd.endRecords (i : SlotId) (cond : Condition) (answer : Option Block) (c : Cmd) : List Upstream :=
  match c.tag with
  | none => []
  | some t =>
    match c.isData, answer with
    | false, some b => [.frame i b, reply i t .good]
    | _, _ => [reply i t cond]

/-- The records of all ended commands, in command table order (R105). -/
def endAll (i : SlotId) (cond : Condition) (answer : Option Block) (cmds : List Cmd) : List Upstream :=
  (inTagOrder cmds).flatMap (Cmd.endRecords i cond answer)

/-! ## Cancelling at the drive -/

/-- A posted write at the drive is cancelled: put back for reissue once, recorded as failed the second time (R112,
R185). -/
def Slot.cancelPosted (now : Nat) (sl : Slot) (c : Cmd) : Slot :=
  let mine (d : Cmd) : Bool := d.posted && d.state == .atDrive && d.driveTag == c.driveTag
  if c.reissues = 0 then
    sl.modCmds fun cs => cs.map fun d =>
      if mine d then { d with state := .cancelled, reissues := 1, deadline := none } else d
  else
    ((((sl.takeRun now (c.wholeRun .writeFail)).raise .postFail).modCmds fun cs => cs.filter fun d => !mine d)
      ).finish c.serial

/-- The job is a check job. -/
def Job.isCheck (j : Job) : Bool :=
  match j.owner with
  | .check _ => true
  | .generate _ _ => false

/-- The command is at the drive. -/
def Cmd.isAtDrive (c : Cmd) : Bool := c.state == .atDrive

/-- A drive link reset begins: link RESETTING, reset count, link-up deadline, and every command at the drive cancelled,
posted writes in acceptance order (log entry 12), then the unposted ones with ABORTED in command table order (R120,
R112, R19, R96). -/
def Act.linkReset (i : SlotId) (now : Nat) (x : Act) : Act :=
  let gone := x.sl.traffic.cmds.filter Cmd.isAtDrive
  let unposted := inTagOrder (gone.filter fun c => !c.posted)
  let sl := (x.sl.modLink fun l =>
      { l with state := .resetting, upDeadline := some (now + Config.linkUpTime), out := l.out ++ [.linkReset] }
    ).modTiming fun t => { t with linkResets := satAdd Config.max32 t.linkResets 1 }
  let sl := sl.modTraffic fun t =>
    { t with jobs := t.jobs.filter Job.isCheck, heldTags := t.heldTags ++ gone.filterMap Cmd.driveTag }
  let sl := (gone.filter Cmd.posted).foldl (Slot.cancelPosted now) sl
  let sl := sl.modCmds fun cs => cs.filter fun c => !(c.isAtDrive && !c.posted)
  let sl := unposted.foldl (fun sl c => sl.finish c.serial) sl
  (Act.mod (fun _ => sl) x).say (unposted.flatMap (Cmd.endRecords i .aborted none))

/-! ## Entry to FAULTED -/

/-- The post list on entry to FAULTED: a WRITE-FAIL run for each entry in acceptance order, POST-FAIL, and removal
(R114). The pass is not tested for completion here (log entry 10). -/
def Slot.dropPosted (now : Nat) (sl : Slot) : Slot :=
  ((sl.traffic.cmds.filter Cmd.posted).foldl
    (fun sl c => ((sl.takeRun now (c.wholeRun .writeFail)).raise .postFail).finishCount c.serial) sl
  ).modCmds fun cs => cs.filter fun c => !c.posted

/-- A drain or a waiting request ends with the fault; a computation goes on (R157). -/
def GradingStep.afterFault : GradingStep → GradingStep
  | .computing => .computing
  | .none | .draining | .queued => .none

/-- A drive link reset in progress is abandoned (R126, R123). -/
def Link.abandon (l : Link) : Link :=
  { l with state := if l.state = .resetting then .down else l.state, upDeadline := none }

/-- The steps of R126, in order: post list, pass and soak, deadlines and jobs, commands, drive tags and reset, phase,
cause and FAULT. -/
def Act.fault (i : SlotId) (now : Nat) (cause : FaultCause) (x : Act) : Act :=
  let sl := (x.sl.dropPosted now).abortPass
  let ended := sl.traffic.cmds
  let sl := (inTagOrder ended).foldl (fun sl c => sl.finishCount c.serial) sl
  let sl := (sl.modTraffic fun _ => .empty).modLink Link.abandon
  let sl := sl.modSup fun u => { u with phase := .faulted, cause := some cause, attachDeadline := none }
  let sl := (sl.modClosing fun c => { c with step := c.step.afterFault }).raise .fault
  (Act.mod (fun _ => sl) x).say (endAll i .slotDown (some sl.gradeBlock) ended)

/-- Slot `i` enters FAULTED: the steps of R126, its request withdrawn (R157), and a pending release completed in the same
event (R167). -/
def State.faultSlot (i : SlotId) (cause : FaultCause) (s : State) : State :=
  ((s.commit i ((Act.start (s.slot i)).fault i s.now cause)).withdraw i).testRelease i

end Sys2Proof.Machine
end

