-- ==== Sys2Proof/Machine/Supervisor.lean ====
section
/-! DEFINITION. The slot supervisor: clearing, attach, identification, removal, RESET-SLOT, the monitors and the trip
(chapter 7), and the shelf reset (R181). -/

namespace Sys2Proof.Machine

/-! ## Clearing and attach -/

/-- The slot's records take their values at attach (R129, step 1). -/
def Slot.clearRecords (sl : Slot) : Slot :=
  { sl with
    sup := { sl.sup with cause := none, closed := false }
    mon := .zero
    ident := none
    key := none
    zmap := .none
    pass := .none
    tally := .zero
    defects := .empty
    traffic := { sl.traffic with cmds := sl.traffic.cmds.filter fun c => !c.posted }
    timing := .zero
    closing := .none }

/-- Attach (R129): records, shelf default recipe, previous-sample states, power and phase, grace and link deadline. -/
def Slot.attach (now : Nat) (default : Recipe) (sl : Slot) : Slot :=
  ((sl.clearRecords.adopt default).modSup fun u =>
    { u with
      power := true
      phase := .attaching
      warning := false
      graceEnd := some (now + Config.spinUpGrace)
      attachDeadline := some (now + Config.attachLinkTime)
      nextSample := some (now + Config.samplePeriod) }).modLink fun l =>
    { state := .down, upDeadline := none, out := l.out ++ [.bringUp] }

/-- An EMPTY slot with its lines at the given levels, under a shelf default recipe (R133 step 4, R144, R177). The drive
link's sent messages and the COMMAND block are carried over. -/
def Slot.emptied (lines : Lines) (default : Recipe) (sl : Slot) : Slot where
  sup := .empty lines
  mon := .zero
  ident := none
  key := none
  pending := default
  active := default.clamp
  zmap := .none
  pass := .none
  tally := .zero
  defects := .empty
  traffic := .empty
  link := { state := .down, upDeadline := none, out := sl.link.out }
  timing := .zero
  closing := .none
  events := { flags := 0, mask := storedMask default.mask }
  command := sl.command

/-- Carrier removal of slot `i` (R133): commands end with SLOT-DOWN, the request or computation is withdrawn, every
record takes its EMPTY value. -/
def State.removeCarrier (i : SlotId) (s : State) : State :=
  let sl := s.slot i
  let lines : Lines := { carrier := false, latch := sl.sup.latch }
  (((s.setSlot i (sl.emptied lines s.shelf.recipe)).say (endAll i .slotDown none sl.traffic.cmds)).withdraw i).abandon i

/-- RESET-SLOT as accepted, carried by the control write under tag `t` (R135); the link reset of step 4 is part of the new
attach and is not counted. That control write is answered after the others, by the responder (R105, R135; log entry 30). -/
def Act.resetSlot (i : SlotId) (t : Tag) (now : Nat) (default : Recipe) (x : Act) : Act :=
  let ended := x.sl.traffic.cmds.filter fun c => c.tag != some t
  let answer := x.sl.gradeBlock
  let sl := Slot.adopt default (Slot.clearRecords { x.sl with traffic := .empty })
  let sl := sl.modEvents fun _ => { flags := 0, mask := storedMask default.mask }
  let sl := sl.modSup fun u => { u with phase := .attaching, attachDeadline := some (now + Config.attachLinkTime) }
  let sl := sl.modLink fun l => { state := .down, upDeadline := none, out := l.out ++ [.linkReset] }
  (Act.mod (fun _ => sl) x).say (endAll i .aborted (some answer) ended)

/-- The identity read from an identification (R131): the capacity clamped to W, and 0 for blocks above 4096 bytes. -/
def Identity.ofReport (d : Identification) : Identity where
  serial := d.serial
  capacity := if 4096 < d.blockSize.toNat then 0 else min d.capacity.toNat Config.controlBase
  blockSize := d.blockSize.toNat

/-- Identification (R131): identity, key, region, zone map, phase READY, ATTACHED. -/
def Slot.identify (d : Identification) (sl : Slot) : Slot :=
  let sl := { sl with ident := some (.ofReport d) }
  let sl := { sl with key := slotKey sl.ident sl.active, zmap := .build (deriveRegion sl.active sl.ident) }
  (sl.setPhase .ready).raise .attached

/-! ## Monitors and trip -/

/-- The temperature live status of a reading (R138). -/
def tempLiveOf (r : Recipe) (t : Int) : TempLive :=
  if tempLevel r.criticalCode ≤ t then .critical
  else if r.windowDisabled then .inWindow
  else if t < tempLevel r.lowCode then .below
  else if tempLevel r.highCode < t then .above
  else .inWindow

/-- The reading lies outside the low, the high and the critical limit (R139). -/
def outsideLow (r : Recipe) (t : Int) : Bool := !r.windowDisabled && t < tempLevel r.lowCode
def outsideHigh (r : Recipe) (t : Int) : Bool := !r.windowDisabled && tempLevel r.highCode < t
def outsideCritical (r : Recipe) (t : Int) : Bool := tempLevel r.criticalCode ≤ t

/-- The current reading lies outside the over-current level (R137). -/
def outsideOver (r : Recipe) (current : BitVec 32) : Bool := overLevel r.overCode ≤ current.toNat

/-- The sample is a current excursion that counts: outside, previous inside, no spin-up grace (R137). -/
def Slot.currentExcursion (current : BitVec 32) (sl : Slot) : Bool :=
  outsideOver sl.active current && !sl.mon.overOut && sl.sup.graceEnd.isNone

/-- The sample is a temperature excursion: outside a limit the previous sample lay inside (R139). -/
def Slot.tempExcursion (temp : BitVec 16) (sl : Slot) : Bool :=
  (outsideLow sl.active temp.toInt && !sl.mon.lowOut) || (outsideHigh sl.active temp.toInt && !sl.mon.highOut)
    || (outsideCritical sl.active temp.toInt && !sl.mon.criticalOut)

/-- One sample applied to both monitors (R136 to R139). -/
def Slot.sample (current : BitVec 32) (temp : BitVec 16) (sl : Slot) : Slot :=
  let r := sl.active
  let ce := sl.currentExcursion current
  let te := sl.tempExcursion temp
  (sl.modMon fun q =>
    { current := current
      temp := temp
      currentLive := if outsideOver r current then .over else .normal
      tempLive := tempLiveOf r temp.toInt
      overOut := outsideOver r current
      lowOut := outsideLow r temp.toInt
      highOut := outsideHigh r temp.toInt
      criticalOut := outsideCritical r temp.toInt
      currentCount := if ce then satAdd Config.max16 q.currentCount 1 else q.currentCount
      tempCount := if te then satAdd Config.max16 q.tempCount 1 else q.tempCount
      currentSticky := q.currentSticky || ce
      tempSticky := q.tempSticky || te }).raiseIf (ce || te) .sense

/-- The current reading trips the slot (R141). -/
def Slot.trips (current : BitVec 32) (sl : Slot) : Bool :=
  match tripLevel sl.active.tripCode with
  | none => false
  | some level => level ≤ current.toNat

/-- The first step of a trip: power OFF, and the grace and the attach link deadline end (R141). -/
def Slot.tripPower (sl : Slot) : Slot :=
  sl.powerOff.modSup fun u => { u with graceEnd := none, attachDeadline := none }

/-- The trip (R141): a slot already FAULTED only takes the new cause; any other enters FAULTED. On a slot already FAULTED
only TRIP is raised: a FAULT flag that the host has cleared since is not set again. The spec leaves that open ("no further
entry steps" against "in both cases the FAULT event flag is set by the fault"), and this is the model's choice (DESIGN
CHOICE, unsafe; log entry 31). -/
def State.trip (i : SlotId) (s : State) : State :=
  let s := s.modSlot i Slot.tripPower
  let s := if (s.slot i).sup.phase = .faulted
    then s.modSlot i fun sl => sl.modSup fun u => { u with cause := some .trip }
    else s.faultSlot i .trip
  s.modSlot i (Slot.raise .trip)

/-- The next sample event is due one period later (R136). -/
def Slot.scheduleSample (sl : Slot) : Slot :=
  sl.modSup fun u => { u with nextSample := u.nextSample.map (· + Config.samplePeriod) }

/-- What a sample that does not trip does to the pass and to the soak (R61, R64, R142). -/
def Slot.afterSample (sl : Slot) : Slot :=
  (if sl.mon.tempLive = .critical then sl.thermalHold else sl).soakSample

/-- A sample event of slot `i`; a slot with its power OFF has none (R128, R136). -/
def State.sampleSlot (i : SlotId) (current : BitVec 32) (temp : BitVec 16) (s : State) : State :=
  if (s.slot i).sup.power then
    let s := (s.advanceTo (s.slot i).sup.nextSample).modSlot i fun sl => (sl.scheduleSample).sample current temp
    if (s.slot i).trips current then s.trip i else s.modSlot i Slot.afterSample
  else s

/-! ## Lines -/

/-- Attach begins when an EMPTY slot has its carrier present and its latch closed (R127, R129). -/
def State.tryAttach (i : SlotId) (s : State) : State :=
  let u := (s.slot i).sup
  if u.phase = .empty ∧ u.carrier = true ∧ u.latch = true then s.modSlot i (Slot.attach s.now s.shelf.recipe) else s

/-- The carrier line is taken as present (R127); a line that does not change gives no event (log entry 16). -/
def State.insertCarrier (i : SlotId) (s : State) : State :=
  if (s.slot i).sup.carrier then s
  else (s.modSlot i fun sl => sl.modSup fun u => { u with carrier := true }).tryAttach i

/-- The latch line is taken as closed: a removal warning ends, or attach begins (R127, R132). -/
def State.closeLatch (i : SlotId) (s : State) : State :=
  if (s.slot i).sup.latch then s
  else (s.modSlot i fun sl => sl.modSup fun u => { u with latch := true, warning := false }).tryAttach i

/-- The latch line is taken as open: on a powered slot the removal warning begins (R127, R132). -/
def State.openLatch (i : SlotId) (s : State) : State :=
  if (s.slot i).sup.latch then
    s.modSlot i fun sl => sl.modSup fun u => { u with latch := false, warning := u.warning || u.power }
  else s

/-! ## Shelf reset -/

/-- The line levels of slot `i` as read afresh; a slot the list does not name has no carrier (R127). -/
def linesOf (lines : List Lines) (i : SlotId) : Lines := lines.getD i.val { carrier := false, latch := false }

/-- Slot `i` after steps 2 and 4 of a shelf reset, and attached by step 5 when its carrier is latched (R181). -/
def Slot.shelfReset (default : Recipe) (lines : Lines) (sl : Slot) : Slot :=
  let sl := { sl.emptied lines default with command := .none }
  if lines.carrier && lines.latch then sl.attach 0 default else sl

/-- Shelf reset (R181, R182). What was sent before stays sent (log entry 13); the queue of waiting commands is not the
part's. -/
def State.shelfReset (lines : List Lines) (memory : Option Block) (s : State) : State :=
  let sh := Shelf.loadOption memory
  let sl (i : SlotId) : Slot := (s.slot i).shelfReset sh.recipe (linesOf lines i)
  { pending := s.pending
    slots := #v[sl 0, sl 1, sl 2, sl 3, sl 4, sl 5, sl 6, sl 7]
    shelf := sh
    port := none
    upstream := s.upstream
    engineLast := 7
    grader := { queue := [], current := none } }

end Sys2Proof.Machine
end

