-- ==== Sys2Proof/Machine/Window.lean ====
section
/-! DEFINITION. The blocks of the control window as a read shows them (chapter 10: R40, R82, R156, R170 to R173, R179, and
the formats of section 10.8). -/

namespace Sys2Proof.Machine

/-! ## Codes (section 10.8) -/

def Phase.code : Phase → BitVec 8
  | .empty => 0 | .attaching => 1 | .ready => 2 | .running => 3 | .held => 4 | .soak => 5 | .grading => 6
  | .graded => 7 | .shipping => 8 | .shipped => 9 | .released => 10 | .faulted => 11

def FaultCause.code : FaultCause → BitVec 8
  | .trip => 1 | .linkLost => 2 | .resetLimit => 3

def GradingStep.code : GradingStep → BitVec 8
  | .none => 0 | .draining => 1 | .queued => 2 | .computing => 3

def RegionStatus.code : RegionStatus → BitVec 8
  | .unidentified => 0 | .formatMismatch => 1 | .empty => 2 | .enabled => 3

def LinkState.code : LinkState → BitVec 8
  | .down => 0 | .up => 1 | .resetting => 2

def ZoneState.code : ZoneState → BitVec 8
  | .blank => 1 | .ordered => 2 | .mixed => 3 | .untracked => 4

def PassKind.code : PassKind → BitVec 8
  | .none => 0 | .write => 1 | .read => 2 | .ship => 3

def PassState.code : PassState → BitVec 8
  | .none => 0 | .running => 1 | .held => 2 | .complete => 3 | .aborted => 4

def FailKind.code : FailKind → BitVec 8
  | .miscompare => 1 | .stale => 2 | .timeout => 3 | .writeFail => 4 | .media => 5 | .misplaced => 6

def ExtentStatus.code : ExtentStatus → BitVec 8
  | .suspect => 1 | .confirmed => 2 | .cleared => 3

def CurrentLive.code : CurrentLive → BitVec 8
  | .normal => 0 | .over => 1

def TempLive.code : TempLive → BitVec 8
  | .inWindow => 0 | .below => 1 | .above => 2 | .critical => 3

def CmdOutcome.code : CmdOutcome → Word
  | .none => 0 | .done => 1 | .wrongPhase => 2 | .thermal => 3 | .passLimit => 4 | .noRegion => 5 | .closed => 6
  | .unknown => 7

def Verdict.code : Verdict → BitVec 8
  | .none => 0 | .ship _ => 1 | .unshipped _ => 2 | .reject _ => 3 | .fault => 4

/-- The verdict bin: the grade's bin under SHIP-n, UNSHIPPED-n and REJECT, 0 under FAULT and NONE (R168). -/
def Verdict.bin : Verdict → Nat
  | .ship n | .unshipped n | .reject n => n
  | .none | .fault => 0

/-- The state of a command table entry: 0 free, then WAITING, AT-DRIVE, CHECKING, AT-RESPONDER. -/
def CmdState.code : CmdState → Nat
  | .waiting => 1 | .atDrive => 2 | .checking => 3 | .atResponder => 4 | .cancelled => 0

def Condition.code : Condition → BitVec 8
  | .good => 0 | .verifyFail => 1 | .media => 2 | .driveError => 3 | .timeout => 4 | .aborted => 5 | .slotDown => 6
  | .malformed => 7 | .tagBusy => 8 | .outOfRange => 9 | .straddle => 10 | .slotLeaving => 11 | .wrongPhase => 12
  | .guarded => 13 | .noData => 14 | .notArmed => 15 | .held => 16 | .readOnly => 17

def driveErrorCode : DriveErrorClass → BitVec 8
  | .media => 1 | .other => 2

/-- A bit of a word. -/
def bitAt (n : Nat) (p : Bool) : Word := if p then BitVec.ofNat 32 (2 ^ n) else 0

/-! ## STATUS -/

/-- How many commands of the list satisfy `p`. -/
def countCmds (p : Cmd → Bool) (cs : List Cmd) : Nat := (cs.filter p).length

/-- The state code of the command table entry under tag `n` (R95). -/
def entryCode (cs : List Cmd) (n : Nat) : Nat :=
  match cs.find? fun c => (c.tag.map Fin.val) == some n with
  | some c => c.state.code
  | none => 0

/-- Eight entry states, four bits each, from tag `base` on (10.8). -/
def entryWord (cs : List Cmd) (base : Nat) : Word :=
  BitVec.ofNat 32 (((List.range 8).map fun k => entryCode cs (base + k) * 16 ^ k).sum)

/-- The position of a slot in the grading unit's request list, from 1 at the head; 0 when it does not wait there
(R148). -/
def State.gradePosition (s : State) (i : SlotId) : Nat :=
  match s.grader.queue.findIdx? (· == i) with
  | some n => n + 1
  | none => 0

/-- Words 0 to 4 of the STATUS block: the slot's condition, events and mask (R172, 10.8). -/
def State.statusCondition (s : State) (i : SlotId) : List Word :=
  let sl := s.slot i
  let u := sl.sup
  [ ofBytes u.phase.code ((u.cause.map FaultCause.code).getD 0) sl.closing.step.code
      (BitVec.ofNat 8 (s.gradePosition i)),
    bitAt 0 u.carrier ||| bitAt 1 u.latch ||| bitAt 2 u.power ||| bitAt 3 u.graceEnd.isSome
      ||| bitAt 4 u.warning ||| bitAt 5 u.closed ||| bitAt 6 sl.closing.releasePending
      ||| bitAt 7 sl.tally.writeCovered ||| bitAt 8 sl.tally.verified ||| bitAt 9 sl.mon.currentSticky
      ||| bitAt 10 sl.mon.tempSticky ||| bitAt 11 sl.closing.shipWritten ||| bitAt 12 sl.active.windowDisabled,
    ofBytes sl.link.state.code sl.zmap.region.status.code sl.closing.verdict.code
      (BitVec.ofNat 8 sl.closing.verdict.bin),
    ofHalves sl.events.flags sl.events.mask,
    ofBytes (BitVec.ofNat 8 sl.indicator) sl.mon.currentLive.code sl.mon.tempLive.code
      (BitVec.ofNat 8 (countCmds (fun c => !c.posted) sl.traffic.cmds)) ]

/-- Words 5 to 15: sense, defects and traffic (R172, 10.8). -/
def Slot.statusTraffic (sl : Slot) : List Word :=
  let cs := sl.traffic.cmds
  let posts := cs.filter Cmd.posted
  [ sl.mon.current,
    ofHalves sl.mon.temp (BitVec.ofNat 16 sl.mon.currentCount),
    ofHalves (BitVec.ofNat 16 sl.mon.tempCount) (BitVec.ofNat 16 sl.defects.extents.length) ]
  ++ twoWords sl.defects.overflow
  ++ [ BitVec.ofNat 32 sl.defects.postClose,
       ofBytes (BitVec.ofNat 8 posts.length) (BitVec.ofNat 8 (countCmds (·.state == .waiting) posts))
         (BitVec.ofNat 8 (countCmds (·.state == .atDrive) posts))
         (BitVec.ofNat 8 (countCmds (·.state == .cancelled) posts)),
       entryWord cs 0, entryWord cs 8, entryWord cs 16, entryWord cs 24 ]

/-- Words 16 to 28: the pass record, the counters and the soak (R172, 10.8). -/
def Slot.statusPass (sl : Slot) : List Word :=
  let p := sl.pass
  [ ofBytes p.kind.code p.state.code (BitVec.ofNat 8 (p.holdHost.toNat + 2 * p.holdThermal.toNat))
      (BitVec.ofNat 8 p.endless.toNat),
    ofHalves (BitVec.ofNat 16 p.serial) (BitVec.ofNat 16 p.epoch) ]
  ++ twoWords p.remaining
  ++ [ BitVec.ofNat 32 p.outstanding, BitVec.ofNat 32 p.laps, BitVec.ofNat 32 p.failures,
       BitVec.ofNat 32 p.checkpoint,
       ofHalves (BitVec.ofNat 16 sl.tally.serials) (BitVec.ofNat 16 sl.tally.writeEpochs),
       ofHalves (BitVec.ofNat 16 sl.tally.writePasses) (BitVec.ofNat 16 sl.tally.readPasses),
       BitVec.ofNat 32 (sl.tally.soakMs / 1000), BitVec.ofNat 32 sl.tally.soakGained,
       BitVec.ofNat 32 sl.tally.soakTarget ]

/-- Words 29 to 45: region and identity; S, E, N, zone length and count are zero unless the region is enabled (R24,
R172, 10.8). -/
def Slot.statusIdentity (sl : Slot) : List Word :=
  let g := sl.zmap.region
  (if g.enabled then
    twoWords g.first ++ twoWords g.stop ++ twoWords g.blocks ++ twoWords g.zoneLength
      ++ [BitVec.ofNat 32 g.zoneCount]
   else [0, 0, 0, 0, 0, 0, 0, 0, 0])
  ++ (match sl.ident with
      | none => [0, 0, 0, 0, 0, 0, 0, 0]
      | some d => serialWords d.serial ++ twoWords d.capacity ++ [BitVec.ofNat 32 d.blockSize])

/-- The STATUS block (R172). -/
def State.statusBlock (s : State) (i : SlotId) : Block :=
  s.statusCondition i ++ (s.slot i).statusTraffic ++ (s.slot i).statusPass ++ (s.slot i).statusIdentity

/-! ## The other blocks -/

/-- The COMMAND block as read (R173). -/
def CommandBlock.words (c : CommandBlock) : Block :=
  [c.code, c.a, c.b, c.outcome.code, BitVec.ofNat 32 c.count.toNat]

/-- An extent record, 8 words (10.8). -/
def Extent.words (e : Extent) : List Word :=
  [ BitVec.ofNat 32 e.start,
    ofHalves (BitVec.ofNat 16 (e.start / 4294967296)) (BitVec.ofNat 16 e.length),
    ofBytes e.kind.code e.status.code (BitVec.ofNat 8 e.hits) (BitVec.ofNat 8 e.claimed.isSome.toNat),
    ofHalves (BitVec.ofNat 16 e.worstB) (BitVec.ofNat 16 e.firstSerial),
    BitVec.ofNat 32 e.firstTime,
    ofHalves (BitVec.ofNat 16 e.lastSerial) (BitVec.ofNat 16 (e.claimed.getD 0 / 4294967296)),
    BitVec.ofNat 32 e.lastTime,
    BitVec.ofNat 32 (e.claimed.getD 0) ]

/-- A zone record, 8 words (10.8). -/
def Zone.words (z : Zone) : List Word :=
  [ ofBytes z.state.code 0 0 0, ofHalves (BitVec.ofNat 16 z.current) (BitVec.ofNat 16 z.previous) ]
  ++ twoWords z.wf ++ twoWords z.rf ++ [0, 0]

/-- Records 128 `n` up to 128 `n` + 128 of a table, one after the other; places beyond the table are zero (R40, R82). -/
def tableBlock {α : Type} (words : α → List Word) (n : Nat) (xs : List α) : Block :=
  ((xs.drop (128 * n)).take 128).flatMap words

/-- The TIMING block: the statistics in the order of R116, the sum in two words, the histogram in eight (R170). -/
def Timing.words (t : Timing) : Block :=
  [BitVec.ofNat 32 t.completed] ++ twoWords t.sum ++ [BitVec.ofNat 32 t.longest]
  ++ ((List.range 8).map fun k => BitVec.ofNat 32 (t.histogram.getD k 0))
  ++ [ BitVec.ofNat 32 t.slow, BitVec.ofNat 32 t.timeouts, BitVec.ofNat 32 t.linkResets,
       BitVec.ofNat 32 t.consecutive, BitVec.ofNat 32 t.late ]

/-- The shelf block as read through any slot (R179, 10.8). -/
def State.shelfBlock (s : State) : Block :=
  [ ofBytes (if s.shelf.loaded then 0 else 1) (BitVec.ofNat 8 s.attentionSummary) 0 0,
    ofBytes s.shelf.number 0 0 0 ]
  ++ twoWords s.shelf.clock ++ List.replicate 12 0
  ++ s.shelf.recipe.words ++ ((List.range 8).flatMap fun n => (s.shelf.bins.getD n .disabled).words)

/-- The block at an offset of slot `i`'s control window; an unassigned block is all zero (R170, R171, R183). -/
def State.windowBlock (s : State) (i : SlotId) (offset : Nat) : Block :=
  let sl := s.slot i
  match offset with
  | 0 => s.statusBlock i
  | 1 => sl.command.words
  | 2 => sl.pending.words
  | 3 => sl.active.words
  | 4 => tableBlock Extent.words 0 sl.defects.extents
  | 5 => tableBlock Extent.words 1 sl.defects.extents
  | 6 => tableBlock Extent.words 2 sl.defects.extents
  | 7 => tableBlock Extent.words 3 sl.defects.extents
  | 8 => tableBlock Zone.words 0 sl.zmap.zones
  | 9 => tableBlock Zone.words 1 sl.zmap.zones
  | 10 => tableBlock Zone.words 2 sl.zmap.zones
  | 11 => tableBlock Zone.words 3 sl.zmap.zones
  | 12 => tableBlock Zone.words 4 sl.zmap.zones
  | 13 => tableBlock Zone.words 5 sl.zmap.zones
  | 14 => tableBlock Zone.words 6 sl.zmap.zones
  | 15 => tableBlock Zone.words 7 sl.zmap.zones
  | 16 => sl.gradeBlock
  | 17 => sl.timing.words
  | 32 => s.shelfBlock
  | _ => []

/-! ## The completion record (10.8) -/

/-- Word 0 of a completion record. -/
def Completion.word0 (c : Completion) : Word :=
  BitVec.ofNat 32 (c.slot.val + 256 * c.tag.val) ||| ((0 : BitVec 8) ++ c.cond.code ++ (0 : BitVec 16))
    ||| bitAt 24 c.detail.isSome ||| bitAt 25 ((c.detail.bind DriveError.failing).isSome)
    ||| bitAt 26 c.summary.isSome

/-- The eight words of a completion record as sent on the shelf link (R86, 10.8). -/
def Completion.words (c : Completion) : List Word :=
  let failing := (c.detail.bind DriveError.failing).getD 0
  let cls := (c.detail.map fun d => driveErrorCode d.cls).getD 0
  [ c.word0, failing.extractLsb' 0 32, ofBytes (failing.extractLsb' 32 8) (failing.extractLsb' 40 8) cls 0 ]
  ++ (match c.summary with
      | none => [0, 0, 0]
      | some v =>
        [ ofHalves (BitVec.ofNat 16 v.verified) (BitVec.ofNat 16 v.unverified),
          ofHalves (BitVec.ofNat 16 v.bad) (BitVec.ofNat 16 (v.firstBad.getD 65535)),
          ofBytes ((v.worst.map FailKind.code).getD 0) 0 0 0 ])
  ++ [0, 0]

end Sys2Proof.Machine
end

