-- ==== Sys2Proof/Machine/Operands.lean ====
section
/-! DEFINITION. A delivered command record and what its operands say: its block range, its address class, and the checks
it must pass (R84, R87 to R92). -/

namespace Sys2Proof.Machine

/-- A command record as the shelf link port delivers it to a slot (R84). `kind` is none for an unknown kind code;
`complete` is false for a WRITE with data that arrived incomplete. -/
structure Record where
  tag      : Tag
  kind     : Option CmdKind
  addr     : BitVec 48
  count    : BitVec 16
  omitted  : Bool
  param    : BitVec 128
  frames   : List Block
  complete : Bool
deriving DecidableEq, Repr

/-- First block and length of the record's range. -/
def Record.start (r : Record) : Nat := r.addr.toNat
def Record.length (r : Record) : Nat := r.count.toNat

/-- READ and WRITE have a block range; the address and count of the other kinds are not examined (R84). -/
def Record.hasRange (r : Record) : Bool := r.kind == some .read || r.kind == some .write

/-- A WRITE with its data omitted. -/
def Record.omits (r : Record) : Bool := r.kind == some .write && r.omitted

/-- The address class of a block (R87). -/
def Slot.classOf (sl : Slot) (L : Nat) : AddrClass :=
  if Config.controlBase ≤ L then .control
  else match sl.ident with
    | none => .beyond
    | some d =>
      if d.capacity ≤ L then .beyond
      else if L < sl.active.guardSize then .guarded
      else if sl.zmap.region.enabled && sl.zmap.region.first ≤ L && L < sl.zmap.region.stop then .stamp
      else .clear

/-- The classes of the blocks of a range, in order. -/
def Slot.classesOf (sl : Slot) (L n : Nat) : List AddrClass := (List.range n).map fun k => sl.classOf (L + k)

/-- The record is MALFORMED (R90). -/
def Record.malformed (r : Record) : Bool :=
  r.kind.isNone
  || (r.hasRange && (r.length == 0 || 256 < r.length))
  || (r.hasRange && Config.addressEnd < r.start + r.length)
  || (r.omitted && r.kind != some .write)
  || !r.complete
  || (r.hasRange && Config.controlBase ≤ r.start && r.length != 1)
  || (r.omits && Config.controlBase ≤ r.start)

/-- A well-formed READ or WRITE of class CONTROL is a control command; every other command is a data command (R87). -/
def Record.isControl (r : Record) : Bool := r.hasRange && Config.controlBase ≤ r.start

/-- The range check of R89, case 4. -/
def Slot.rangeRefusal (sl : Slot) (r : Record) : Option Condition :=
  if r.hasRange && !r.isControl then
    let cs := sl.classesOf r.start r.length
    if Config.controlBase < r.start + r.length then some .straddle
    else if cs.any (· == .beyond) then some .outOfRange
    else if cs.any (· != sl.classOf r.start) then some .straddle
    else none
  else none

/-- The class the record is given: none for a command without a range (R88). -/
def Slot.classFor (sl : Slot) (r : Record) : Option AddrClass :=
  if r.hasRange then some (sl.classOf r.start) else none

/-- The upstream tag is in use by a command of the slot (R85). -/
def Slot.tagBusy (sl : Slot) (t : Tag) : Bool := sl.traffic.cmds.any fun c => c.tag == some t

/-- The phases in which every data command is refused with SLOT-DOWN (R89, case 3). -/
def Phase.down (p : Phase) : Bool := p == .empty || p == .faulted || p == .released

/-- The phase table of R91. -/
def Phase.takes (p : Phase) (kind : CmdKind) (omitted : Bool) : Bool :=
  match p with
  | .attaching => kind == .identify || kind == .other
  | .ready | .running | .held | .soak => true
  | .grading | .graded | .shipped => kind == .read || kind == .flush
  | .shipping => kind == .read || kind == .flush || (kind == .write && omitted)
  | .empty | .released | .faulted => false

/-- The phase table with a pending release, which refuses every data command (R91). -/
def Slot.phaseTakes (sl : Slot) (r : Record) : Bool :=
  !sl.closing.releasePending && ((r.kind.map fun k => sl.sup.phase.takes k r.omitted).getD false)

/-- A one-block data-omitted WRITE of `addr` would be the ship record write now (R92). -/
def Slot.shipWriteNow (sl : Slot) (omitted : Bool) (addr count : Nat) : Bool :=
  sl.sup.phase == .shipping && sl.hasShipBlock && omitted && count == 1 && addr + 1 == sl.active.guardSize
    && !sl.closing.shipWritten

/-- The record is the ship record write (R92). -/
def Slot.isShipWrite (sl : Slot) (r : Record) : Bool :=
  r.kind == some .write && sl.shipWriteNow r.omitted r.start r.length

/-- The pass record is a WRITE or SHIP pass in state RUNNING or HELD (R89, case 9). -/
def Slot.armedForWrites (sl : Slot) : Bool :=
  (sl.pass.kind == .write || sl.pass.kind == .ship) && sl.pass.active

/-- The ten checks of R89 in order: the condition of the first that fails. -/
def Slot.refusal (sl : Slot) (r : Record) : Option Condition :=
  let data := !r.isControl
  let cls := sl.classFor r
  let stamped := r.omits && cls == some .stamp
  if r.malformed then some .malformed
  else if sl.tagBusy r.tag then some .tagBusy
  else if data && sl.sup.phase.down then some .slotDown
  else match sl.rangeRefusal r with
    | some c => some c
    | none =>
      if data && sl.sup.power && !sl.sup.latch then some .slotLeaving
      else if data && !sl.phaseTakes r then some .wrongPhase
      else if data && r.kind == some .write && cls == some .guarded && !sl.isShipWrite r then some .guarded
      else if data && r.omits && cls != some .stamp && !sl.isShipWrite r then some .noData
      else if data && stamped && !sl.armedForWrites then some .notArmed
      else if data && stamped && sl.pass.state == .held then some .held
      else none

/-- The command a taken record becomes: an entry WAITING at the tail of the issue queue (R93). -/
def Record.toCmd (r : Record) (kind : CmdKind) (cls : Option AddrClass) : Cmd where
  tag := some r.tag
  kind := kind
  addr := r.addr
  count := r.count
  omitted := r.omitted
  param := r.param
  cls := cls
  state := .waiting
  driveTag := none
  serial := none
  frames := r.frames
  check := none
  returned := []
  classes := []
  driveError := none
  reissues := 0
  generation := none
  issuedAt := 0
  deadline := none

/-- The command an admitted control record becomes: an entry AT-RESPONDER, which never joins the issue queue (R93). -/
def Record.toControl (r : Record) (kind : CmdKind) : Cmd :=
  { r.toCmd kind (some .control) with state := .atResponder }

end Sys2Proof.Machine
end

