-- ==== Sys2Proof/Machine/Commands.lean ====
section
/-! DEFINITION. The control-window commands: what each does to the part, and its outcome (R46 to R51, R63, R134, R145,
R158, R164, R165, R173, R175, R177). -/

namespace Sys2Proof.Machine

/-- What a control-window command does: the part after it, the records its effects sent, and its outcome. The records go
upstream before the control write's own completion (R135, R184). -/
structure Done where
  state   : State
  outcome : CmdOutcome

/-- The command is refused with no effect. -/
def refuseWith (o : CmdOutcome) (s : State) : Done := { state := s, outcome := o }

/-- The command has the effect `f` on slot `i` alone, with outcome DONE. -/
def doSlot (i : SlotId) (f : Slot → Slot) (s : State) : Done := { state := s.modSlot i f, outcome := .done }

/-- ARM on a READY slot after the adoption of step 1 (R46, steps 2 to 4). -/
def armAdopted (i : SlotId) (write endless : Bool) (s : State) : Done :=
  let sl := s.slot i
  if sl.zmap.region.enabled = false then refuseWith .noRegion s
  else if sl.tally.serials = Config.maxSerial ∨ (write = true ∧ sl.tally.writeEpochs = Config.maxWriteEpoch) then
    refuseWith .passLimit s
  else doSlot i (fun sl => (if write then sl.armWrite else sl.armRead endless).setPhase .running) s

/-- ARM: parameter A is the kind, 1 WRITE or 2 READ, parameter B's lowest bit the endless flag (R46, R173). -/
def runArm (i : SlotId) (a b : Word) (s : State) : Done :=
  if a ≠ 1 ∧ a ≠ 2 then refuseWith .unknown s
  else if (s.slot i).sup.phase ≠ .ready then refuseWith .wrongPhase s
  else armAdopted i (a == 1) (b.getLsbD 0) (s.modSlot i fun sl => sl.adopt sl.pending)

/-- HOLD (R49). -/
def runHold (i : SlotId) (s : State) : Done :=
  if (s.slot i).sup.phase ≠ .running then refuseWith .wrongPhase s
  else doSlot i (fun sl => (sl.modPass fun p => { p with state := .held, holdHost := true }).setPhase .held) s

/-- RESUME (R50, R56, R57). -/
def runResume (i : SlotId) (s : State) : Done :=
  if (s.slot i).sup.phase ≠ .held then refuseWith .wrongPhase s
  else if (s.slot i).mon.tempLive = .critical then refuseWith .thermal s
  else doSlot i (fun sl =>
    ((sl.modPass fun p => { p with state := .running, holdHost := false, holdThermal := false }).setPhase
      .running).testPass) s

/-- ABORT (R51, R65, R164). -/
def runAbort (i : SlotId) (s : State) : Done :=
  match (s.slot i).sup.phase with
  | .running | .held => doSlot i (fun sl => (sl.modPass PassRecord.abort).setPhase .ready) s
  | .soak => doSlot i (Slot.setPhase .ready) s
  | .shipping => doSlot i (fun sl => sl.abortPass.setPhase .graded) s
  | _ => refuseWith .wrongPhase s

/-- The soak target a parameter gives: 0 taken as 1, above 65535 taken as 65535 (R63, R173). -/
def soakMinutes (a : Word) : Nat := max 1 (min 65535 a.toNat)

/-- SOAK (R63). -/
def runSoak (i : SlotId) (a : Word) (s : State) : Done :=
  if (s.slot i).sup.phase ≠ .ready then refuseWith .wrongPhase s
  else doSlot i (fun sl =>
    (sl.modTally fun t => { t with soakTarget := soakMinutes a, soakGained := 0 }).setPhase .soak) s

/-- ADOPT (R175). -/
def runAdopt (i : SlotId) (s : State) : Done :=
  match (s.slot i).sup.phase with
  | .ready | .soak | .attaching => doSlot i (fun sl => sl.adopt sl.pending) s
  | _ => refuseWith .wrongPhase s

/-- CLOSE (R145, R146): GRADING and DRAINING, then the drain is tested. -/
def runClose (i : SlotId) (s : State) : Done :=
  if (s.slot i).sup.closed then refuseWith .closed s
  else match (s.slot i).sup.phase with
    | .ready | .soak =>
      { state := (s.modSlot i fun sl => (sl.setPhase .grading).setStep .draining).testDrain i, outcome := .done }
    | _ => refuseWith .wrongPhase s

/-- SHIP (R158). -/
def runShip (i : SlotId) (s : State) : Done :=
  let sl := s.slot i
  if sl.sup.phase ≠ .graded ∨ sl.closing.releasePending = true then refuseWith .wrongPhase s
  else if sl.tally.serials = Config.maxSerial then refuseWith .passLimit s
  else doSlot i (fun sl => (sl.armShip.setPhase .shipping).testPass) s

/-- RELEASE (R165, R166). -/
def runRelease (i : SlotId) (s : State) : Done :=
  match (s.slot i).sup.phase with
  | .graded | .shipped | .faulted =>
    if (s.slot i).closing.releasePending then { state := s, outcome := .done }
    else { state := (s.modSlot i fun sl => sl.modClosing fun c => { c with releasePending := true }).testRelease i,
           outcome := .done }
  | _ => refuseWith .wrongPhase s

/-- The slot may be reset: READY, SOAK, or FAULTED with a cause other than TRIP, and no release pending (R134, R165). -/
def Slot.resettable (sl : Slot) : Bool :=
  !sl.closing.releasePending &&
    (sl.sup.phase == .ready || sl.sup.phase == .soak
      || (sl.sup.phase == .faulted && (sl.sup.cause == some .resetLimit || sl.sup.cause == some .linkLost)))

/-- RESET-SLOT, carried by the control write under tag `t` (R134, R135). -/
def runResetSlot (i : SlotId) (t : Tag) (s : State) : Done :=
  if (s.slot i).sup.closed then refuseWith .closed s
  else if (s.slot i).resettable then
    { state := s.commit i ((Act.start (s.slot i)).resetSlot i t s.now s.shelf.recipe), outcome := .done }
  else refuseWith .wrongPhase s

/-- CLEAR-EVENTS and SET-MASK take the low half of parameter A (R177). -/
def runClearEvents (i : SlotId) (a : Word) (s : State) : Done := doSlot i (Slot.clearFlags (lowHalf a)) s
def runSetMask (i : SlotId) (a : Word) (s : State) : Done :=
  doSlot i (fun sl => sl.modEvents fun e => { e with mask := storedMask (lowHalf a) }) s

/-- A control-window command, carried by the control write under tag `t`, is carried out under its own rule (R173, step 3):
the codes of section 10.8. -/
def runCommand (i : SlotId) (t : Tag) (code a b : Word) (s : State) : Done :=
  if code = 1 then runArm i a b s
  else if code = 2 then runHold i s
  else if code = 3 then runResume i s
  else if code = 4 then runAbort i s
  else if code = 5 then runSoak i a s
  else if code = 6 then runAdopt i s
  else if code = 7 then runClose i s
  else if code = 8 then runShip i s
  else if code = 9 then runRelease i s
  else if code = 10 then runResetSlot i t s
  else if code = 11 then runClearEvents i a s
  else if code = 12 then runSetMask i a s
  else refuseWith .unknown s

/-- The count rises and the command is recorded (R173, steps 1 and 2). -/
def CommandBlock.taken (code a b : Word) (c : CommandBlock) : CommandBlock :=
  { code := code, a := a, b := b, outcome := c.outcome, count := c.count + 1 }

/-- A write to the COMMAND block under tag `t` (R173, steps 1 to 3). -/
def State.takeCommand (i : SlotId) (t : Tag) (code a b : Word) (s : State) : State :=
  let d := runCommand i t code a b (s.modSlot i (Slot.modCommand (CommandBlock.taken code a b)))
  d.state.modSlot i fun sl => sl.modCommand fun c => { c with outcome := d.outcome }

/-- What the responder does with a control write into the block at `offset`, and its condition (R171, R173, R174, R179). -/
def State.windowTake (i : SlotId) (t : Tag) (offset : Nat) (data : Block) (s : State) : State :=
  if offset = 1 then
    (s.takeCommand i t (wordAt data 0) (wordAt data 1) (wordAt data 2)).say [reply i t .good]
  else if offset = 2 then
    (s.modSlot i fun sl => { sl with pending := Recipe.ofBlock data 0 }).say [reply i t .good]
  else if offset = 32 then
    ({ s with shelf := s.shelf.written data } : State).say [reply i t .good]
  else s.say [reply i t .readOnly]

/-- A control write: it holds its entry AT-RESPONDER while the responder takes its block, and the entry is free when its
completion has been sent (R93 to R95, R171). -/
def State.controlWrite (i : SlotId) (r : Record) (s : State) : State :=
  ((s.takeEntry i (r.toControl .write)).windowTake i r.tag (r.start - Config.controlBase) (r.frames.getD 0 [])).freeEntry
    i r.tag

/-- The read of a GRADE RECORD block is held: phase GRADING with no record (R156). -/
def Slot.holdsGradeRead (sl : Slot) : Bool := sl.sup.phase == .grading && sl.closing.grade.isNone

/-- A control read: it takes its entry AT-RESPONDER and is served or held (R93 to R95, R156, R170). The block that is
served shows the slot as it then stands, so a STATUS block counts and shows the read that fetches it; the entry is free
when the completion has been sent (R95, R172; log entry 30). -/
def State.controlRead (i : SlotId) (r : Record) (s : State) : State :=
  let offset := r.start - Config.controlBase
  let s := s.takeEntry i (r.toControl .read)
  if offset = 16 ∧ (s.slot i).holdsGradeRead = true then s
  else (s.say [.frame i (s.windowBlock i offset), reply i r.tag .good]).freeEntry i r.tag

end Sys2Proof.Machine
end

