-- ==== Sys2Proof/Machine/Traffic.lean ====
section
/-! DEFINITION. Slot command control, post list, timing monitor, engine: taking records, issue, drive completions,
grants and bursts, deadlines and the drive link (chapters 1, 5, 6). -/

namespace Sys2Proof.Machine

/-! ## Taking a record -/

/-- The number of posted writes in the post list (R107). -/
def Slot.postCount (sl : Slot) : Nat := (sl.traffic.cmds.filter Cmd.posted).length

/-- A data-omitted WRITE of class STAMP is posted when posting is on and the list has room (R108). -/
def Slot.posts (sl : Slot) (c : Cmd) : Bool := c.stamped && sl.active.posts && sl.postCount < Config.maxPosted

/-- A data command is taken: it joins the tail of the issue queue; a posted write joins its pass and completes GOOD at
once, its tag free (R93, R108, R52). -/
def Act.accept (i : SlotId) (c : Cmd) (x : Act) : Act :=
  if x.sl.posts c then
    let posted := { c with tag := none, serial := x.sl.joinSerial c }
    let out := (c.tag.map fun t => [reply i t .good]).getD []
    (x.mod fun sl => (sl.join c).modCmds fun cs => cs ++ [posted]).say out
  else x.mod fun sl => sl.modCmds fun cs => cs ++ [c]

/-- A command record is delivered to slot `i` (R85, R89, R93, R94). -/
def State.deliver (i : SlotId) (r : Record) (s : State) : State :=
  match (s.slot i).refusal r, r.kind with
  | some cond, _ => s.say [reply i r.tag cond]
  | none, none => s.say [reply i r.tag .malformed]
  | none, some kind =>
    if r.isControl then
      if kind = .read then s.controlRead i r else s.controlWrite i r
    else s.commit i ((Act.start (s.slot i)).accept i (r.toCmd kind ((s.slot i).classFor r)))

/-- The record of a WRITE whose frames the port collected. -/
def Collecting.record (c : Collecting) (complete : Bool) : Record where
  tag := c.tag
  kind := some .write
  addr := c.addr
  count := c.count
  omitted := false
  param := 0
  frames := c.frames
  complete := complete

/-- A command record arrives: an incomplete WRITE before it is delivered at once, and its frames are discarded (R84). -/
def State.closePort (s : State) : State :=
  match s.port with
  | none => s
  | some c => State.deliver c.slot (c.record false) { s with port := none }

/-- A WRITE record with data arrives: the port collects its frames, or refuses a count of 0 or above 256 (R84). -/
def State.openPort (i : SlotId) (t : Tag) (addr : BitVec 48) (count : BitVec 16) (s : State) : State :=
  let c : Collecting := { slot := i, tag := t, addr := addr, count := count, frames := [] }
  if count.toNat = 0 ∨ 256 < count.toNat then s.deliver i (c.record true)
  else { s with port := some c }

/-- A data frame arrives: it is collected, and the last one delivers the WRITE; a frame that no write awaits is discarded
(R84). -/
def State.takeFrame (data : Block) (s : State) : State :=
  match s.port with
  | none => s
  | some c =>
    let c := { c with frames := c.frames ++ [data] }
    if c.frames.length = c.count.toNat then State.deliver c.slot (c.record true) { s with port := none }
    else { s with port := some c }

/-- A one-block WRITE to the control window arrives with its frame (log entry 7). -/
def State.windowWrite (i : SlotId) (t : Tag) (offset : Nat) (data : Block) (s : State) : State :=
  ((s.closePort).openPort i t (BitVec.ofNat 48 (Config.controlBase + offset)) 1).takeFrame data

/-- A record that carries no data arrives (R84). -/
def State.arrive (i : SlotId) (r : Record) (s : State) : State := s.closePort.deliver i r

/-! ## The issue queue -/

/-- A command that keeps a command behind it from the drive when they share a block: not yet done with the drive (R98,
R109). -/
def Cmd.unfinished (c : Cmd) : Bool := c.state == .waiting || c.state == .atDrive || c.state == .cancelled

/-- The command waits in the queue or is at the drive. -/
def Cmd.waitingOrAtDrive (c : Cmd) : Bool := c.state == .waiting || c.state == .atDrive

/-- Two commands share a block and at least one of them is a WRITE (R98). -/
def Cmd.conflicts (c d : Cmd) : Bool := c.overlaps d && (c.kind == .write || d.kind == .write)

/-- Command `c`, with `before` accepted before it and `after` after it, is blocked (R98; log entry 9). -/
def blocked (before : List Cmd) (c : Cmd) (after : List Cmd) : Bool :=
  (before.any fun d => d.unfinished && c.conflicts d)
  || (after.any fun d => d.state == .atDrive && c.conflicts d)
  || (c.kind == .flush && before.any fun d => d.kind == .write && d.unfinished)
  || (c.kind == .other && before.any Cmd.waitingOrAtDrive)
  || (before.any fun d => d.kind == .other && d.waitingOrAtDrive)

/-- The first command of the issue queue that is not blocked, with the commands before and after it (R97). -/
def firstReady (before : List Cmd) : List Cmd → Option (List Cmd × Cmd × List Cmd)
  | [] => none
  | c :: rest =>
    if c.state == .waiting && !blocked before c rest then some (before, c, rest)
    else firstReady (before ++ [c]) rest

/-- The drive tag is held by no command at the drive and by no cancelled one (R96). -/
def Slot.tagFree (sl : Slot) (d : DriveTag) : Bool :=
  !(sl.traffic.heldTags.contains d) && !(sl.traffic.cmds.any fun c => c.driveTag == some d)

/-- The drive tag an issue takes: the preferred one when it is free, the lowest free one otherwise (R96, R100; log entry
4). -/
def Slot.issueTag (sl : Slot) (pref : DriveTag) : Option DriveTag :=
  if sl.tagFree pref then some pref else (List.finRange 32).find? sl.tagFree

/-- The guarded range as the active recipe gives it now: 0 up to G, or up to C (R87, R99). -/
def Slot.guardedEnd (sl : Slot) : Nat := min sl.active.guardSize ((sl.ident.map Identity.capacity).getD 0)

/-- The guard test at the issue of a WRITE; every other command passes (R99). -/
def Slot.guardTest (sl : Slot) (c : Cmd) : Bool :=
  c.kind != .write || (sl.guardedEnd ≤ c.start || c.length == 0) || sl.shipWriteNow c.omitted c.start c.length

/-- A write that fails the guard test leaves the queue: GUARDED when unposted, recorded as failed when posted (R99, R111,
R185). `others` are the slot's commands without it. -/
def Act.guardFail (i : SlotId) (now : Nat) (c : Cmd) (others : List Cmd) (x : Act) : Act :=
  match c.tag with
  | some t => (x.mod fun sl => sl.modCmds fun _ => others).say [reply i t .guarded]
  | none =>
    x.mod fun sl => (((sl.takeRun now (c.wholeRun .writeFail)).raise .postFail).modCmds fun _ => others).finish c.serial

/-- The key of a slot; the free value while it is undefined (R1; log entry 14). -/
def Slot.keyValue (sl : Slot) : Word := sl.key.getD Config.undefinedKey

/-- What a stamped write is generated under: its first issue's values at a reissue, the slot's own now otherwise (R18,
R109). -/
def Slot.generationFor (sl : Slot) (c : Cmd) : Generation :=
  match c.generation with
  | some g => g
  | none => { key := sl.keyValue, alternate := sl.active.alternate, epoch := sl.pass.epoch }

/-- The check information of a stamp-region read at its issue (R6, R14). -/
def Slot.checkFor (sl : Slot) (c : Cmd) : Option CheckInfo :=
  if c.verified then
    some { zones := sl.zmap.copies c.start (c.start + c.length), key := sl.keyValue
           alternate := sl.active.alternate, full := sl.active.full }
  else none

/-- A posted write joins no pass at its issue; any other command may (R52, R100). -/
def Slot.joinAtIssue (c : Cmd) (sl : Slot) : Slot := if c.posted then sl else sl.join c

/-- The command as it stands at the drive (R95, R100, R107, R109, R118). -/
def Slot.issued (sl : Slot) (now : Nat) (d : DriveTag) (c : Cmd) : Cmd :=
  { c with
    state := .atDrive
    driveTag := some d
    serial := if c.posted then c.serial else sl.joinSerial c
    frames := []
    check := sl.checkFor c
    generation := if c.stamped then some (sl.generationFor c) else none
    issuedAt := now
    deadline := some (now + sl.active.timeoutMs) }

/-- The drive's block size in bytes; 4096 while none is identified. -/
def Slot.blockBytes (sl : Slot) : Nat := (sl.ident.map Identity.blockSize).getD 4096

/-- What follows a command on the drive link at its issue: a host write's frames, or the ship record block (R100,
R161). -/
def Slot.issueBlocks (sl : Slot) (now : Nat) (number : BitVec 8) (i : SlotId) (d : DriveTag) (c : Cmd) :
    List DriveMsg :=
  if c.shipRecord then [.block d (leadingBytes sl.blockBytes (sl.shipBlock now number i))]
  else c.frames.map fun f => .block d (leadingBytes sl.blockBytes f)

/-- The generation job of a stamped write (R18). -/
def Slot.issueJobs (sl : Slot) (d : DriveTag) (c : Cmd) : List Job :=
  if c.stamped then
    [{ owner := .generate d (sl.generationFor c), addr := c.start, total := c.length, done := 0, granted := 0 }]
  else []

/-- The issue of a command under drive tag `d`: the steps of R100 in order. `before` and `after` are the commands of the
slot around it. -/
def Slot.issueCmd (now : Nat) (number : BitVec 8) (i : SlotId) (d : DriveTag) (before : List Cmd) (c : Cmd)
    (after : List Cmd) (sl : Slot) : Slot :=
  let zones := sl.zonesAfter c (sl.generationFor c).epoch
  let next := if c.cls = some .stamp then (sl.joinAtIssue c).moveZones zones else sl.joinAtIssue c
  let next := next.modTraffic fun t =>
    { t with cmds := before ++ sl.issued now d c :: after, jobs := t.jobs ++ sl.issueJobs d c }
  let next := next.toDrive (.command d c.kind c.addr c.count c.param :: sl.issueBlocks now number i d c)
  if sl.issueFell zones then next.testPass else next

/-- ISSUE on slot `i`: while the link is UP and a drive tag is free, the first unblocked command is issued, or leaves the
queue by the guard test (R97, R99, R100). -/
def State.issueSlot (i : SlotId) (pref : DriveTag) (s : State) : State :=
  let sl := s.slot i
  if sl.link.state ≠ .up then s
  else match sl.issueTag pref, firstReady [] sl.traffic.cmds with
    | some d, some (before, c, after) =>
      if sl.guardTest c then s.modSlot i (Slot.issueCmd s.now s.shelf.number i d before c after)
      else (s.commit i ((Act.start sl).guardFail i s.now c (before ++ after))).settle i
    | _, _ => s

/-! ## Drive completions -/

/-- The histogram bucket of a service time (R117). -/
def bucketOf (t : Nat) : Nat :=
  if t < 10 then 0 else if t < 50 then 1 else if t < 100 then 2 else if t < 250 then 3
  else if t < 500 then 4 else if t < 1000 then 5 else if t < 2000 then 6 else 7

/-- The statistics after a completion of service time `t`, under a slow threshold; a GOOD one clears the
consecutive-reset count (R116, R117, R124). -/
def Timing.taken (t slow : Nat) (good : Bool) (q : Timing) : Timing :=
  { q with
    completed := satAdd Config.max32 q.completed 1
    sum := satAdd Config.max48 q.sum t
    longest := min Config.max32 (max q.longest t)
    histogram := q.histogram.modify (bucketOf t) fun n => satAdd Config.max32 n 1
    slow := if slow ≤ t then satAdd Config.max32 q.slow 1 else q.slow
    consecutive := if good then 0 else q.consecutive }

/-- The status is GOOD, and its error detail. -/
def isGood : DriveStatus → Bool
  | .good => true
  | .error _ => false
def detailOf : DriveStatus → Option DriveError
  | .good => none
  | .error e => some e

/-- The first `n` blocks a drive returned; a block it left out is zero (log entry 15). -/
def takeBlocks (n : Nat) (data : List Block) : List Block := (List.range n).map fun k => data.getD k []

/-- The condition of a drive error (R102). -/
def errorCondition (e : DriveError) : Condition :=
  match e.cls with
  | .media => .media
  | .other => .driveError

/-- The completion of a command other than a stamp-region read: GOOD, or the error's condition with its detail (R101,
R102). -/
def completionFor (i : SlotId) (t : Tag) (status : DriveStatus) : Upstream :=
  match status with
  | .good => reply i t .good
  | .error e => .completion { slot := i, tag := t, cond := errorCondition e, detail := some e, summary := none }

/-- The job is the check job of the read under tag `t`. -/
def Job.checks (t : Tag) (j : Job) : Bool :=
  match j.owner with
  | .check u => u == t
  | .generate _ _ => false

/-- The job is the generation job of the write at drive tag `d`. -/
def Job.generatesFor (d : DriveTag) (j : Job) : Bool :=
  match j.owner with
  | .generate e _ => e == d
  | .check _ => false

/-- A read whose last block has been classified: runs, then good coverage go to the defect table; then frames under FULL
and the completion go upstream; then the read finishes for its pass (R12 to R17, R53). -/
def Act.completeRead (i : SlotId) (now : Nat) (t : Tag) (c : Cmd) (x : Act) : Act :=
  let classes := c.allClasses c.classes
  let summary := summaryOf classes
  let full := (c.check.map CheckInfo.full).getD false
  let frames := if full then c.returned.map (Upstream.frame i) else []
  let done := Upstream.completion
    { slot := i, tag := t, cond := readCondition c.driveError summary.bad, detail := c.driveError,
      summary := some summary }
  (x.mod fun sl =>
    ((((sl.takeRuns now (failureRuns c.start classes)).takeCoverage (goodCoverage c.start classes)).modCmds fun cs =>
      cs.filter fun d => d.tag != some t).finish c.serial)).say (frames ++ [done])

/-- A drive completion of a stamp-region read: it goes to CHECKING with a check job over the blocks that returned data,
or completes at once when none did (R7, R18, R101, R102). -/
def Act.readReturned (i : SlotId) (now : Nat) (t : Tag) (c : Cmd) (status : DriveStatus) (data : List Block)
    (x : Act) : Act :=
  let n := returnedCount c (detailOf status)
  let c' := { c with state := .checking, driveTag := none, deadline := none, driveError := detailOf status,
                     returned := takeBlocks n data }
  let x := x.mod fun sl => sl.modCmds fun cs => cs.map fun d => if d.tag == some t then c' else d
  if n = 0 then x.completeRead i now t c'
  else x.mod fun sl => sl.modJobs fun js =>
    js ++ [{ owner := .check t, addr := c.start, total := n, done := 0, granted := 0 }]

/-- The MEDIA run of a read outside the stamp region (R102). -/
def Cmd.mediaRun (c : Cmd) (e : DriveError) : List Run :=
  match c.failingOffset e with
  | none => []
  | some k => [{ first := c.start + k, length := 1, kind := .media, worstB := 0, claimed := none }]

/-- The failure runs of an unposted command that is no stamp-region read (R102). -/
def Cmd.errorRuns (c : Cmd) (status : DriveStatus) : List Run :=
  match status with
  | .good => []
  | .error e =>
    match c.kind with
    | .read => c.mediaRun e
    | .write => [c.writeFailRun e]
    | .flush | .identify | .other => []

/-- The data frames an unposted command sends upstream: a read's returned blocks, an IDENTIFY's identification block
(R101, R102, R104). -/
def Slot.upstreamFrames (sl : Slot) (i : SlotId) (c : Cmd) (status : DriveStatus) (data : List Block) :
    List Upstream :=
  match c.kind with
  | .read =>
    (takeBlocks (returnedCount c (detailOf status)) data).map fun b => .frame i (leadingBytes sl.blockBytes b)
  | .identify => if isGood status then [.frame i (data.getD 0 [])] else []
  | .write | .flush | .other => []

/-- What a completion does to the slot's own records: an IDENTIFY in ATTACHING identifies (R131), a ship record write
completing GOOD sets the state WRITTEN and may reach SHIPPED (R160, R163). -/
def Slot.completionEffect (c : Cmd) (status : DriveStatus) (ident : Identification) (sl : Slot) : Slot :=
  if isGood status then
    if c.kind = .identify ∧ sl.sup.phase = .attaching then sl.identify ident
    else if c.shipRecord then (sl.modClosing fun q => { q with shipWritten := true }).testShipped
    else sl
  else sl

/-- A drive completion of an unposted command that is no stamp-region read (R101 to R104). -/
def Act.cmdReturned (i : SlotId) (now : Nat) (t : Tag) (c : Cmd) (status : DriveStatus) (data : List Block)
    (ident : Identification) (x : Act) : Act :=
  let frames := x.sl.upstreamFrames i c status data
  (x.mod fun sl =>
    ((((sl.takeRuns now (c.errorRuns status)).modCmds fun cs => cs.filter fun d => d.tag != some t).finish c.serial
      ).completionEffect c status ident)).say (frames ++ [completionFor i t status])

/-- A drive completion of a posted write: removed on GOOD, recorded as failed and removed on an error (R110, R111,
R185). -/
def Slot.postReturned (now : Nat) (d : DriveTag) (c : Cmd) (status : DriveStatus) (sl : Slot) : Slot :=
  let sl := match status with
    | .good => sl
    | .error e => (sl.takeRun now (c.writeFailRun e)).raise .postFail
  (sl.modCmds fun cs => cs.filter fun x => !x.atTag d).finish c.serial

/-- A write still waits for its generation bursts: its job is in the engine queue, so the drive has not received every
block (R19, R21; log entry 11). -/
def Slot.stillGenerating (sl : Slot) (d : DriveTag) : Bool := sl.traffic.jobs.any (Job.generatesFor d)

/-- A drive completion taken by the command at its drive tag, whose blocks are all with the drive: statistics first, then
the command's own rule (R101, R102, R110, R111, R116). -/
def Act.completion (i : SlotId) (now : Nat) (d : DriveTag) (c : Cmd) (status : DriveStatus) (data : List Block)
    (ident : Identification) (x : Act) : Act :=
  let x := x.mod fun sl => sl.modTiming (Timing.taken (now - c.issuedAt) sl.active.slow.toNat (isGood status))
  match c.tag with
  | none => x.mod (Slot.postReturned now d c status)
  | some t =>
    if c.verified then x.readReturned i now t c status data
    else x.cmdReturned i now t c status data ident

/-- DRIVE_COMPLETION on slot `i`: taken by the command AT-DRIVE under the tag, or discarded as late (R121). -/
def State.driveCompletion (i : SlotId) (d : DriveTag) (status : DriveStatus) (data : List Block)
    (ident : Identification) (s : State) : State :=
  let sl := s.slot i
  match sl.traffic.cmds.find? (Cmd.atTag d) with
  | none => s.modSlot i fun sl => sl.modTiming fun q => { q with late := satAdd Config.max32 q.late 1 }
  | some c =>
    if sl.stillGenerating d then s
    else (s.commit i ((Act.start sl).completion i s.now d c status data ident)).settle i

/-! ## The engine -/

/-- The burst under way on slot `i`: its oldest job when that job has been granted (R20, R21). -/
def Slot.burst (sl : Slot) : Option Job := sl.traffic.jobs.find? fun j => j.granted != 0

/-- The engine is idle (R20). -/
def State.engineIdle (s : State) : Bool := slotIds.all fun i => (s.slot i).burst.isNone

/-- The slots in circular order after the last-granted one, which comes last (R20). -/
def circular (last : SlotId) : List SlotId := slotIds.map fun k => last + k + 1

/-- The slot has a queued job. -/
def Slot.hasJob (sl : Slot) : Bool := !sl.traffic.jobs.isEmpty

/-- The engine priority level of a slot, 0 to 3, from its active recipe at the grant (R20). -/
def Slot.level (sl : Slot) : Nat := sl.active.priority.toNat

/-- The highest level among the slots with queued jobs (R20). -/
def State.topLevel (s : State) : Nat :=
  slotIds.foldl (fun m i => if (s.slot i).hasJob then max m (s.slot i).level else m) 0

/-- The winner of a grant (R20). -/
def State.winner (s : State) : Option SlotId :=
  (circular s.engineLast).find? fun i => (s.slot i).hasJob && (s.slot i).level == s.topLevel

/-- The oldest job is granted a burst (R20). -/
def grantOldest : List Job → List Job
  | [] => []
  | j :: js => { j with granted := min Config.burstBlocks (j.total - j.done) } :: js

/-- ENGINE_GRANT: the idle engine grants a burst of the winner's oldest job (R20). -/
def State.grant (s : State) : State :=
  if s.engineIdle then
    match s.winner with
    | none => s
    | some i => { s.modSlot i (Slot.modJobs grantOldest) with engineLast := i }
  else s

/-- The slot whose burst holds the engine. -/
def State.burstSlot (s : State) : Option SlotId := slotIds.find? fun i => (s.slot i).burst.isSome

/-- The burst's blocks are done: the job moves on, and leaves the queue when its last block is done (R19, R21). -/
def advanceJobs : List Job → List Job
  | [] => []
  | j :: js =>
    if j.granted = 0 then j :: advanceJobs js
    else if j.total ≤ j.done + j.granted then js
    else { j with done := j.done + j.granted, granted := 0 } :: js

/-- A generation burst: its blocks go to the drive behind the write's command (R21). -/
def Slot.generateBurst (d : DriveTag) (g : Generation) (j : Job) (sl : Slot) : Slot :=
  sl.toDrive ((stampBlocks g (j.addr + j.done) j.granted).map fun b => .block d b)

/-- The classes of the blocks of a check burst (R21). -/
def Cmd.burstClasses (c : Cmd) (j : Job) : List BlockClass :=
  (List.range j.granted).map fun k =>
    match c.check with
    | none => .unverified
    | some info => info.classify (c.start + j.done + k) (c.returned.getD (j.done + k) [])

/-- A check burst: its blocks are classified and recorded against the read, which completes with its last block (R16,
R17, R21). -/
def Act.checkBurst (i : SlotId) (now : Nat) (t : Tag) (j : Job) (x : Act) : Act :=
  match x.sl.traffic.cmds.find? fun c => c.tag == some t with
  | none => x
  | some c =>
    let c' := { c with classes := c.classes ++ c.burstClasses j }
    if j.total ≤ j.done + j.granted then x.completeRead i now t c'
    else x.mod fun sl => sl.modCmds fun cs => cs.map fun d => if d.tag == some t then c' else d

/-- ENGINE_BURST_DONE: the burst under way does its blocks and the engine becomes idle (R21). The blocks of a generation
burst go to the drive here, so a burst whose job is dropped under way (R19) has sent none of them: how many such a burst has
sent is open in the spec, and this is the model's choice (DESIGN CHOICE, unsafe; log entry 29). -/
def State.burstDone (s : State) : State :=
  match s.burstSlot with
  | none => s
  | some i =>
    match (s.slot i).burst with
    | none => s
    | some j =>
      let x := (Act.start (s.slot i)).mod (Slot.modJobs advanceJobs)
      let x := match j.owner with
        | .generate d g => x.mod (Slot.generateBurst d g j)
        | .check t => x.checkBurst i s.now t j
      (s.commit i x).settle i

/-! ## Deadlines and the drive link -/

/-- A deadline expires: TIMEOUT run, count and flag, the unposted command's completion, then the link reset (R119,
R185). -/
def Act.expire (i : SlotId) (now : Nat) (d : DriveTag) (c : Cmd) (x : Act) : Act :=
  let x := x.mod fun sl =>
    ((if c.hasRange then sl.takeRun now (c.wholeRun .timeout) else sl).modTiming fun q =>
      { q with timeouts := satAdd Config.max32 q.timeouts 1 }).raise .timeout
  let x := match c.tag with
    | none => x
    | some t =>
      (x.mod fun sl =>
        (sl.modTraffic fun q =>
          { cmds := q.cmds.filter fun e => e.tag != some t, heldTags := d :: q.heldTags
            jobs := q.jobs.filter fun j => !j.generatesFor d }).finish c.serial).say [reply i t .timeout]
  x.linkReset i now

/-- DEADLINE_EXPIRY on slot `i` for the command at drive tag `d` (R119); with no such command nothing happens (R126). -/
def State.deadlineExpiry (i : SlotId) (d : DriveTag) (s : State) : State :=
  match (s.slot i).traffic.cmds.find? (Cmd.atTag d) with
  | none => s
  | some c =>
    let s := s.advanceTo c.deadline
    (s.commit i ((Act.start (s.slot i)).expire i s.now d c)).settle i

/-- LINK_LOST on slot `i`: a reset begins without a timeout on a powered slot that is not FAULTED; in FAULTED the link is
recorded as DOWN; otherwise nothing (R125, R130, R143). -/
def State.linkLost (i : SlotId) (s : State) : State :=
  let sl := s.slot i
  if sl.sup.power = true ∧ sl.link.state = .up then
    if sl.sup.phase = .faulted then s.modSlot i fun sl => sl.modLink fun l => { l with state := .down }
    else (s.commit i ((Act.start sl).linkReset i s.now)).settle i
  else s

/-- The cancelled writes return to the queue and the held drive tags to the pool (R113, R122). -/
def Slot.requeue (sl : Slot) : Slot :=
  sl.modTraffic fun t =>
    { t with
      cmds := t.cmds.map fun c => if c.state = .cancelled then { c with state := .waiting, driveTag := none } else c
      heldTags := [] }

/-- The link is UP after a reset: its deadline ends and the consecutive-reset count rises (R122). -/
def Slot.resetDone (sl : Slot) : Slot :=
  (sl.modLink fun l => { l with state := .up, upDeadline := none }).modTiming fun q =>
    { q with consecutive := q.consecutive + 1 }

/-- LINK_UP on slot `i`: after a reset (R122), at the end of the attach link wait (R130), or in FAULTED, where it is only
recorded (R123, R143); nothing on a slot whose power is OFF. -/
def State.linkUp (i : SlotId) (s : State) : State :=
  let sl := s.slot i
  if sl.sup.power = false then s
  else match sl.link.state with
    | .resetting =>
      let s := s.modSlot i Slot.resetDone
      if 3 ≤ (s.slot i).timing.consecutive then s.faultSlot i .resetLimit else s.modSlot i Slot.requeue
    | .down =>
      s.modSlot i fun sl =>
        (sl.modLink fun l => { l with state := .up }).modSup fun u => { u with attachDeadline := none }
    | .up => s

/-- LINK_UP_DEADLINE_EXPIRY on slot `i`: the link stays DOWN and the slot faults (R123). -/
def State.linkUpExpiry (i : SlotId) (s : State) : State :=
  if (s.slot i).link.state = .resetting then
    (s.advanceTo (s.slot i).link.upDeadline).faultSlot i .linkLost
  else s

/-- ATTACH_LINK_DEADLINE_EXPIRY on slot `i` (R130). -/
def State.attachExpiry (i : SlotId) (s : State) : State :=
  if (s.slot i).sup.phase = .attaching ∧ (s.slot i).sup.attachDeadline.isSome = true then
    (s.advanceTo (s.slot i).sup.attachDeadline).faultSlot i .linkLost
  else s

/-- SPIN_UP_GRACE_END on slot `i` (R129). -/
def State.graceEnd (i : SlotId) (s : State) : State :=
  (s.advanceTo (s.slot i).sup.graceEnd).modSlot i fun sl => sl.modSup fun u => { u with graceEnd := none }

/-! ## Completion of a grade computation -/

/-- The reads of the GRADE RECORD block held for the slot (R156). -/
def heldReads (cs : List Cmd) : List Cmd := inTagOrder (cs.filter fun c => !c.isData)

/-- The slot at the completion of its computation: record, GRADE-READY, held reads answered, GRADED when it is still
GRADING, step NONE (R155, R156). -/
def Act.graded (i : SlotId) (g : GradeRecord) (x : Act) : Act :=
  let sl := ((x.sl.modClosing fun q => { q with grade := some g, step := .none }).raise .gradeReady).modSup fun u =>
    { u with phase := if u.phase = .grading then .graded else u.phase }
  let held := heldReads sl.traffic.cmds
  (Act.mod (fun _ => sl.modCmds fun cs => cs.filter Cmd.isData) x).say
    (held.flatMap (Cmd.endRecords i .good (some sl.gradeBlock)))

/-- COMPUTATION_COMPLETE: the record is written and the unit starts the next computation (R155, R148). -/
def State.completeComputation (s : State) : State :=
  match s.grader.current with
  | none => s
  | some c =>
    let s := { s with grader := { s.grader with current := none } }
    (s.commit c.slot ((Act.start (s.slot c.slot)).graded c.slot c.record)).startNext

end Sys2Proof.Machine
end

