-- ==== Sys2Proof/Machine/Events.lean ====
section
/-! DEFINITION. The meanings of the rows that are events inside the part, on the drive links, at the slots' mechanics and
sensors, and the shelf reset. -/

namespace Sys2Proof.Machine

/-- ISSUE (R97, R99, R100). -/
def execIssue (i : SlotId) (pref : DriveTag) (s : State) : Host.Outcome State Fault Refusal :=
  .next (s.issueSlot i pref)

/-- DRIVE_COMPLETION (R101, R102, R110, R111, R121). -/
def execDriveCompletion (i : SlotId) (d : DriveTag) (status : DriveStatus) (data : List Block)
    (ident : Identification) (s : State) : Host.Outcome State Fault Refusal :=
  .next (s.driveCompletion i d status data ident)

/-- ENGINE_GRANT (R20). -/
def execEngineGrant (s : State) : Host.Outcome State Fault Refusal := .next s.grant

/-- ENGINE_BURST_DONE (R21). -/
def execEngineBurstDone (s : State) : Host.Outcome State Fault Refusal := .next s.burstDone

/-- DEADLINE_EXPIRY (R119). -/
def execDeadlineExpiry (i : SlotId) (d : DriveTag) (s : State) : Host.Outcome State Fault Refusal :=
  .next (s.deadlineExpiry i d)

/-- LINK_UP (R122, R130). -/
def execLinkUp (i : SlotId) (s : State) : Host.Outcome State Fault Refusal := .next (s.linkUp i)

/-- LINK_LOST (R125). -/
def execLinkLost (i : SlotId) (s : State) : Host.Outcome State Fault Refusal := .next (s.linkLost i)

/-- LINK_UP_DEADLINE_EXPIRY (R123). -/
def execLinkUpDeadlineExpiry (i : SlotId) (s : State) : Host.Outcome State Fault Refusal := .next (s.linkUpExpiry i)

/-- ATTACH_LINK_DEADLINE_EXPIRY (R130). -/
def execAttachLinkDeadlineExpiry (i : SlotId) (s : State) : Host.Outcome State Fault Refusal :=
  .next (s.attachExpiry i)

/-- CARRIER_INSERTED (R127). -/
def execCarrierInserted (i : SlotId) (s : State) : Host.Outcome State Fault Refusal := .next (s.insertCarrier i)

/-- CARRIER_REMOVED (R133); a line that does not change gives no event (R127, log entry 16). -/
def execCarrierRemoved (i : SlotId) (s : State) : Host.Outcome State Fault Refusal :=
  .next (if (s.slot i).sup.carrier then s.removeCarrier i else s)

/-- LATCH_CLOSED (R127, R132). -/
def execLatchClosed (i : SlotId) (s : State) : Host.Outcome State Fault Refusal := .next (s.closeLatch i)

/-- LATCH_OPENED (R127, R132). -/
def execLatchOpened (i : SlotId) (s : State) : Host.Outcome State Fault Refusal := .next (s.openLatch i)

/-- SPIN_UP_GRACE_END (R129). -/
def execSpinUpGraceEnd (i : SlotId) (s : State) : Host.Outcome State Fault Refusal := .next (s.graceEnd i)

/-- SAMPLE_EVENT (R136 to R142). -/
def execSampleEvent (i : SlotId) (current : BitVec 32) (temp : BitVec 16) (s : State) :
    Host.Outcome State Fault Refusal :=
  .next (s.sampleSlot i current temp)

/-- DRAIN_END (R147): the drain is tested (log entry 6). -/
def execDrainEnd (i : SlotId) (s : State) : Host.Outcome State Fault Refusal := .next (s.testDrain i)

/-- COMPUTATION_START (R148, R149; log entry 6). -/
def execComputationStart (s : State) : Host.Outcome State Fault Refusal := .next s.startNext

/-- COMPUTATION_COMPLETE (R155). -/
def execComputationComplete (s : State) : Host.Outcome State Fault Refusal := .next s.completeComputation

/-- RELEASE_COMPLETION (R166): the release drain is tested (log entry 6). -/
def execReleaseCompletion (i : SlotId) (s : State) : Host.Outcome State Fault Refusal := .next (s.testRelease i)

/-- SHELF_RESET (R181, R182). -/
def execShelfReset (lines : List Lines) (memory : Option Block) (s : State) : Host.Outcome State Fault Refusal :=
  .next (s.shelfReset lines memory)

end Sys2Proof.Machine
end

