-- ==== Sys2Proof/Machine/LinkRecords.lean ====
section
/-! DEFINITION. The meanings of the shelf link rows: command records and data frames (R84 to R93, R103, R104, R108). -/

namespace Sys2Proof.Machine

/-- A record that carries no data, as it arrives. -/
def bareRecord (kind : Option CmdKind) (t : Tag) (addr : BitVec 48) (count : BitVec 16) (omitted : Bool)
    (param : BitVec 128) : Record where
  tag := t
  kind := kind
  addr := addr
  count := count
  omitted := omitted
  param := param
  frames := []
  complete := true

/-- READ (R84, R89): the record is delivered when it has arrived. -/
def execRead (i : SlotId) (t : Tag) (addr : BitVec 48) (count : BitVec 16) (omitted : Bool) (s : State) :
    Host.Outcome State Fault Refusal :=
  .next (s.arrive i (bareRecord (some .read) t addr count omitted 0))

/-- WRITE with data (R84, R93): the port begins to collect its frames. -/
def execWrite (i : SlotId) (t : Tag) (addr : BitVec 48) (count : BitVec 16) (s : State) :
    Host.Outcome State Fault Refusal :=
  .next (s.closePort.openPort i t addr count)

/-- DATA_OMITTED_WRITE (R84, R92, R108): delivered when the record has arrived. -/
def execDataOmittedWrite (i : SlotId) (t : Tag) (addr : BitVec 48) (count : BitVec 16) (s : State) :
    Host.Outcome State Fault Refusal :=
  .next (s.arrive i (bareRecord (some .write) t addr count true 0))

/-- FLUSH (R84, R103). -/
def execFlush (i : SlotId) (t : Tag) (addr : BitVec 48) (count : BitVec 16) (omitted : Bool) (s : State) :
    Host.Outcome State Fault Refusal :=
  .next (s.arrive i (bareRecord (some .flush) t addr count omitted 0))

/-- IDENTIFY (R84, R104). -/
def execIdentify (i : SlotId) (t : Tag) (addr : BitVec 48) (count : BitVec 16) (omitted : Bool) (s : State) :
    Host.Outcome State Fault Refusal :=
  .next (s.arrive i (bareRecord (some .identify) t addr count omitted 0))

/-- OTHER (R84, R104), with its parameter. -/
def execOther (i : SlotId) (t : Tag) (addr : BitVec 48) (count : BitVec 16) (omitted : Bool) (param : BitVec 128)
    (s : State) : Host.Outcome State Fault Refusal :=
  .next (s.arrive i (bareRecord (some .other) t addr count omitted param))

/-- DATA_FRAME (R84). -/
def execDataFrame (data : Block) (s : State) : Host.Outcome State Fault Refusal := .next (s.takeFrame data)

/-- UNKNOWN_KIND_COMMAND_RECORD (R90): refused with MALFORMED. The code itself is not looked at further. -/
def execUnknownKindRecord (i : SlotId) (t : Tag) (_kind : BitVec 4) (addr : BitVec 48) (count : BitVec 16)
    (omitted : Bool) (s : State) : Host.Outcome State Fault Refusal :=
  .next (s.arrive i (bareRecord none t addr count omitted 0))

end Sys2Proof.Machine
end

