-- ==== Sys2Proof/Machine/WindowAccess.lean ====
section
/-! DEFINITION. The meanings of the control-window rows: the twelve commands, an unknown one, the block writes and the
grade record read (chapter 10). Each is the one-block access of the window that carries it (log entry 7). -/

namespace Sys2Proof.Machine

/-- A write of a command to slot `i`'s COMMAND block arrives with its frame (R173). -/
def State.writeCommand (i : SlotId) (t : Tag) (code a b : Word) (s : State) : State := s.windowWrite i t 1 [code, a, b]

/-- ARM (R46 to R48). -/
def execArm (i : SlotId) (t : Tag) (a b : Word) (s : State) : Host.Outcome State Fault Refusal :=
  .next (s.writeCommand i t 1 a b)

/-- HOLD (R49). -/
def execHold (i : SlotId) (t : Tag) (a b : Word) (s : State) : Host.Outcome State Fault Refusal :=
  .next (s.writeCommand i t 2 a b)

/-- RESUME (R50). -/
def execResume (i : SlotId) (t : Tag) (a b : Word) (s : State) : Host.Outcome State Fault Refusal :=
  .next (s.writeCommand i t 3 a b)

/-- ABORT (R51, R164). -/
def execAbort (i : SlotId) (t : Tag) (a b : Word) (s : State) : Host.Outcome State Fault Refusal :=
  .next (s.writeCommand i t 4 a b)

/-- SOAK (R63). -/
def execSoak (i : SlotId) (t : Tag) (a b : Word) (s : State) : Host.Outcome State Fault Refusal :=
  .next (s.writeCommand i t 5 a b)

/-- ADOPT (R175). -/
def execAdopt (i : SlotId) (t : Tag) (a b : Word) (s : State) : Host.Outcome State Fault Refusal :=
  .next (s.writeCommand i t 6 a b)

/-- CLOSE (R145, R146). -/
def execClose (i : SlotId) (t : Tag) (a b : Word) (s : State) : Host.Outcome State Fault Refusal :=
  .next (s.writeCommand i t 7 a b)

/-- SHIP (R158). -/
def execShip (i : SlotId) (t : Tag) (a b : Word) (s : State) : Host.Outcome State Fault Refusal :=
  .next (s.writeCommand i t 8 a b)

/-- RELEASE (R165, R166). -/
def execRelease (i : SlotId) (t : Tag) (a b : Word) (s : State) : Host.Outcome State Fault Refusal :=
  .next (s.writeCommand i t 9 a b)

/-- RESET_SLOT (R134, R135). -/
def execResetSlot (i : SlotId) (t : Tag) (a b : Word) (s : State) : Host.Outcome State Fault Refusal :=
  .next (s.writeCommand i t 10 a b)

/-- CLEAR_EVENTS (R177). -/
def execClearEvents (i : SlotId) (t : Tag) (a b : Word) (s : State) : Host.Outcome State Fault Refusal :=
  .next (s.writeCommand i t 11 a b)

/-- SET_MASK (R177). -/
def execSetMask (i : SlotId) (t : Tag) (a b : Word) (s : State) : Host.Outcome State Fault Refusal :=
  .next (s.writeCommand i t 12 a b)

/-- UNKNOWN_COMMAND (R173): recorded with outcome UNKNOWN. -/
def execUnknownCommand (i : SlotId) (t : Tag) (code a b : Word) (s : State) : Host.Outcome State Fault Refusal :=
  .next (s.writeCommand i t code a b)

/-- PENDING_RECIPE_WRITE (R174). -/
def execPendingRecipeWrite (i : SlotId) (t : Tag) (data : Block) (s : State) : Host.Outcome State Fault Refusal :=
  .next (s.windowWrite i t 2 data)

/-- SHELF_BLOCK_WRITE (R179). -/
def execShelfBlockWrite (i : SlotId) (t : Tag) (data : Block) (s : State) : Host.Outcome State Fault Refusal :=
  .next (s.windowWrite i t 32 data)

/-- READ_ONLY_BLOCK_WRITE (R171). -/
def execReadOnlyBlockWrite (i : SlotId) (t : Tag) (offset : Fin 64) (data : Block) (s : State) :
    Host.Outcome State Fault Refusal :=
  .next (s.windowWrite i t offset.val data)

/-- The record of a GRADE RECORD read: a one-block READ of W + 16 (R156). -/
def gradeReadRecord (t : Tag) : Record where
  tag := t
  kind := some .read
  addr := BitVec.ofNat 48 (Config.controlBase + 16)
  count := 1
  omitted := false
  param := 0
  frames := []
  complete := true

/-- GRADE_RECORD_READ (R156). -/
def execGradeRecordRead (i : SlotId) (t : Tag) (s : State) : Host.Outcome State Fault Refusal :=
  .next (s.arrive i (gradeReadRecord t))

end Sys2Proof.Machine
end

