-- ==== Sys2Proof/Machine/Dispatch.lean ====
section
/-! DEFINITION. The dispatch of every command to its meaning, one arm per row of spec/opcode_table.json. -/

namespace Sys2Proof.Machine

open Sys2Proof

def exec (i : Instr) (s : State) : Host.Outcome State Fault Refusal :=
  match i with
  | .read k t addr count omitted => Sys2Proof.Machine.execRead k t addr count omitted s
  | .write k t addr count => Sys2Proof.Machine.execWrite k t addr count s
  | .dataOmittedWrite k t addr count => Sys2Proof.Machine.execDataOmittedWrite k t addr count s
  | .flush k t addr count omitted => Sys2Proof.Machine.execFlush k t addr count omitted s
  | .identify k t addr count omitted => Sys2Proof.Machine.execIdentify k t addr count omitted s
  | .other k t addr count omitted param => Sys2Proof.Machine.execOther k t addr count omitted param s
  | .dataFrame data => Sys2Proof.Machine.execDataFrame data s
  | .arm k t a b => Sys2Proof.Machine.execArm k t a b s
  | .hold k t a b => Sys2Proof.Machine.execHold k t a b s
  | .resume k t a b => Sys2Proof.Machine.execResume k t a b s
  | .abort k t a b => Sys2Proof.Machine.execAbort k t a b s
  | .soak k t a b => Sys2Proof.Machine.execSoak k t a b s
  | .adopt k t a b => Sys2Proof.Machine.execAdopt k t a b s
  | .close k t a b => Sys2Proof.Machine.execClose k t a b s
  | .ship k t a b => Sys2Proof.Machine.execShip k t a b s
  | .release k t a b => Sys2Proof.Machine.execRelease k t a b s
  | .resetSlot k t a b => Sys2Proof.Machine.execResetSlot k t a b s
  | .clearEvents k t a b => Sys2Proof.Machine.execClearEvents k t a b s
  | .setMask k t a b => Sys2Proof.Machine.execSetMask k t a b s
  | .unknownCommand k t code a b => Sys2Proof.Machine.execUnknownCommand k t code a b s
  | .pendingRecipeWrite k t data => Sys2Proof.Machine.execPendingRecipeWrite k t data s
  | .shelfBlockWrite k t data => Sys2Proof.Machine.execShelfBlockWrite k t data s
  | .readOnlyBlockWrite k t offset data => Sys2Proof.Machine.execReadOnlyBlockWrite k t offset data s
  | .gradeRecordRead k t => Sys2Proof.Machine.execGradeRecordRead k t s
  | .issue k pref => Sys2Proof.Machine.execIssue k pref s
  | .driveCompletion k d status data ident => Sys2Proof.Machine.execDriveCompletion k d status data ident s
  | .engineGrant => Sys2Proof.Machine.execEngineGrant s
  | .engineBurstDone => Sys2Proof.Machine.execEngineBurstDone s
  | .deadlineExpiry k d => Sys2Proof.Machine.execDeadlineExpiry k d s
  | .linkUp k => Sys2Proof.Machine.execLinkUp k s
  | .linkLost k => Sys2Proof.Machine.execLinkLost k s
  | .linkUpDeadlineExpiry k => Sys2Proof.Machine.execLinkUpDeadlineExpiry k s
  | .attachLinkDeadlineExpiry k => Sys2Proof.Machine.execAttachLinkDeadlineExpiry k s
  | .carrierInserted k => Sys2Proof.Machine.execCarrierInserted k s
  | .carrierRemoved k => Sys2Proof.Machine.execCarrierRemoved k s
  | .latchClosed k => Sys2Proof.Machine.execLatchClosed k s
  | .latchOpened k => Sys2Proof.Machine.execLatchOpened k s
  | .spinUpGraceEnd k => Sys2Proof.Machine.execSpinUpGraceEnd k s
  | .sampleEvent k current temp => Sys2Proof.Machine.execSampleEvent k current temp s
  | .drainEnd k => Sys2Proof.Machine.execDrainEnd k s
  | .computationStart => Sys2Proof.Machine.execComputationStart s
  | .computationComplete => Sys2Proof.Machine.execComputationComplete s
  | .releaseCompletion k => Sys2Proof.Machine.execReleaseCompletion k s
  | .shelfReset lines memory => Sys2Proof.Machine.execShelfReset lines memory s
  | .unknownKindRecord k t kind addr count omitted => Sys2Proof.Machine.execUnknownKindRecord k t kind addr count omitted s

end Sys2Proof.Machine
end

