-- ==== Sys2Proof/Safety.lean ====
section
/-! DEFINITION. What counts as a safe state and a safe run, in the terms the statements use: what every step keeps, and a
few names for what the statements compute. -/

namespace Sys2Proof.Machine

/-! ## Event masks and defect tables -/

/-- The mask bits of TRIP and FAULT are 1 on every slot (R177, R178). -/
def State.MasksOn (s : State) : Prop := ∀ i, (s.slot i).events.mask &&& alwaysOn = alwaysOn

/-- The extents of a table stand in ascending order, are not empty, and share no block (R66, R67). -/
def orderedExtents : List Extent → Prop
  | [] => True
  | e :: es => 0 < e.length ∧ (∀ x ∈ es, e.stop ≤ x.start) ∧ orderedExtents es

/-- A table's extents as R67 requires them: at most 512, in order, disjoint; and one of kind MEDIA, MISPLACED or
WRITE-FAIL is CONFIRMED (R71). -/
structure ExtentsWF (es : List Extent) : Prop where
  ordered   : orderedExtents es
  room      : es.length ≤ Config.maxExtents
  confirmed : ∀ e ∈ es, e.kind = .media ∨ e.kind = .misplaced ∨ e.kind = .writeFail → e.status = .confirmed

/-- Every slot's defect table is as R67 requires it, and its post-close count is 0 until it is frozen (R80). -/
def State.TablesWF (s : State) : Prop :=
  ∀ i, ExtentsWF (s.slot i).defects.extents ∧ ((s.slot i).sup.closed = false → (s.slot i).defects.postClose = 0)

/-! ## Traffic -/

/-- The commands of a slot: no two under one upstream tag (R85), no two under one drive tag (R96), no two at the drive
that share a block where one of them writes (R98); every command at the drive has its drive tag, and it is none kept back for
a cancelled one (R96). -/
structure Traffic.WF (t : Traffic) : Prop where
  tags      : t.cmds.Pairwise fun c d => c.tag = none ∨ c.tag ≠ d.tag
  driveTags : t.cmds.Pairwise fun c d => c.driveTag = none ∨ c.driveTag ≠ d.driveTag
  overlap   : t.cmds.Pairwise fun c d => c.isAtDrive = true → d.isAtDrive = true → c.conflicts d = false
  tagged    : ∀ c ∈ t.cmds, c.isAtDrive = true → c.driveTag.isSome = true
  held      : ∀ c ∈ t.cmds, ∀ d, c.isAtDrive = true → c.driveTag = some d → d ∉ t.heldTags

/-- Every slot's commands are as R85, R96 and R98 require. -/
def State.TrafficWF (s : State) : Prop := ∀ i, (s.slot i).traffic.WF

/-! ## The life of a slot -/

/-- A phase that a closed slot can reach (R150). -/
def Phase.closable (p : Phase) : Bool :=
  p == .grading || p == .graded || p == .shipping || p == .shipped || p == .released || p == .faulted

/-- What a slot's phase says about its other records, whatever has happened to it. -/
structure Slot.Lifecycle (sl : Slot) : Prop where
  /-- Phase RUNNING is a running write or read pass (R43). -/
  running : sl.sup.phase = .running ↔ sl.pass.state = .running ∧ (sl.pass.kind = .write ∨ sl.pass.kind = .read)
  /-- Phase HELD is a held pass, and only write and read passes are held (R43, R159). -/
  held : sl.sup.phase = .held ↔ sl.pass.state = .held
  heldKind : sl.pass.state = .held → sl.pass.kind = .write ∨ sl.pass.kind = .read
  /-- A ship pass runs in SHIPPING (R43). -/
  shipping : sl.pass.state = .running → sl.pass.kind = .ship → sl.sup.phase = .shipping
  kindNone : sl.pass.kind = .none → sl.pass.state = .none
  /-- A closed slot is in a phase a closed slot can reach, and a graded one is closed and has its record (R150, R155). -/
  closed : sl.sup.closed = true → sl.sup.phase.closable = true
  graded : sl.sup.phase = .graded ∨ sl.sup.phase = .shipping ∨ sl.sup.phase = .shipped →
    sl.sup.closed = true ∧ sl.closing.grade.isSome = true ∧ sl.closing.step = .none
  unclosed : sl.sup.closed = false → sl.closing.grade = none
  /-- The grading step belongs to GRADING until the computation has begun (R146, R157). -/
  waiting : sl.closing.step = .draining ∨ sl.closing.step = .queued → sl.sup.phase = .grading ∧ sl.sup.closed = false
  computing : sl.closing.step = .computing → sl.sup.closed = true ∧ sl.closing.grade = none
  grading : sl.sup.phase = .grading → sl.closing.step ≠ .none
  /-- A release waits only in GRADED and SHIPPED, and a verdict stands only in RELEASED (R165, R166, R168). -/
  pending : sl.closing.releasePending = true → sl.sup.phase = .graded ∨ sl.sup.phase = .shipped
  verdict : sl.closing.verdict ≠ .none ↔ sl.sup.phase = .released
  /-- A FAULTED slot has a cause (R143); a slot in EMPTY, FAULTED or RELEASED has no data command (R126, R133, R166). -/
  cause : sl.sup.phase = .faulted → sl.sup.cause.isSome = true
  quiet : sl.sup.phase.down = true → sl.quiet = true
  /-- Power is ON in every phase but EMPTY, RELEASED and FAULTED by a trip, and only with the carrier present; with the
  power OFF the link is DOWN (R128). -/
  power : sl.sup.power = true ↔
    sl.sup.phase ≠ .empty ∧ sl.sup.phase ≠ .released ∧ ¬(sl.sup.phase = .faulted ∧ sl.sup.cause = some .trip)
  carrier : sl.sup.power = true → sl.sup.carrier = true
  link : sl.sup.power = false → sl.link.state = .down
  /-- A link-up deadline runs exactly while the link is RESETTING, and commands are at the drive only while it is UP
  (R120, R122, R123). -/
  resetting : sl.link.state = .resetting ↔ sl.link.upDeadline.isSome = true
  atDrive : (∃ c ∈ sl.traffic.cmds, c.isAtDrive = true) → sl.link.state = .up

/-- The grading unit: no slot twice, the list holds the slots in step QUEUED, the computation is of the slot in step
COMPUTING, and an idle unit has an empty list (R148). -/
structure State.GraderWF (s : State) : Prop where
  nodup     : s.grader.queue.Nodup
  queued    : ∀ i, i ∈ s.grader.queue ↔ (s.slot i).closing.step = .queued
  computing : ∀ i, (∃ c, s.grader.current = some c ∧ c.slot = i) ↔ (s.slot i).closing.step = .computing
  idle      : s.grader.current = none → s.grader.queue = []

/-- Every slot's records go together, and the grading unit's with them. -/
def State.Lifecycle (s : State) : Prop := (∀ i, (s.slot i).Lifecycle) ∧ s.GraderWF

/-! ## Regions, zones and passes -/

/-- The zone map is the one of the region that the active recipe and the drive give (R23, R24, R38), with one record per
zone (R26), whose frontiers do not pass the zone's end (R26); the key follows the serial and the seed (R1). -/
structure Slot.MapWF (sl : Slot) : Prop where
  region : sl.zmap.region = deriveRegion sl.active sl.ident
  key    : sl.key = slotKey sl.ident sl.active
  count  : sl.zmap.zones.length = if sl.zmap.region.enabled then sl.zmap.region.zoneCount else 0
  fits   : ∀ k z, sl.zmap.zones[k]? = some z → z.wf ≤ sl.zmap.region.lengthOf k ∧ z.rf ≤ sl.zmap.region.lengthOf k

/-- Every slot's map is as chapter 2 requires it. -/
def State.MapsWF (s : State) : Prop := ∀ i, (s.slot i).MapWF

/-- The frontiers that a pass of this kind counts (R54). -/
def PassKind.covered (k : PassKind) (zs : List Zone) : Nat :=
  match k with
  | .read => sumRF zs
  | .none | .write | .ship => sumWF zs

/-- While a pass runs or is held, its remaining count is N less the sum of its frontiers (R54), and no zone holds an epoch
above the write epoch counter but the wipe epoch (R45). -/
structure Slot.Counted (sl : Slot) : Prop where
  remaining : sl.pass.active = true → sl.pass.remaining = sl.zmap.region.blocks - sl.pass.kind.covered sl.zmap.zones
  epochs    : ∀ z ∈ sl.zmap.zones, z.current ≤ sl.tally.writeEpochs ∨ z.current = Config.wipeEpoch

/-- Every slot's pass is counted as R54 requires. -/
def State.PassesCounted (s : State) : Prop := ∀ i, (s.slot i).Counted

/-- The outstanding count of a pass is the number of the slot's commands that carry its serial (R52, R53). A command that
has not joined a pass carries none: one that waits unposted, and a control command; only posted writes are CANCELLED. -/
structure Slot.PassCommands (sl : Slot) : Prop where
  outstanding : sl.pass.kind ≠ .none →
    sl.pass.outstanding = (sl.traffic.cmds.filter fun c => c.serial == some sl.pass.serial).length
  serial      : sl.pass.kind ≠ .none → sl.pass.serial = sl.tally.serials
  carried     : ∀ c ∈ sl.traffic.cmds, ∀ n, c.serial = some n → n ≤ sl.tally.serials
  unjoined    : ∀ c ∈ sl.traffic.cmds, c.posted = false → c.state = .waiting → c.serial = none
  control     : ∀ c ∈ sl.traffic.cmds, c.state = .atResponder → c.serial = none ∧ c.posted = false
  cancelled   : ∀ c ∈ sl.traffic.cmds, c.state = .cancelled → c.posted = true

/-- Every slot's pass commands are counted as R52 and R53 require. -/
def State.PassCommandsCounted (s : State) : Prop := ∀ i, (s.slot i).PassCommands

/-! ## The engine -/

/-- At most one burst is under way, it is of a slot's oldest job, and it is within the job (R20, R21). -/
structure State.OneBurst (s : State) : Prop where
  single : ∀ i j, (s.slot i).burst.isSome = true → (s.slot j).burst.isSome = true → i = j
  oldest : ∀ i, ∀ j ∈ (s.slot i).traffic.jobs.tail, j.granted = 0
  within : ∀ i, ∀ j ∈ (s.slot i).traffic.jobs, j.done + j.granted ≤ j.total ∧ j.granted ≤ Config.burstBlocks

/-! ## Runs of the part -/

/-- A run of `k` steps that reaches a state, with no fault and no refusal on the way. -/
def reaches : Nat → State → State → Prop
  | 0, s, t => s = t
  | k + 1, s, t => ∃ m, step s = .next m ∧ reaches k m t

/-- A state that some run from reset, with commands put into the queue at reset, reaches. -/
def State.Reachable (t : State) : Prop :=
  ∃ (cs : List Instr) (k : Nat), reaches k { State.reset with pending := cs } t

/-! ## Terms of the statements -/

/-- The part once the port has given up a WRITE whose frames did not all arrive: the WRITE is refused with MALFORMED and
its frames are discarded (R84, R90). -/
def State.portGivenUp (s : State) : State :=
  match s.port with
  | none => s
  | some c => { s with port := none, upstream := s.upstream ++ [reply c.slot c.tag .malformed] }

/-- The part after it has recorded a control-window command of slot `i` with its outcome and completed the control write
GOOD (R173). -/
def State.answered (i : SlotId) (t : Tag) (code a b : Word) (o : CmdOutcome) (s : State) : State :=
  (s.modSlot i fun sl =>
    { sl with command := { code := code, a := a, b := b, outcome := o, count := sl.command.count + 1 } }
  ).say [reply i t .good]

/-- A command as admission takes it: WAITING, nothing else known of it yet (R93, R107). -/
def newEntry (tag : Option Tag) (kind : CmdKind) (addr : BitVec 48) (count : BitVec 16) (omitted : Bool)
    (param : BitVec 128) (cls : Option AddrClass) (frames : List Block) : Cmd where
  tag := tag
  kind := kind
  addr := addr
  count := count
  omitted := omitted
  param := param
  cls := cls
  state := .waiting
  driveTag := none
  serial := none
  frames := frames
  check := none
  returned := []
  classes := []
  driveError := none
  reissues := 0
  generation := none
  issuedAt := 0
  deadline := none

/-- A slot with one more command at the tail of its list. -/
def Slot.withCmd (sl : Slot) (c : Cmd) : Slot :=
  { sl with traffic := { sl.traffic with cmds := sl.traffic.cmds ++ [c] } }

/-- Every block of the range lies in class `cls`, and the count is a legal one (R84, R87). -/
def Slot.rangeIn (sl : Slot) (addr : BitVec 48) (count : BitVec 16) (cls : AddrClass) : Prop :=
  1 ≤ count.toNat ∧ count.toNat ≤ 256 ∧ ∀ k < count.toNat, sl.classOf (addr.toNat + k) = cls

/-- Nothing but the phase and the class can refuse a data command under tag `t`: the tag is free, no removal warning
stands, no release is pending (R89 checks 2 and 5, R91). -/
def Slot.takesData (sl : Slot) (t : Tag) : Prop :=
  sl.tagBusy t = false ∧ (sl.sup.power = true → sl.sup.latch = true) ∧ sl.closing.releasePending = false

/-- The slot a command names; none for an event of the shared blocks, a data frame and a shelf reset. -/
def namedSlot : Instr → Option SlotId
  | .read i _ _ _ _ | .write i _ _ _ | .dataOmittedWrite i _ _ _ | .flush i _ _ _ _ | .identify i _ _ _ _
  | .other i _ _ _ _ _ | .arm i _ _ _ | .hold i _ _ _ | .resume i _ _ _ | .abort i _ _ _ | .soak i _ _ _
  | .adopt i _ _ _ | .close i _ _ _ | .ship i _ _ _ | .release i _ _ _ | .resetSlot i _ _ _ | .clearEvents i _ _ _
  | .setMask i _ _ _ | .unknownCommand i _ _ _ _ | .pendingRecipeWrite i _ _ | .shelfBlockWrite i _ _
  | .readOnlyBlockWrite i _ _ _ | .gradeRecordRead i _ | .issue i _ | .driveCompletion i _ _ _ _ | .deadlineExpiry i _
  | .linkUp i | .linkLost i | .linkUpDeadlineExpiry i | .attachLinkDeadlineExpiry i | .carrierInserted i
  | .carrierRemoved i | .latchClosed i | .latchOpened i | .spinUpGraceEnd i | .sampleEvent i _ _ | .drainEnd i
  | .releaseCompletion i | .unknownKindRecord i _ _ _ _ _ => some i
  | .dataFrame _ | .engineGrant | .engineBurstDone | .computationStart | .computationComplete | .shelfReset _ _ => none

/-- The command arrives on the shelf link: a record, a data frame, or an access of the control window (R84). -/
def fromHost : Instr → Bool
  | .read _ _ _ _ _ | .write _ _ _ _ | .dataOmittedWrite _ _ _ _ | .flush _ _ _ _ _ | .identify _ _ _ _ _
  | .other _ _ _ _ _ _ | .dataFrame _ | .arm _ _ _ _ | .hold _ _ _ _ | .resume _ _ _ _ | .abort _ _ _ _ | .soak _ _ _ _
  | .adopt _ _ _ _ | .close _ _ _ _ | .ship _ _ _ _ | .release _ _ _ _ | .resetSlot _ _ _ _ | .clearEvents _ _ _ _
  | .setMask _ _ _ _ | .unknownCommand _ _ _ _ _ | .pendingRecipeWrite _ _ _ | .shelfBlockWrite _ _ _
  | .readOnlyBlockWrite _ _ _ _ | .gradeRecordRead _ _ | .unknownKindRecord _ _ _ _ _ _ => true
  | .issue _ _ | .driveCompletion _ _ _ _ _ | .engineGrant | .engineBurstDone | .deadlineExpiry _ _ | .linkUp _
  | .linkLost _ | .linkUpDeadlineExpiry _ | .attachLinkDeadlineExpiry _ | .carrierInserted _ | .carrierRemoved _
  | .latchClosed _ | .latchOpened _ | .spinUpGraceEnd _ | .sampleEvent _ _ _ | .drainEnd _ | .computationStart
  | .computationComplete | .releaseCompletion _ | .shelfReset _ _ => false

/-- Flag `f` is set. -/
def Slot.HasFlag (sl : Slot) (f : EventFlag) : Prop := sl.events.flags &&& f.bit = f.bit

/-- The circular distance from the last-granted slot: 0 for the slot after it, 7 for itself (R20). -/
def grantDistance (last i : SlotId) : Nat := (i - last - 1).val

end Sys2Proof.Machine
end

