-- ==== Sys2Proof/Certificates/Slice0/Obligations.lean ====
section
/-! DEFINITION. The statements for the provers: what each command does, what the shared operations compute, and what
every command keeps. -/

section Statements

open Sys2Proof Sys2Proof.Machine

/-! ## The queue -/

/-- A step takes the command at the front of the queue and runs it with the queue's rest. -/
def Obligations.StepRunsTheFrontCommand : Prop :=
  ∀ (c : Instr) (rest : List Instr) (s : State),
    s.pending = c :: rest → step s = exec c { s with pending := rest }

/-- On an empty queue one millisecond passes, up to 2^48 − 1 (R180). That an empty queue is where time passes is the
model's choice (log entry 1). -/
def Obligations.EmptyQueueStepIsOneMillisecond : Prop :=
  ∀ s : State, s.pending = [] →
    step s = .next { s with shelf := { s.shelf with clock := min 281474976710655 (s.shelf.clock + 1) } }

/-- No command touches the queue, and a command that names a slot leaves every other slot as it is; only the grading unit,
going idle, may start the computation of a slot that waits in its list (R133, R148, R173, R183). -/
def Obligations.QueueAndOtherSlotsAreUntouched : Prop :=
  ∀ (c : Instr) (s t : State), exec c s = .next t →
    t.pending = s.pending ∧
    ∀ i j : SlotId, namedSlot c = some i → j ≠ i →
      t.slot j = s.slot j ∨
        (j ∈ s.grader.queue ∧
          t.slot j = { s.slot j with
            sup := { (s.slot j).sup with closed := true }
            closing := { (s.slot j).closing with step := .computing } })

/-- Each record that the slots share has few writers: the shelf block is written by a write to it and by a shelf reset, the
clock never runs back but at a shelf reset, the last-granted slot moves only at a grant, and only what arrives on the shelf
link touches the port; what was sent upstream stays sent (R20, R84, R86, R179, R180, R181; log entry 13). -/
def Obligations.SharedRecordsHaveFewWriters : Prop :=
  ∀ (c : Instr) (s t : State), exec c s = .next t →
    let reset := ∃ lines memory, c = .shelfReset lines memory
    let frame := ∃ data, c = .dataFrame data
    let shelfWrite := ∃ i u data, c = .shelfBlockWrite i u data
    (∃ out, t.upstream = s.upstream ++ out) ∧
    (c.wellFormed = true → ¬reset → ¬frame → ¬shelfWrite → t.shelf = { s.shelf with clock := t.shelf.clock }) ∧
    (¬reset → s.shelf.clock ≤ 281474976710655 →
      s.shelf.clock ≤ t.shelf.clock ∧ t.shelf.clock ≤ 281474976710655) ∧
    (¬reset → c ≠ .engineGrant → t.engineLast = s.engineLast) ∧
    (fromHost c = false → ¬reset → t.port = s.port)

/-! ## Records on the shelf link -/

/-- The seven cases of R90: such a record completes MALFORMED at once and nothing else of the part changes. A WRITE
whose frames have not all come is refused by the next record (`portGivenUp`). That a WRITE with data whose block range
is malformed is refused when its last frame has come, and no earlier, is the model's reading of R84 (log entry 21). -/
def Obligations.MalformedRecordsAreRefused : Prop :=
  ∀ (s : State) (i : SlotId) (t : Tag) (addr : BitVec 48) (count : BitVec 16),
    (∀ o : Bool,
      o = true ∨ count.toNat = 0 ∨ 256 < count.toNat ∨ 281474976710656 < addr.toNat + count.toNat
        ∨ (281474976710592 ≤ addr.toNat ∧ count.toNat ≠ 1) →
      exec (.read i t addr count o) s = .next (s.portGivenUp.say [reply i t .malformed])) ∧
    (count.toNat = 0 ∨ 256 < count.toNat ∨ 281474976710656 < addr.toNat + count.toNat
        ∨ 281474976710592 ≤ addr.toNat →
      exec (.dataOmittedWrite i t addr count) s = .next (s.portGivenUp.say [reply i t .malformed])) ∧
    (count.toNat = 0 ∨ 256 < count.toNat →
      exec (.write i t addr count) s = .next (s.portGivenUp.say [reply i t .malformed])) ∧
    (∀ (c : Collecting) (data : Block), s.port = some c → c.frames.length + 1 = c.count.toNat →
      281474976710656 < c.addr.toNat + c.count.toNat ∨ 256 < c.count.toNat
        ∨ (281474976710592 ≤ c.addr.toNat ∧ c.count.toNat ≠ 1) →
      exec (.dataFrame data) s = .next { s with port := none, upstream := s.upstream ++ [reply c.slot c.tag .malformed] }) ∧
    exec (.flush i t addr count true) s = .next (s.portGivenUp.say [reply i t .malformed]) ∧
    exec (.identify i t addr count true) s = .next (s.portGivenUp.say [reply i t .malformed]) ∧
    (∀ p : BitVec 128, exec (.other i t addr count true p) s = .next (s.portGivenUp.say [reply i t .malformed])) ∧
    (∀ (kind : BitVec 4) (o : Bool),
      exec (.unknownKindRecord i t kind addr count o) s = .next (s.portGivenUp.say [reply i t .malformed]))

/-- A record that has come whole is delivered to its slot, and the ten checks of R89 are made in their order: the first
that fails gives the condition, and a refused record only completes. `Record.malformed` is R90, stated case by case in
`MalformedRecordsAreRefused`; `Phase.takes` is the table of R91. A control command that is neither malformed nor under a
tag in use is taken by the window in every phase. -/
def Obligations.AdmissionChecksInOrder : Prop :=
  ∀ (s : State) (i : SlotId) (r : Record) (k : CmdKind), r.kind = some k →
    let sl := s.slot i
    let u := s.portGivenUp
    let arrives := fun c : Instr => exec c s = .next (u.deliver i r)
    let refused := fun c : Condition => s.deliver i r = s.say [reply i r.tag c]
    let ranged := k = .read ∨ k = .write
    let data := ¬(ranged ∧ 281474976710592 ≤ r.start)
    let inside := r.start + r.length ≤ 281474976710592
    let same := ∀ n < r.length, sl.classOf (r.start + n) = sl.classOf r.start
    let there := ∀ n < r.length, sl.classOf (r.start + n) ≠ .beyond
    let leaving := sl.sup.power = true ∧ sl.sup.latch = false
    let taken := sl.closing.releasePending = false ∧ sl.sup.phase.takes k r.omitted = true
    let ship := k = .write ∧ sl.shipWriteNow r.omitted r.start r.length = true
    let armed := (sl.pass.kind = .write ∨ sl.pass.kind = .ship) ∧ (sl.pass.state = .running ∨ sl.pass.state = .held)
    (r.complete = true → r.frames = [] →
      (k = .other → arrives (.other i r.tag r.addr r.count r.omitted r.param)) ∧
      (r.param = 0 →
        (k = .read → arrives (.read i r.tag r.addr r.count r.omitted)) ∧
        (k = .write → r.omitted = true → arrives (.dataOmittedWrite i r.tag r.addr r.count)) ∧
        (k = .flush → arrives (.flush i r.tag r.addr r.count r.omitted)) ∧
        (k = .identify → arrives (.identify i r.tag r.addr r.count r.omitted)))) ∧
    (k = .write → r.complete = true → r.omitted = false → r.param = 0 → ∀ (frames : List Block) (data : Block),
      r.frames = frames ++ [data] → frames.length + 1 = r.count.toNat →
      s.port = some { slot := i, tag := r.tag, addr := r.addr, count := r.count, frames := frames } →
      exec (.dataFrame data) s = .next (State.deliver i r { s with port := none })) ∧
    (r.malformed = true → refused .malformed) ∧
    (r.malformed = false → sl.tagBusy r.tag = true → refused .tagBusy) ∧
    (r.malformed = false → sl.tagBusy r.tag = false → ¬data →
      (k = .read → s.deliver i r = s.controlRead i r) ∧
      (k = .write → s.deliver i r = s.controlWrite i r)) ∧
    (r.malformed = false → sl.tagBusy r.tag = false → data →
      (sl.sup.phase.down = true → refused .slotDown) ∧
      (sl.sup.phase.down = false →
        (ranged → ¬inside → refused .straddle) ∧
        (ranged → inside → ¬there → refused .outOfRange) ∧
        (ranged → inside → there → ¬same → refused .straddle) ∧
        ((ranged → inside ∧ there ∧ same) →
          (leaving → refused .slotLeaving) ∧
          (¬leaving → ¬taken → refused .wrongPhase) ∧
          (¬leaving → taken →
            (k = .write → sl.classOf r.start = .guarded → ¬ship → refused .guarded) ∧
            (k = .write → r.omitted = true → sl.classOf r.start = .clear → refused .noData) ∧
            (k = .write → r.omitted = true → sl.classOf r.start = .stamp → ¬armed → refused .notArmed) ∧
            (k = .write → r.omitted = true → sl.classOf r.start = .stamp → armed → sl.pass.state = .held →
              refused .held)))))

/-- A READ whose blocks lie in one class of the drive, and a FLUSH, an IDENTIFY and an OTHER, whose address and count are
not examined, take an entry under their tag and wait at the tail of the issue queue (R84, R91, R93). -/
def Obligations.ReadsAndRangelessCommandsWait : Prop :=
  ∀ (s : State) (i : SlotId) (t : Tag) (addr : BitVec 48) (count : BitVec 16),
    let sl := s.slot i
    let waits := fun c : Cmd => Host.Outcome.next (φ := Fault) (ρ := Refusal) (s.portGivenUp.setSlot i (sl.withCmd c))
    sl.takesData t →
      (∀ cls : AddrClass, cls = .guarded ∨ cls = .stamp ∨ cls = .clear → sl.rangeIn addr count cls →
        sl.sup.phase.takes .read false = true →
        exec (.read i t addr count false) s = waits (newEntry (some t) .read addr count false 0 (some cls) [])) ∧
      (sl.sup.phase.takes .flush false = true →
        exec (.flush i t addr count false) s = waits (newEntry (some t) .flush addr count false 0 none [])) ∧
      (sl.sup.phase.takes .identify false = true →
        exec (.identify i t addr count false) s = waits (newEntry (some t) .identify addr count false 0 none [])) ∧
      (∀ p : BitVec 128, sl.sup.phase.takes .other false = true →
        exec (.other i t addr count false p) s = waits (newEntry (some t) .other addr count false p none []))

/-- A data-omitted WRITE into the stamp region under a running write or ship pass is posted when posting is on and fewer
than 8 are posted: GOOD goes upstream at once, its tag is free, and it has joined the pass. Otherwise it waits under its
tag and joins nothing yet; so does the ship record write (R52, R92, R93, R108). -/
def Obligations.DataOmittedWriteIsPostedOrWaits : Prop :=
  ∀ (s : State) (i : SlotId) (t : Tag) (addr : BitVec 48) (count : BitVec 16),
    let sl := s.slot i
    let room := (sl.traffic.cmds.filter Cmd.posted).length < 8
    sl.takesData t →
      (sl.rangeIn addr count .stamp → sl.sup.phase.takes .write true = true → sl.pass.state = .running →
        sl.pass.kind = .write ∨ sl.pass.kind = .ship →
        (sl.active.posting.getLsbD 0 = true → room →
          exec (.dataOmittedWrite i t addr count) s = .next ((s.portGivenUp.setSlot i
            { sl.withCmd { newEntry none .write addr count true 0 (some .stamp) [] with
                serial := some sl.pass.serial } with
              pass := { sl.pass with outstanding := sl.pass.outstanding + 1 } }).say [reply i t .good])) ∧
        (sl.active.posting.getLsbD 0 = false ∨ ¬room →
          exec (.dataOmittedWrite i t addr count) s = .next (s.portGivenUp.setSlot i
            (sl.withCmd (newEntry (some t) .write addr count true 0 (some .stamp) []))))) ∧
      (sl.rangeIn addr count .guarded → sl.shipWriteNow true addr.toNat count.toNat = true →
        exec (.dataOmittedWrite i t addr count) s = .next (s.portGivenUp.setSlot i
          (sl.withCmd (newEntry (some t) .write addr count true 0 (some .guarded) []))))

/-- A WRITE with data opens the port for its frames; a frame that no write awaits is discarded, one before the last is
kept, and the last delivers the WRITE: to a class of the drive it waits with its frames; to a block of the control window it
is the window's command or block write that the frame's words spell (R84, R93, R170, R171, R173; log entry 7). -/
def Obligations.FramesOfAWriteAreCollected : Prop :=
  ∀ (s : State) (i : SlotId) (t : Tag) (addr : BitVec 48) (count : BitVec 16) (data : Block) (frames : List Block),
    let c : Collecting := { slot := i, tag := t, addr := addr, count := count, frames := frames }
    let sl := s.slot i
    let u : State := { s with port := none }
    let w := fun n : Nat => data.getD n 0
    (1 ≤ count.toNat → count.toNat ≤ 256 →
      exec (.write i t addr count) s = .next { s.portGivenUp with port := some { c with frames := [] } }) ∧
    (s.port = none → exec (.dataFrame data) s = .next s) ∧
    (s.port = some c → frames.length + 1 ≠ count.toNat →
      exec (.dataFrame data) s = .next { s with port := some { c with frames := frames ++ [data] } }) ∧
    (s.port = some c → frames.length + 1 = count.toNat → sl.takesData t →
      ∀ cls : AddrClass, cls = .stamp ∨ cls = .clear → sl.rangeIn addr count cls →
        sl.sup.phase.takes .write false = true →
        exec (.dataFrame data) s = .next (u.setSlot i
          (sl.withCmd (newEntry (some t) .write addr count false 0 (some cls) (frames ++ [data]))))) ∧
    (∀ n : Fin 64, s.port = some { c with addr := BitVec.ofNat 48 (281474976710592 + n.val), count := 1, frames := [] } →
      (n = 1 → ∀ x : Instr,
        (w 0, x) ∈ [(1, .arm i t (w 1) (w 2)), (2, .hold i t (w 1) (w 2)), (3, .resume i t (w 1) (w 2)),
          (4, .abort i t (w 1) (w 2)), (5, .soak i t (w 1) (w 2)), (6, .adopt i t (w 1) (w 2)),
          (7, .close i t (w 1) (w 2)), (8, .ship i t (w 1) (w 2)), (9, .release i t (w 1) (w 2)),
          (10, .resetSlot i t (w 1) (w 2)), (11, .clearEvents i t (w 1) (w 2)), (12, .setMask i t (w 1) (w 2))] →
        exec (.dataFrame data) s = exec x u) ∧
      (n = 1 → w 0 = 0 ∨ 12#32 < w 0 → exec (.dataFrame data) s = exec (.unknownCommand i t (w 0) (w 1) (w 2)) u) ∧
      (n = 2 → exec (.dataFrame data) s = exec (.pendingRecipeWrite i t data) u) ∧
      (n = 32 → exec (.dataFrame data) s = exec (.shelfBlockWrite i t data) u) ∧
      (n ≠ 1 → n ≠ 2 → n ≠ 32 → exec (.dataFrame data) s = exec (.readOnlyBlockWrite i t n data) u))

/-- Decoding the words of a command record gives the command, for every command that is a record (10.8). -/
def Obligations.RecordWordsRoundTrip : Prop :=
  ∀ (c : Instr) (ws : List Word), c.wellFormed = true → encodeRecord c = some ws → ws.length = 8 ∧ decodeRecord ws = c

/-! ## Control-window commands -/

/-- ARM on a READY slot whose region, after the adoption of the pending recipe, is ENABLED and whose counters are below
their limits: the write pass of R47 and the read pass of R48. What the adoption does is stated in
`AdoptCopiesThePendingRecipe`, what arming does to one zone in `ZoneRows`. -/
def Obligations.ArmStartsAPass : Prop :=
  ∀ (s : State) (i : SlotId) (t : Tag) (b : Word),
    let sl := s.slot i
    let ad := sl.adopt sl.pending
    sl.tagBusy t = false → sl.sup.phase = .ready → ad.zmap.region.status = .enabled → sl.tally.serials ≠ 65535 →
    (sl.tally.writeEpochs ≠ 65534 →
      exec (.arm i t 1 b) s = .next ((s.portGivenUp.setSlot i
        { ad with
          sup := { ad.sup with phase := .running }
          tally := { ad.tally with
            serials := sl.tally.serials + 1
            writeEpochs := sl.tally.writeEpochs + 1
            writeCovered := false
            verified := false }
          zmap := { ad.zmap with zones := ad.zmap.every (Zone.arm (sl.tally.writeEpochs + 1)) }
          pass :=
            { kind := .write, endless := false, serial := sl.tally.serials + 1, epoch := sl.tally.writeEpochs + 1
              state := .running, holdHost := false, holdThermal := false, remaining := ad.zmap.region.blocks
              outstanding := 0, laps := 0, failures := 0, checkpoint := 0 } }).answered i t 1 1 b .done)) ∧
    exec (.arm i t 2 b) s = .next ((s.portGivenUp.setSlot i
      { ad with
        sup := { ad.sup with phase := .running }
        tally := { ad.tally with serials := sl.tally.serials + 1 }
        zmap := { ad.zmap with zones := ad.zmap.zones.map fun z => { z with rf := 0 } }
        pass :=
          { kind := .read, endless := b.getLsbD 0, serial := sl.tally.serials + 1, epoch := sl.pass.epoch
            state := .running, holdHost := false, holdThermal := false, remaining := ad.zmap.region.blocks
            outstanding := 0, laps := 0, failures := 0, checkpoint := 0 } }).answered i t 1 2 b .done)

/-- An access of the control window under a tag in use is refused with TAG-BUSY and is not taken (R85, R89). A command
that its rule refuses is recorded with its outcome and has no other effect, but for the adoption that ARM made before
it was refused (R46, R49 to R51, R63, R134, R145, R158, R165, R173, R175). -/
def Obligations.RefusedWindowCommandsOnlyRecord : Prop :=
  ∀ (s : State) (i : SlotId) (t : Tag) (a b : Word),
    let sl := s.slot i
    let ad := sl.adopt sl.pending
    let p := sl.sup.phase
    let only := fun (code : Word) (o : CmdOutcome) =>
      Host.Outcome.next (φ := Fault) (ρ := Refusal) (s.portGivenUp.answered i t code a b o)
    let adopted := fun (o : CmdOutcome) =>
      Host.Outcome.next (φ := Fault) (ρ := Refusal) ((s.portGivenUp.setSlot i ad).answered i t 1 a b o)
    (sl.tagBusy t = true → ∀ (code : Word) (offset : Fin 64) (data : Block),
      ∀ c ∈ [Instr.arm i t a b, .hold i t a b, .resume i t a b, .abort i t a b, .soak i t a b, .adopt i t a b,
          .close i t a b, .ship i t a b, .release i t a b, .resetSlot i t a b, .clearEvents i t a b, .setMask i t a b,
          .unknownCommand i t code a b, .pendingRecipeWrite i t data, .shelfBlockWrite i t data,
          .readOnlyBlockWrite i t offset data, .gradeRecordRead i t],
        exec c s = .next (s.portGivenUp.say [reply i t .tagBusy])) ∧
    (sl.tagBusy t = false →
      (a ≠ 1 → a ≠ 2 → exec (.arm i t a b) s = only 1 .unknown) ∧
      (a = 1 ∨ a = 2 → p ≠ .ready → exec (.arm i t a b) s = only 1 .wrongPhase) ∧
      (a = 1 ∨ a = 2 → p = .ready → ad.zmap.region.status ≠ .enabled →
        exec (.arm i t a b) s = adopted .noRegion) ∧
      (a = 1 ∨ a = 2 → p = .ready → ad.zmap.region.status = .enabled →
        sl.tally.serials = 65535 ∨ (a = 1 ∧ sl.tally.writeEpochs = 65534) →
        exec (.arm i t a b) s = adopted .passLimit) ∧
      (p ≠ .running → exec (.hold i t a b) s = only 2 .wrongPhase) ∧
      (p ≠ .held → exec (.resume i t a b) s = only 3 .wrongPhase) ∧
      (p = .held → sl.mon.tempLive = .critical → exec (.resume i t a b) s = only 3 .thermal) ∧
      (p ≠ .running → p ≠ .held → p ≠ .soak → p ≠ .shipping → exec (.abort i t a b) s = only 4 .wrongPhase) ∧
      (p ≠ .ready → exec (.soak i t a b) s = only 5 .wrongPhase) ∧
      (p ≠ .ready → p ≠ .soak → p ≠ .attaching → exec (.adopt i t a b) s = only 6 .wrongPhase) ∧
      (sl.sup.closed = true → exec (.close i t a b) s = only 7 .closed) ∧
      (sl.sup.closed = false → p ≠ .ready → p ≠ .soak → exec (.close i t a b) s = only 7 .wrongPhase) ∧
      (p ≠ .graded ∨ sl.closing.releasePending = true → exec (.ship i t a b) s = only 8 .wrongPhase) ∧
      (p = .graded → sl.closing.releasePending = false → sl.tally.serials = 65535 →
        exec (.ship i t a b) s = only 8 .passLimit) ∧
      (p ≠ .graded → p ≠ .shipped → p ≠ .faulted → exec (.release i t a b) s = only 9 .wrongPhase) ∧
      (sl.sup.closed = true → exec (.resetSlot i t a b) s = only 10 .closed) ∧
      (sl.sup.closed = false →
        sl.closing.releasePending = true ∨
          (p ≠ .ready ∧ p ≠ .soak ∧ ¬(p = .faulted ∧ (sl.sup.cause = some .resetLimit ∨ sl.sup.cause = some .linkLost))) →
        exec (.resetSlot i t a b) s = only 10 .wrongPhase) ∧
      (∀ code : Word, 12#32 < code ∨ code = 0#32 →
        exec (.unknownCommand i t code a b) s = only code .unknown))

/-- HOLD in RUNNING, RESUME in HELD below the critical temperature, SOAK in READY (R49, R50, R63). RESUME then tests the
pass: a pass whose counts are not both 0 runs on; what the test does otherwise is stated in `PassEndsWhenBothCountsAreZero`. -/
def Obligations.HoldResumeAndSoak : Prop :=
  ∀ (s : State) (i : SlotId) (t : Tag) (a b : Word),
    let sl := s.slot i
    let resumed : Slot := { sl with
      sup := { sl.sup with phase := .running }
      pass := { sl.pass with state := .running, holdHost := false, holdThermal := false } }
    sl.tagBusy t = false →
      (sl.sup.phase = .running →
        exec (.hold i t a b) s = .next ((s.portGivenUp.setSlot i
          { sl with
            sup := { sl.sup with phase := .held }
            pass := { sl.pass with state := .held, holdHost := true } }).answered i t 2 a b .done)) ∧
      (sl.sup.phase = .held → sl.mon.tempLive ≠ .critical →
        (sl.pass.remaining ≠ 0 ∨ sl.pass.outstanding ≠ 0 →
          exec (.resume i t a b) s = .next ((s.portGivenUp.setSlot i resumed).answered i t 3 a b .done)) ∧
        (sl.pass.remaining = 0 → sl.pass.outstanding = 0 →
          exec (.resume i t a b) s = .next ((s.portGivenUp.setSlot i resumed.testPass).answered i t 3 a b .done))) ∧
      (sl.sup.phase = .ready →
        exec (.soak i t a b) s = .next ((s.portGivenUp.setSlot i
          { sl with
            sup := { sl.sup with phase := .soak }
            tally := { sl.tally with
              soakTarget := if a.toNat = 0 then 1 else if 65535 < a.toNat then 65535 else a.toNat
              soakGained := 0 } }).answered i t 5 a b .done))

/-- ABORT in RUNNING, HELD, SOAK and SHIPPING (R51, R65, R164). -/
def Obligations.AbortEndsThePassOrTheSoak : Prop :=
  ∀ (s : State) (i : SlotId) (t : Tag) (a b : Word),
    let sl := s.slot i
    let done := fun sl' : Slot =>
      Host.Outcome.next (φ := Fault) (ρ := Refusal) ((s.portGivenUp.setSlot i sl').answered i t 4 a b .done)
    let aborted : PassRecord := { sl.pass with state := .aborted, holdHost := false, holdThermal := false }
    sl.tagBusy t = false →
      (sl.sup.phase = .running ∨ sl.sup.phase = .held →
        exec (.abort i t a b) s = done { sl with sup := { sl.sup with phase := .ready }, pass := aborted }) ∧
      (sl.sup.phase = .soak → exec (.abort i t a b) s = done { sl with sup := { sl.sup with phase := .ready } }) ∧
      (sl.sup.phase = .shipping → sl.pass.state = .running →
        exec (.abort i t a b) s = done { sl with sup := { sl.sup with phase := .graded }, pass := aborted }) ∧
      (sl.sup.phase = .shipping → sl.pass.state = .complete →
        exec (.abort i t a b) s = done { sl with sup := { sl.sup with phase := .graded } })

/-- ADOPT in READY, SOAK and ATTACHING: the pending recipe, clamped, becomes the active one; the region is derived again
and the map rebuilt, with the coverage flags cleared, when it differs; the key follows; every limit's previous sample is
taken as inside. Nothing else changes (R1, R38, R140, R175). -/
def Obligations.AdoptCopiesThePendingRecipe : Prop :=
  ∀ (s : State) (i : SlotId) (t : Tag) (a b : Word),
    let sl := s.slot i
    let g := deriveRegion sl.pending.clamp sl.ident
    let adopted : Slot := { sl with
      active := sl.pending.clamp
      key := sl.ident.map fun d => keyOf d.serial sl.pending.seed
      mon := { sl.mon with overOut := false, lowOut := false, highOut := false, criticalOut := false }
      zmap := if g = sl.zmap.region then sl.zmap else
        { region := g
          zones := if g.status = .enabled then
              List.replicate g.zoneCount { state := .blank, current := 0, previous := 0, wf := 0, rf := 0 }
            else [] }
      tally := if g = sl.zmap.region then sl.tally else
        { sl.tally with writeCovered := false, verified := false } }
    sl.adopt sl.pending = adopted ∧
    (sl.tagBusy t = false → sl.sup.phase = .ready ∨ sl.sup.phase = .soak ∨ sl.sup.phase = .attaching →
      exec (.adopt i t a b) s = .next ((s.portGivenUp.setSlot i adopted).answered i t 6 a b .done))

/-- The ranges that the clamping of R176 leaves every recipe in, the values it gives, and the region that the clamped recipe derives,
whose status is EMPTY where E is at most S (R23, R24, R117, R118, R176). -/
def Obligations.ClampedRecipeIsInRange : Prop :=
  ∀ r : Recipe,
    let c := r.clamp
    c.s0.toNat = r.s0.toNat % 281474976710656 ∧ c.e0.toNat = r.e0.toNat % 281474976710656 ∧
    c.guardCode.toNat = min 4 r.guardCode.toNat ∧ c.priority.toNat = min 3 r.priority.toNat ∧
    c.timeout.toNat = max 1 (min 120 r.timeout.toNat) ∧
    c.slow.toNat = max 50 (min 5000 (r.slow.toNat / 50 * 50)) ∧
    c.readReturn.toNat = r.readReturn.toNat % 2 ∧ c.polarity.toNat = r.polarity.toNat % 2 ∧
    c.posting.toNat = r.posting.toNat % 2 ∧
    c.overCode.toNat = min 7 r.overCode.toNat ∧ c.tripCode.toNat = min 7 r.tripCode.toNat ∧
    c.lowCode.toNat = min 7 r.lowCode.toNat ∧ c.highCode.toNat = min 7 r.highCode.toNat ∧
    c.criticalCode.toNat = min 7 r.criticalCode.toNat ∧
    c.mask = 0 ∧ c.seed = r.seed ∧ c.checkpoint = r.checkpoint ∧
    c.wh = r.wh ∧ c.ws = r.ws ∧ c.we = r.we ∧ c.wt = r.wt ∧ c.wl = r.wl ∧
    c.clamp = c ∧
    ∀ d : Identity,
      let g := deriveRegion c (some d)
      g.first = max c.s0.toNat ([0, 512, 1024, 2048, 4096].getD c.guardCode.toNat 0) ∧
      g.stop = min c.e0.toNat d.capacity ∧
      g.status = if d.blockSize ≠ 4096 then .formatMismatch else if g.stop ≤ g.first then .empty else .enabled

/-- CLOSE on an unclosed slot in READY or SOAK: GRADING and DRAINING while a write is left; QUEUED at the tail of the
list while the grading unit works; and otherwise closed and COMPUTING, all in the one event, with the inputs of R83
and R149 (R145, R146, R148, R149). -/
def Obligations.CloseStartsTheDrain : Prop :=
  ∀ (s : State) (i : SlotId) (t : Tag) (a b : Word),
    let sl := s.slot i
    let inputs : GradeInputs :=
      { capacity := (sl.ident.map Identity.capacity).getD 0
        confirmed := ((sl.defects.extents.filter fun e => e.status == .confirmed).map Extent.length).sum
        suspect := ((sl.defects.extents.filter fun e => e.status == .suspect).map Extent.length).sum
        misplaced := (sl.defects.extents.filter fun e => e.kind == .misplaced).length
        overflow := sl.defects.overflow
        tempCount := sl.mon.tempCount
        currentCount := sl.mon.currentCount
        timeouts := sl.timing.timeouts
        slow := sl.timing.slow
        soakMinutes := sl.tally.soakMs / 60000
        coverage := sl.tally.verified
        writePasses := sl.tally.writePasses
        readPasses := sl.tally.readPasses
        serial := (sl.ident.map Identity.serial).getD 0
        closedAt := s.shelf.clock / 1000 }
    let weights : Weights :=
      { wh := sl.active.wh.toNat, ws := sl.active.ws.toNat, we := sl.active.we.toNat, wt := sl.active.wt.toNat
        wl := sl.active.wl.toNat }
    let u := s.portGivenUp
    let step := fun (g : GradingStep) (closed : Bool) => ({ sl with
      sup := { sl.sup with phase := .grading, closed := closed }
      closing := { sl.closing with step := g } } : Slot)
    sl.tagBusy t = false → sl.sup.closed = false → sl.sup.phase = .ready ∨ sl.sup.phase = .soak →
      ((∃ c ∈ sl.traffic.cmds, c.kind = .write ∧ c.state ≠ .atResponder) →
        exec (.close i t a b) s = .next ((u.setSlot i (step .draining false)).answered i t 7 a b .done)) ∧
      ((∀ c ∈ sl.traffic.cmds, c.kind ≠ .write ∨ c.state = .atResponder) → s.grader.current.isSome = true →
        exec (.close i t a b) s = .next
          (({ u with grader := { s.grader with queue := s.grader.queue ++ [i] } } : State).setSlot i
            (step .queued false) |>.answered i t 7 a b .done)) ∧
      ((∀ c ∈ sl.traffic.cmds, c.kind ≠ .write ∨ c.state = .atResponder) → s.grader = { queue := [], current := none } →
        exec (.close i t a b) s = .next
          (({ u with
              grader :=
                { queue := []
                  current := some { slot := i, inputs := inputs, weights := weights, bins := s.shelf.bins } } } : State).setSlot i (step .computing true)
            |>.answered i t 7 a b .done))

/-- SHIP on a GRADED slot: the serial rises, every zone is armed with the wipe epoch, the new record counts the blocks
still to wipe, the phase becomes SHIPPING, and the pass is tested (R158). A pass with nothing left is complete at
once, with PASS-DONE (R56, R159), and the slot is SHIPPED, with SHIP-DONE, when no ship record block exists or the
ship record is WRITTEN (R163). -/
def Obligations.ShipArmsTheWipe : Prop :=
  ∀ (s : State) (i : SlotId) (t : Tag) (a b : Word),
    let sl := s.slot i
    let zones := sl.zmap.every (Zone.arm 65535)
    let left := sl.zmap.region.blocks - sumWF zones
    let armed : Slot := { sl with
      sup := { sl.sup with phase := .shipping }
      tally := { sl.tally with serials := sl.tally.serials + 1 }
      zmap := { sl.zmap with zones := zones }
      pass :=
        { kind := .ship, endless := false, serial := sl.tally.serials + 1, epoch := 65535
          state := .running, holdHost := false, holdThermal := false, remaining := left
          outstanding := 0, laps := 0, failures := 0, checkpoint := 0 } }
    let complete : Slot := { armed with
      pass := { armed.pass with state := .complete }
      events := { sl.events with flags := sl.events.flags ||| 0x0002 } }
    let shipped : Slot := { complete with
      sup := { sl.sup with phase := .shipped }
      events := { sl.events with flags := sl.events.flags ||| 0x0002 ||| 0x1000 } }
    sl.tagBusy t = false → sl.sup.phase = .graded → sl.closing.releasePending = false → sl.tally.serials ≠ 65535 →
      (left ≠ 0 → exec (.ship i t a b) s = .next ((s.portGivenUp.setSlot i armed).answered i t 8 a b .done)) ∧
      (left = 0 → sl.hasShipBlock = true → sl.closing.shipWritten = false →
        exec (.ship i t a b) s = .next ((s.portGivenUp.setSlot i complete).answered i t 8 a b .done)) ∧
      (left = 0 → sl.hasShipBlock = false ∨ sl.closing.shipWritten = true →
        exec (.ship i t a b) s = .next ((s.portGivenUp.setSlot i shipped).answered i t 8 a b .done))

/-- RELEASE in GRADED, SHIPPED and FAULTED: the release is pending until no posted write and no data command is left, and
completes at once when there is none (R165, R166). That the spin-up grace goes on when the release completes is read from
R129, which lists what ends it (log entry 24). -/
def Obligations.ReleaseWaitsForTheDrain : Prop :=
  ∀ (s : State) (i : SlotId) (t : Tag) (a b : Word),
    let sl := s.slot i
    let done := fun sl' : Slot =>
      Host.Outcome.next (φ := Fault) (ρ := Refusal) ((s.portGivenUp.setSlot i sl').answered i t 9 a b .done)
    sl.tagBusy t = false → sl.sup.phase = .graded ∨ sl.sup.phase = .shipped ∨ sl.sup.phase = .faulted →
      (sl.closing.releasePending = true → exec (.release i t a b) s = done sl) ∧
      (sl.closing.releasePending = false → (∃ c ∈ sl.traffic.cmds, c.state ≠ .atResponder) →
        exec (.release i t a b) s = done { sl with closing := { sl.closing with releasePending := true } }) ∧
      (sl.closing.releasePending = false → (∀ c ∈ sl.traffic.cmds, c.state = .atResponder) →
        exec (.release i t a b) s = done { sl with
          sup := { sl.sup with phase := .released, power := false, warning := false, nextSample := none }
          link := { sl.link with state := .down, upDeadline := none }
          closing := { sl.closing with releasePending := false, verdict := sl.verdictAt s.shelf.bins }
          events := { sl.events with flags := sl.events.flags ||| 0x2000 } })

/-- RESET-SLOT where R134 accepts it: every command ends, ABORTED for the data commands in command table order, every
record takes its value at attach under the shelf default recipe, the flags are cleared, and the slot is ATTACHING with the
link in reset; power, lines, pending recipe and COMMAND block are kept (R105, R134, R135, R177). That the mask has TRIP and
FAULT at 1 is read from R178 (log entry 25). -/
def Obligations.ResetSlotAttachesAgain : Prop :=
  ∀ (s : State) (i : SlotId) (t : Tag) (a b : Word),
    let sl := s.slot i
    sl.tagBusy t = false → sl.sup.closed = false → sl.closing.releasePending = false →
    sl.sup.phase = .ready ∨ sl.sup.phase = .soak ∨
      (sl.sup.phase = .faulted ∧ (sl.sup.cause = some .resetLimit ∨ sl.sup.cause = some .linkLost)) →
    (∀ c ∈ sl.traffic.cmds, c.state ≠ .atResponder) →
    exec (.resetSlot i t a b) s = .next (((s.portGivenUp.setSlot i
      { sup := { sl.sup with phase := .attaching, cause := none, closed := false,
                             attachDeadline := some (s.shelf.clock + 30000) }
        mon := Monitors.zero
        ident := none
        key := none
        pending := sl.pending
        active := s.shelf.recipe.clamp
        zmap := { region := Region.unidentified, zones := [] }
        pass := PassRecord.none
        tally := Tally.zero
        defects := { extents := [], overflow := 0, postClose := 0 }
        traffic := { cmds := [], heldTags := [], jobs := [] }
        link := { state := .down, upDeadline := none, out := sl.link.out ++ [.linkReset] }
        timing := Timing.zero
        closing := Closing.none
        events := { flags := 0, mask := s.shelf.recipe.mask ||| 0xC000 }
        command := sl.command }).say
      ((inTagOrder sl.traffic.cmds).flatMap fun c => (c.tag.map fun u => [reply i u .aborted]).getD [])).answered
        i t 10 a b .done)

/-- CLEAR-EVENTS and SET-MASK in every phase: the selected flags are cleared, with both sticky flags when SENSE is;
the mask becomes parameter A with TRIP and FAULT taken as 1 (R177, R178). The attention line is active exactly while a
slot holds a set flag whose mask bit is 1, the attention summary has a bit for each such slot, bit n for slot n by
the model's choice (log entry 32), and stands in byte 1 of the shelf block, and TRIP and FAULT always count under the masks that every step keeps (R178, R179). -/
def Obligations.EventFlagsAndMasks : Prop :=
  ∀ (s : State) (i : SlotId) (t : Tag) (a b : Word),
    let sl := s.slot i
    let m := a.extractLsb' 0 16
    let counts := fun k : SlotId => (s.slot k).events.flags &&& (s.slot k).events.mask ≠ 0
    (s.attentionLine = true ↔ ∃ k, counts k) ∧
    (∀ k : SlotId, s.attentionSummary.testBit k.val = true ↔ counts k) ∧
    (((s.windowBlock i 32).getD 0 0).extractLsb' 8 8).toNat = s.attentionSummary ∧
    (∀ k : SlotId, s.MasksOn → (s.slot k).HasFlag .trip ∨ (s.slot k).HasFlag .fault → counts k) ∧
    (sl.tagBusy t = false →
      exec (.clearEvents i t a b) s = .next ((s.portGivenUp.setSlot i
        { sl with
          events := { sl.events with flags := sl.events.flags &&& ~~~m }
          mon := if m.getLsbD 9 then { sl.mon with currentSticky := false, tempSticky := false } else sl.mon }
        ).answered i t 11 a b .done) ∧
      exec (.setMask i t a b) s = .next ((s.portGivenUp.setSlot i
        { sl with events := { sl.events with mask := m ||| 0xC000 } }).answered i t 12 a b .done))

/-- A write to the PENDING RECIPE block replaces the pending recipe whole, one to the shelf block the default recipe and
the bin table, and one to any other offset but COMMAND changes nothing and completes READ-ONLY (R171, R174, R179). -/
def Obligations.WindowBlocksTakeAWrite : Prop :=
  ∀ (s : State) (i : SlotId) (t : Tag) (data : Block), (s.slot i).tagBusy t = false →
    exec (.pendingRecipeWrite i t data) s = .next ((s.portGivenUp.setSlot i
      { s.slot i with pending := Recipe.ofBlock data 0 }).say [reply i t .good]) ∧
    exec (.shelfBlockWrite i t data) s = .next (({ s.portGivenUp with
      shelf := { s.shelf with
        recipe := Recipe.ofBlock data 16
        bins := [32, 36, 40, 44, 48, 52, 56, 60].map (BinEntry.ofBlock data) } } : State).say [reply i t .good]) ∧
    (∀ offset : Fin 64, offset ≠ 1 → offset ≠ 2 → offset ≠ 32 →
      exec (.readOnlyBlockWrite i t offset data) s = .next (s.portGivenUp.say [reply i t .readOnly]))

/-- A one-block READ of the control window is answered with the block as it stands, then GOOD, in every phase. The read holds
its own entry AT-RESPONDER until then, so a STATUS block counts it and shows it under its tag (R93, R95; log entry 30). A
read of the GRADE RECORD block is answered with the record; held under its tag
while the slot is GRADING without one; and otherwise answered with a block of zeros (R94, R156, R170). Then what each block
shows, word by word, in the layouts and codes of 10.8: STATUS (R172), COMMAND (R173), the two recipes, the extents (R82),
the zones (R40), the grade record (R155), TIMING in the order of R116, the shelf block (R179), and nothing at an unassigned
offset (R171). A pending recipe that was written reads back as written, its unused bits and words zero (R171, R174); that
the upper halves of S0 and E0 are kept is the model's reading (log entry 17), and a count too long for its word shows its
low bits (log entry 18). -/
def Obligations.WindowReadsAreAnsweredOrHeld : Prop :=
  ∀ (s : State) (i : SlotId) (t : Tag),
    let sl := s.slot i
    let two := fun n : Nat => [BitVec.ofNat 32 n, BitVec.ofNat 32 (n / 4294967296 % 65536)]
    let serial := fun n : BitVec 160 =>
      [n.extractLsb' 0 32, n.extractLsb' 32 32, n.extractLsb' 64 32, n.extractLsb' 96 32, n.extractLsb' 128 32]
    let recipe := fun r : Recipe =>
      [ r.s0.extractLsb' 0 32, r.s0.extractLsb' 32 32, r.e0.extractLsb' 0 32, r.e0.extractLsb' 32 32, r.seed,
        ofBytes r.guardCode r.readReturn r.polarity r.posting, r.slow ++ r.timeout ++ r.priority, r.mask ++ r.checkpoint,
        ofBytes r.overCode r.tripCode r.lowCode r.highCode, ofBytes r.criticalCode 0 0 0,
        ofBytes r.wh r.ws r.we r.wt, ofBytes r.wl 0 0 0, 0, 0, 0, 0 ]
    let failure := fun k : FailKind =>
      BitVec.ofNat 8 (1 + [FailKind.miscompare, .stale, .timeout, .writeFail, .media, .misplaced].idxOf k)
    (sl.tagBusy t = false →
      (∀ n : Fin 64, n ≠ 0 → n ≠ 16 →
        exec (.read i t (BitVec.ofNat 48 (281474976710592 + n.val)) 1 false) s =
          .next (s.portGivenUp.say [.frame i (s.windowBlock i n.val), reply i t .good])) ∧
      (let status := (s.setSlot i (sl.withCmd
          { newEntry (some t) .read (BitVec.ofNat 48 281474976710592) 1 false 0 (some .control) [] with
            state := .atResponder })).windowBlock i 0
       exec (.read i t (BitVec.ofNat 48 281474976710592) 1 false) s =
          .next (s.portGivenUp.say [.frame i status, reply i t .good]) ∧
       (status.getD 4 0).extractLsb' 24 8 = ((s.windowBlock i 0).getD 4 0).extractLsb' 24 8 + 1 ∧
       (status.getD (12 + t.val / 8) 0).extractLsb' (4 * (t.val % 8)) 4 = 4 ∧
       ∀ n, n ≠ 4 → n ≠ 12 + t.val / 8 → status.getD n 0 = (s.windowBlock i 0).getD n 0) ∧
      exec (.read i t (BitVec.ofNat 48 281474976710608) 1 false) s = exec (.gradeRecordRead i t) s ∧
      (∀ g : GradeRecord, sl.closing.grade = some g →
        exec (.gradeRecordRead i t) s = .next (s.portGivenUp.say [.frame i (1 :: g.commonWords), reply i t .good])) ∧
      (sl.closing.grade = none → sl.sup.phase = .grading →
        exec (.gradeRecordRead i t) s = .next (s.portGivenUp.setSlot i
          (sl.withCmd { newEntry (some t) .read (BitVec.ofNat 48 281474976710608) 1 false 0 (some .control) [] with
            state := .atResponder }))) ∧
      (sl.closing.grade = none → sl.sup.phase ≠ .grading →
        exec (.gradeRecordRead i t) s = .next (s.portGivenUp.say [.frame i [], reply i t .good])) ∧
      (∀ data : Block, ∃ u, exec (.pendingRecipeWrite i t data) s = .next u ∧
        ∀ n, (u.windowBlock i 2).getD n 0 =
          if n < 9 ∨ n = 10 then data.getD n 0 else if n = 9 ∨ n = 11 then data.getD n 0 &&& 0xFF else 0)) ∧
    (∃ lines e0 e1 e2 e3 : Word,
      (∀ n : Fin 32, lines.getLsbD n = [sl.sup.carrier, sl.sup.latch, sl.sup.power, sl.sup.graceEnd.isSome,
        sl.sup.warning, sl.sup.closed, sl.closing.releasePending, sl.tally.writeCovered, sl.tally.verified,
        sl.mon.currentSticky, sl.mon.tempSticky, sl.closing.shipWritten,
        decide (tempLevel sl.active.highCode ≤ tempLevel sl.active.lowCode)].getD n false) ∧
      (∀ u : Tag,
        let code := (([e0, e1, e2, e3].getD (u.val / 8) 0).extractLsb' (4 * (u.val % 8)) 4).toNat
        (sl.traffic.cmds.find? (fun c => c.tag == some u) = none → code = 0) ∧
        ∀ c, sl.traffic.cmds.find? (fun c => c.tag == some u) = some c → c.state ≠ .cancelled →
          code = 1 + [CmdState.waiting, .atDrive, .checking, .atResponder].idxOf c.state) ∧
      let p := sl.pass
      let q := sl.tally
      let g := sl.zmap.region
      let posts := fun f : Cmd → Bool => BitVec.ofNat 8 (sl.traffic.cmds.filter fun c => c.tag.isNone && f c).length
      let verdict : Nat × Nat := match sl.closing.verdict with
        | .none => (0, 0) | .ship n => (1, n) | .unshipped n => (2, n) | .reject n => (3, n) | .fault => (4, 0)
      s.windowBlock i 0 =
        [ ofBytes
            (BitVec.ofNat 8 ([Phase.empty, .attaching, .ready, .running, .held, .soak, .grading, .graded, .shipping,
              .shipped, .released, .faulted].idxOf sl.sup.phase))
            (BitVec.ofNat 8 ([none, some FaultCause.trip, some .linkLost, some .resetLimit].idxOf sl.sup.cause))
            (BitVec.ofNat 8 ([GradingStep.none, .draining, .queued, .computing].idxOf sl.closing.step))
            (BitVec.ofNat 8 (if i ∈ s.grader.queue then s.grader.queue.idxOf i + 1 else 0)),
          lines,
          ofBytes (BitVec.ofNat 8 ([LinkState.down, .up, .resetting].idxOf sl.link.state))
            (BitVec.ofNat 8 ([RegionStatus.unidentified, .formatMismatch, .empty, .enabled].idxOf g.status))
            (BitVec.ofNat 8 verdict.1) (BitVec.ofNat 8 verdict.2),
          sl.events.mask ++ sl.events.flags,
          ofBytes (BitVec.ofNat 8 sl.indicator)
            (BitVec.ofNat 8 ([CurrentLive.normal, .over].idxOf sl.mon.currentLive))
            (BitVec.ofNat 8 ([TempLive.inWindow, .below, .above, .critical].idxOf sl.mon.tempLive))
            (BitVec.ofNat 8 (sl.traffic.cmds.filter fun c => c.tag.isSome).length),
          sl.mon.current, BitVec.ofNat 16 sl.mon.currentCount ++ sl.mon.temp,
          BitVec.ofNat 16 sl.defects.extents.length ++ BitVec.ofNat 16 sl.mon.tempCount ]
        ++ two sl.defects.overflow
        ++ [ BitVec.ofNat 32 sl.defects.postClose,
          ofBytes (posts fun _ => true) (posts fun c => c.state == .waiting) (posts fun c => c.state == .atDrive)
            (posts fun c => c.state == .cancelled),
          e0, e1, e2, e3,
          ofBytes (BitVec.ofNat 8 ([PassKind.none, .write, .read, .ship].idxOf p.kind))
            (BitVec.ofNat 8 ([PassState.none, .running, .held, .complete, .aborted].idxOf p.state))
            (BitVec.ofNat 8 ((if p.holdHost then 1 else 0) + if p.holdThermal then 2 else 0))
            (if p.endless then 1 else 0),
          BitVec.ofNat 16 p.epoch ++ BitVec.ofNat 16 p.serial ]
        ++ two p.remaining
        ++ [ BitVec.ofNat 32 p.outstanding, BitVec.ofNat 32 p.laps, BitVec.ofNat 32 p.failures,
          BitVec.ofNat 32 p.checkpoint, BitVec.ofNat 16 q.writeEpochs ++ BitVec.ofNat 16 q.serials,
          BitVec.ofNat 16 q.readPasses ++ BitVec.ofNat 16 q.writePasses, BitVec.ofNat 32 (q.soakMs / 1000),
          BitVec.ofNat 32 q.soakGained, BitVec.ofNat 32 q.soakTarget ]
        ++ (if g.status = .enabled then
            two g.first ++ two g.stop ++ two (g.stop - g.first) ++ two g.zoneLength ++ [BitVec.ofNat 32 g.zoneCount]
          else List.replicate 9 0)
        ++ (match sl.ident with
          | none => List.replicate 8 0
          | some d => serial d.serial ++ two d.capacity ++ [BitVec.ofNat 32 d.blockSize])) ∧
    s.windowBlock i 1 =
      [ sl.command.code, sl.command.a, sl.command.b,
        BitVec.ofNat 32 ([CmdOutcome.none, .done, .wrongPhase, .thermal, .passLimit, .noRegion, .closed, .unknown].idxOf
          sl.command.outcome),
        BitVec.ofNat 32 sl.command.count.toNat ] ∧
    s.windowBlock i 2 = recipe sl.pending ∧ s.windowBlock i 3 = recipe sl.active ∧
    (∀ (k : Fin 4) (m : Fin 128) (n : Fin 8),
      (s.windowBlock i (4 + k.val)).getD (8 * m.val + n.val) 0 =
        match sl.defects.extents[128 * k.val + m.val]? with
        | none => 0
        | some e =>
          [ BitVec.ofNat 32 e.start, BitVec.ofNat 16 e.length ++ BitVec.ofNat 16 (e.start / 4294967296),
            ofBytes (failure e.kind)
              (BitVec.ofNat 8 (1 + [ExtentStatus.suspect, .confirmed, .cleared].idxOf e.status))
              (BitVec.ofNat 8 e.hits) (if e.claimed.isSome then 1 else 0),
            BitVec.ofNat 16 e.firstSerial ++ BitVec.ofNat 16 e.worstB, BitVec.ofNat 32 e.firstTime,
            BitVec.ofNat 16 (e.claimed.getD 0 / 4294967296) ++ BitVec.ofNat 16 e.lastSerial,
            BitVec.ofNat 32 e.lastTime, BitVec.ofNat 32 (e.claimed.getD 0) ].getD n.val 0) ∧
    (∀ (k : Fin 8) (m : Fin 128) (n : Fin 8),
      (s.windowBlock i (8 + k.val)).getD (8 * m.val + n.val) 0 =
        match sl.zmap.zones[128 * k.val + m.val]? with
        | none => 0
        | some z =>
          ([ BitVec.ofNat 32 (1 + [ZoneState.blank, .ordered, .mixed, .untracked].idxOf z.state),
            BitVec.ofNat 16 z.previous ++ BitVec.ofNat 16 z.current ] ++ two z.wf ++ two z.rf).getD n.val 0) ∧
    (∀ g : GradeRecord,
      let n := g.inputs
      g.commonWords =
        [ ofBytes (BitVec.ofNat 8 g.bin) (if n.coverage then 1 else 0) 0 0, BitVec.ofNat 32 g.score,
          BitVec.ofNat 32 n.confirmed, BitVec.ofNat 32 n.suspect, BitVec.ofNat 32 (n.misplaced % 65536) ]
        ++ two n.overflow
        ++ [ BitVec.ofNat 16 n.currentCount ++ BitVec.ofNat 16 n.tempCount, BitVec.ofNat 32 n.timeouts,
          BitVec.ofNat 32 n.slow, BitVec.ofNat 32 n.soakMinutes,
          BitVec.ofNat 16 n.readPasses ++ BitVec.ofNat 16 n.writePasses ]
        ++ two n.capacity ++ serial n.serial ++ [BitVec.ofNat 32 n.closedAt]) ∧
    (let q := sl.timing
     s.windowBlock i 17 =
        [BitVec.ofNat 32 q.completed] ++ two q.sum ++ [BitVec.ofNat 32 q.longest]
        ++ ([0, 1, 2, 3, 4, 5, 6, 7].map fun k => BitVec.ofNat 32 (q.histogram.getD k 0))
        ++ [ BitVec.ofNat 32 q.slow, BitVec.ofNat 32 q.timeouts, BitVec.ofNat 32 q.linkResets,
          BitVec.ofNat 32 q.consecutive, BitVec.ofNat 32 q.late ]) ∧
    s.windowBlock i 32 =
      [ofBytes (if s.shelf.loaded then 0 else 1) (BitVec.ofNat 8 s.attentionSummary) 0 0, ofBytes s.shelf.number 0 0 0]
      ++ two s.shelf.clock ++ List.replicate 12 0 ++ recipe s.shelf.recipe
      ++ ([0, 1, 2, 3, 4, 5, 6, 7].flatMap fun n =>
        let e := s.shelf.bins.getD n BinEntry.disabled
        [ ofBytes (BitVec.ofNat 8 ((if e.enabled then 1 else 0) + if e.coverageRequired then 2 else 0)) e.maxMisplaced
            e.allowance 0,
          e.ceiling, BitVec.ofNat 32 e.minSoak.toNat, 0 ]) ∧
    (∀ n : Fin 64, 18 ≤ n.val → n ≠ 32 → s.windowBlock i n.val = [])

/-! ## Issue -/

/-- While the link is UP, ISSUE sends the first command of the queue that is not blocked: here one that neither writes
nor reads the stamp region. It takes the drive tag, its deadline starts under the recipe's timeout, and the drive
command goes out. Nothing is issued while the link is not UP or every waiting command is blocked (R97, R100, R118).
Blocked is spelled out by R98: by an overlapping command accepted before it that is WAITING, AT-DRIVE or CANCELLED, or
accepted after it that is AT-DRIVE, one of the two a WRITE; a FLUSH by a WRITE accepted before it whose drive
completion has not been taken; an OTHER by a command accepted before it that is WAITING or AT-DRIVE; any command by
such an OTHER. That an overlapping command accepted later blocks only while it is AT-DRIVE is the model's reading (log
entry 9). That the drive tag taken is the free one the event names is the model's choice (log entry 4). -/
def Obligations.PlainCommandIsIssued : Prop :=
  ∀ (s : State) (i : SlotId) (d : DriveTag),
    let sl := s.slot i
    let open_ := fun x : Cmd => x.state = .waiting ∨ x.state = .atDrive ∨ x.state = .cancelled
    let clash := fun x y : Cmd =>
      (x.kind = .read ∨ x.kind = .write) ∧ (y.kind = .read ∨ y.kind = .write) ∧ (x.kind = .write ∨ y.kind = .write) ∧
        x.start < y.start + y.length ∧ y.start < x.start + x.length
    (∀ (pre : List Cmd) (x : Cmd) (post : List Cmd), blocked pre x post = true ↔
      (∃ y ∈ pre, open_ y ∧ clash x y) ∨ (∃ y ∈ post, y.state = .atDrive ∧ clash x y) ∨
      (x.kind = .flush ∧ ∃ y ∈ pre, y.kind = .write ∧ open_ y) ∨
      (x.kind = .other ∧ ∃ y ∈ pre, y.state = .waiting ∨ y.state = .atDrive) ∨
      (∃ y ∈ pre, y.kind = .other ∧ (y.state = .waiting ∨ y.state = .atDrive))) ∧
    (sl.link.state ≠ .up → exec (.issue i d) s = .next s) ∧
    ((∀ pre x post, sl.traffic.cmds = pre ++ x :: post → x.state = .waiting → blocked pre x post = true) →
      exec (.issue i d) s = .next s) ∧
    (∀ (before : List Cmd) (c : Cmd) (after : List Cmd), sl.traffic.cmds = before ++ c :: after →
      sl.link.state = .up → sl.tagFree d = true → c.state = .waiting → blocked before c after = false →
      (∀ pre x post, before = pre ++ x :: post → x.state = .waiting → blocked pre x (post ++ c :: after) = true) →
      c.kind ≠ .write → c.cls ≠ some .stamp → c.frames = [] →
      exec (.issue i d) s = .next (s.setSlot i { sl with
        traffic := { sl.traffic with
          cmds := before ++ { c with
            state := .atDrive, driveTag := some d, frames := [], check := none, generation := none
            issuedAt := s.shelf.clock, deadline := some (s.shelf.clock + sl.active.timeout.toNat * 1000) } :: after }
        link := { sl.link with out := sl.link.out ++ [.command d c.kind c.addr c.count c.param] } }))

/-- The issue of a read of the stamp region: the check information is copied first, then the read joins a running or
held read pass, then the read frontiers move (R6, R36, R52, R100). The drive tag is the one the event names (log entry
4). -/
def Obligations.StampReadIsIssued : Prop :=
  ∀ (s : State) (i : SlotId) (d : DriveTag) (before : List Cmd) (c : Cmd) (after : List Cmd) (u : Tag) (K : Word),
    let sl := s.slot i
    let joins := sl.pass.kind = .read ∧ (sl.pass.state = .running ∨ sl.pass.state = .held)
    let zones := sl.zmap.portions (Zone.readOver (sl.pass.state == .held)) c.start (c.start + c.length)
    sl.traffic.cmds = before ++ c :: after → sl.link.state = .up → sl.tagFree d = true →
    c.state = .waiting → blocked before c after = false →
    (∀ pre x post, before = pre ++ x :: post → x.state = .waiting → blocked pre x (post ++ c :: after) = true) →
    c.kind = .read → c.cls = some .stamp → c.tag = some u → c.frames = [] → sl.key = some K →
    ∃ sl' : Slot, exec (.issue i d) s = .next (s.setSlot i sl') ∧
      sl' = { Slot.moveZones zones { sl with
          pass := if joins then { sl.pass with outstanding := sl.pass.outstanding + 1 } else sl.pass } with
        traffic := { sl.traffic with
          cmds := before ++ { c with
            state := .atDrive, driveTag := some d, frames := [], generation := none
            serial := if joins then some sl.pass.serial else c.serial
            check := some { zones := sl.zmap.copies c.start (c.start + c.length), key := K
                            alternate := sl.active.polarity.getLsbD 0, full := sl.active.readReturn.getLsbD 0 }
            issuedAt := s.shelf.clock, deadline := some (s.shelf.clock + sl.active.timeout.toNat * 1000) } :: after }
        link := { sl.link with out := sl.link.out ++ [.command d .read c.addr c.count c.param] } }

/-- The issue of a write that passes the guard test. A data-omitted write of the stamp region joins its pass when it
is unposted, moves the write frontiers, and gets a generation job under the values of its first issue; a host-data
write pulls its zones back and its frames follow the command; the ship record block follows a ship record write. When
the issue lowered the pass's remaining count the pass is tested (R18, R31 to R35, R52, R56, R99, R100). The ship
record block is the 24 words of 10.8, taken at this issue (R161). The drive tag is the one the event names (log entry
4), and a block of a drive below 4096 bytes carries its frame's leading bytes (log entry 23). -/
def Obligations.WriteIsIssued : Prop :=
  ∀ (s : State) (i : SlotId) (d : DriveTag) (before : List Cmd) (c : Cmd) (after : List Cmd) (K : Word),
    let sl := s.slot i
    let active := sl.pass.state = .running ∨ sl.pass.state = .held
    let stamps := c.omitted = true ∧ c.cls = some .stamp
    let joins := stamps ∧ c.tag.isSome = true ∧ active ∧ (sl.pass.kind = .write ∨ sl.pass.kind = .ship)
    let g := c.generation.getD { key := K, alternate := sl.active.polarity.getLsbD 0, epoch := sl.pass.epoch }
    let zones :=
      if c.cls = some .stamp then
        sl.zmap.portions (if c.omitted then Zone.stamp g.epoch (sl.pass.state == .held) else Zone.foreign)
          c.start (c.start + c.length)
      else sl.zmap.zones
    let joined : Slot := { sl with
      pass := if joins then { sl.pass with outstanding := sl.pass.outstanding + 1 } else sl.pass }
    let moved := if c.cls = some .stamp then joined.moveZones zones else joined
    let size := (sl.ident.map Identity.blockSize).getD 4096
    let blocks :=
      if c.omitted = true ∧ c.cls = some .guarded then [sl.shipBlock s.shelf.clock s.shelf.number i] else c.frames
    let issued : Slot := { moved with
      traffic := { sl.traffic with
        cmds := before ++ { c with
          state := .atDrive, driveTag := some d, frames := [], check := none
          serial := if joins then some sl.pass.serial else c.serial
          generation := if stamps then some g else none
          issuedAt := s.shelf.clock, deadline := some (s.shelf.clock + sl.active.timeout.toNat * 1000) } :: after
        jobs := if stamps then
            sl.traffic.jobs ++ [{ owner := .generate d g, addr := c.start, total := c.length, done := 0, granted := 0 }]
          else sl.traffic.jobs }
      link := { sl.link with
        out := sl.link.out ++ .command d .write c.addr c.count c.param
          :: blocks.map fun blk => .block d (leadingBytes size blk) } }
    (∀ g : GradeRecord, sl.closing.grade = some g →
      let n := g.inputs
      sl.shipBlock s.shelf.clock s.shelf.number i =
        [0x5C31E8A7, ofBytes (BitVec.ofNat 8 g.bin) (if n.coverage then 1 else 0) 0 0, BitVec.ofNat 32 g.score,
          BitVec.ofNat 32 n.confirmed, BitVec.ofNat 32 n.suspect, ofHalves (BitVec.ofNat 16 n.misplaced) 0,
          BitVec.ofNat 32 n.overflow, BitVec.ofNat 32 (n.overflow / 4294967296 % 65536),
          ofHalves (BitVec.ofNat 16 n.tempCount) (BitVec.ofNat 16 n.currentCount),
          BitVec.ofNat 32 n.timeouts, BitVec.ofNat 32 n.slow, BitVec.ofNat 32 n.soakMinutes,
          ofHalves (BitVec.ofNat 16 n.writePasses) (BitVec.ofNat 16 n.readPasses),
          BitVec.ofNat 32 n.capacity, BitVec.ofNat 32 (n.capacity / 4294967296 % 65536),
          n.serial.extractLsb' 0 32, n.serial.extractLsb' 32 32, n.serial.extractLsb' 64 32,
          n.serial.extractLsb' 96 32, n.serial.extractLsb' 128 32, BitVec.ofNat 32 n.closedAt,
          BitVec.ofNat 32 sl.defects.postClose, BitVec.ofNat 32 (s.shelf.clock / 1000),
          ofBytes (BitVec.ofNat 8 i.val) s.shelf.number 0 0]) ∧
    (sl.traffic.cmds = before ++ c :: after → sl.link.state = .up → sl.tagFree d = true →
    c.state = .waiting → blocked before c after = false →
    (∀ pre x post, before = pre ++ x :: post → x.state = .waiting → blocked pre x (post ++ c :: after) = true) →
    c.kind = .write → sl.key = some K →
    sl.guardedEnd ≤ c.start ∨ sl.shipWriteNow c.omitted c.start c.length = true →
    exec (.issue i d) s = .next (s.setSlot i
      (if active ∧ 0 < advanced (sl.pass.kind.frontiers sl.zmap.zones) (sl.pass.kind.frontiers zones)
        then issued.testPass else issued)))

/-- A write that meets the guarded range at its issue is not issued: unposted it completes GUARDED; posted it is recorded
as failed over its whole range, with POST-FAIL, and finishes for its pass. The drains are then tested (R99, R111, R147,
R166, R185). -/
def Obligations.GuardTestStopsAWrite : Prop :=
  ∀ (s : State) (i : SlotId) (d : DriveTag) (before : List Cmd) (c : Cmd) (after : List Cmd),
    let sl := s.slot i
    let run : Run := { first := c.start, length := c.length, kind := .writeFail, worstB := 0, claimed := none }
    sl.traffic.cmds = before ++ c :: after → sl.link.state = .up → sl.tagFree d = true →
    c.state = .waiting → blocked before c after = false →
    (∀ pre x post, before = pre ++ x :: post → x.state = .waiting → blocked pre x (post ++ c :: after) = true) →
    c.kind = .write → c.length ≠ 0 → c.start < sl.guardedEnd → sl.shipWriteNow c.omitted c.start c.length = false →
      (∀ u : Tag, c.tag = some u →
        exec (.issue i d) s = .next (((s.setSlot i
          { sl with traffic := { sl.traffic with cmds := before ++ after } }).say [reply i u .guarded]).settle i)) ∧
      (c.tag = none →
        exec (.issue i d) s = .next ((s.setSlot i
          (((((sl.takeRun s.shelf.clock run).raise .postFail).modCmds fun _ => before ++ after)).finish c.serial)
            ).settle i))

/-- Pass control follows the frontiers: remaining moves by the same number of blocks in the opposite direction, and every
fall counts toward the checkpoint, which is raised when its interval is reached (R54, R58). -/
def Obligations.FrontierMovesCountThePass : Prop :=
  ∀ (sl : Slot) (zones : List Zone),
    let t := sl.moveZones zones
    let N := sl.zmap.region.blocks
    let fronts := sl.pass.kind.frontiers
    let fall := advanced (fronts sl.zmap.zones) (fronts zones)
    let rise := advanced (fronts zones) (fronts sl.zmap.zones)
    let interval := sl.active.checkpoint.toNat * 65536
    sl.pass.active = true → sl.pass.remaining = N - sl.pass.kind.covered sl.zmap.zones →
    sl.pass.kind.covered sl.zmap.zones ≤ N → sl.pass.kind.covered zones ≤ N → zones.length = sl.zmap.zones.length →
      t = { sl with zmap := { sl.zmap with zones := zones }, pass := t.pass, events := t.events } ∧
      t.pass = { sl.pass with remaining := t.pass.remaining, checkpoint := t.pass.checkpoint } ∧
      t.pass.remaining + fall = sl.pass.remaining + rise ∧
      t.pass.remaining = N - t.pass.kind.covered t.zmap.zones ∧
      (interval = 0 ∨ sl.pass.checkpoint + fall < interval → t.events = sl.events) ∧
      (interval = 0 → t.pass.checkpoint = sl.pass.checkpoint) ∧
      (interval ≠ 0 → sl.pass.checkpoint + fall < interval → t.pass.checkpoint = sl.pass.checkpoint + fall) ∧
      (interval ≠ 0 → interval ≤ sl.pass.checkpoint + fall →
        t.pass.checkpoint + interval = sl.pass.checkpoint + fall ∧ t.HasFlag .checkpoint)

/-! ## Zones -/

/-- What arming, stamped writes, outrun writes, host writes and reads do to one zone: the rows of R29, R31 to R33, R35 and
R36. -/
def Obligations.ZoneRows : Prop :=
  ∀ (z : Zone) (e a b len : Nat),
    (z.current = e → z.arm e len = z) ∧
    (z.current ≠ e →
      (z.state = .blank → z.arm e len = { z with state := .ordered, current := e, previous := 0, wf := 0 }) ∧
      (z.state = .ordered → z.wf = len →
        z.arm e len = { z with previous := z.current, current := e, wf := 0 }) ∧
      (z.state = .ordered → z.wf ≠ len → z.wf = 0 → z.arm e len = { z with current := e }) ∧
      (z.state = .ordered → z.wf ≠ len → z.wf ≠ 0 → z.arm e len = { z with state := .untracked, current := e, wf := 0 }) ∧
      (z.state = .mixed ∨ z.state = .untracked →
        z.arm e len = { z with state := .untracked, current := e, wf := 0 })) ∧
    (∀ held : Bool, z.state = .blank → z.stamp e held a b len = z) ∧
    (∀ held : Bool, z.state ≠ .blank → z.current ≠ e →
      z.stamp e held a b len = { z with state := .untracked, wf := min z.wf a }) ∧
    (z.state ≠ .blank → z.current = e →
      (a ≤ z.wf → max z.wf b = len → z.stamp e false a b len = { z with state := .ordered, wf := len }) ∧
      (a ≤ z.wf → max z.wf b ≠ len → z.stamp e false a b len = { z with wf := max z.wf b }) ∧
      (z.wf < a → z.state = .ordered → z.stamp e false a b len = { z with state := .mixed }) ∧
      (z.wf < a → z.state ≠ .ordered → z.stamp e false a b len = z) ∧
      (b ≤ z.wf ∨ z.state ≠ .ordered → z.stamp e true a b len = z) ∧
      (z.wf < b → z.state = .ordered → z.stamp e true a b len = { z with state := .mixed })) ∧
    z.foreign a b len = { z with state := .untracked, wf := min z.wf a } ∧
    z.readOver true a b len = z ∧
    z.readOver false a b len = { z with rf := if a ≤ z.rf then max z.rf b else z.rf }

/-- A range is taken zone by zone: each zone that the blocks from `lo` up to `hi` reach is changed by its own portion, and
every other zone is left alone; the zones of a slot are those of R25 (R25, R28). -/
def Obligations.PortionsApplyZoneByZone : Prop :=
  ∀ (sl : Slot) (f : Nat → Nat → Nat → Zone → Zone) (lo hi k : Nat) (z : Zone),
    let g := sl.zmap.region
    let first := g.first + k * g.zoneLength
    let len := min g.zoneLength (g.stop - first)
    sl.MapWF → sl.zmap.zones[k]? = some z →
      1 ≤ len ∧ first + len ≤ g.stop ∧
      (lo < first + len → first < hi → lo < hi →
        (sl.zmap.portions f lo hi)[k]? = some (f (max lo first - first) (min hi (first + len) - first) len z)) ∧
      (first + len ≤ lo ∨ hi ≤ first ∨ hi ≤ lo → (sl.zmap.portions f lo hi)[k]? = some z)

/-! ## Drive completions -/

/-- A completion that names no command at the drive is discarded and counted late. A GOOD completion of a posted write
removes its entry and sends nothing; an error hands over a WRITE-FAIL run and raises POST-FAIL first (R110, R111,
R116, R121). That the service time maximum saturates is the model's choice (log entry 18). -/
def Obligations.LateAndPostedCompletions : Prop :=
  ∀ (s : State) (i : SlotId) (d : DriveTag) (status : DriveStatus) (data : List Block) (ident : Identification),
    let sl := s.slot i
    ((∀ c ∈ sl.traffic.cmds, ¬(c.state = .atDrive ∧ c.driveTag = some d)) →
      exec (.driveCompletion i d status data ident) s = .next (s.setSlot i
        { sl with timing := { sl.timing with late := min 4294967295 (sl.timing.late + 1) } })) ∧
    (∀ c : Cmd, sl.traffic.cmds.find? (Cmd.atTag d) = some c → c.tag = none → sl.stillGenerating d = false →
      let q := sl.timing
      let t := s.shelf.clock - c.issuedAt
      let timed : Slot := { sl with
        timing := { q with
          completed := min 4294967295 (q.completed + 1)
          sum := min 281474976710655 (q.sum + t)
          longest := min 4294967295 (max q.longest t)
          histogram := q.histogram.modify (bucketOf t) fun n => min 4294967295 (n + 1)
          slow := if sl.active.slow.toNat ≤ t then min 4294967295 (q.slow + 1) else q.slow
          consecutive := if status = .good then 0 else q.consecutive }
        traffic := { sl.traffic with jobs := sl.traffic.jobs.filter fun j => !j.generatesFor d } }
      let removed := fun sl' : Slot => (sl'.modCmds fun cs => cs.filter fun x => !x.atTag d).finish c.serial
      (status = .good →
        exec (.driveCompletion i d status data ident) s = .next ((s.setSlot i (removed timed)).settle i)) ∧
      (∀ e : DriveError, status = .error e →
        let from_ := match e.failing with
          | some f => if c.start ≤ f.toNat ∧ f.toNat < c.start + c.length then f.toNat else c.start
          | none => c.start
        exec (.driveCompletion i d status data ident) s = .next ((s.setSlot i (removed
          ((timed.takeRun s.shelf.clock
            { first := from_, length := c.start + c.length - from_, kind := .writeFail, worstB := 0, claimed := none }
            ).raise .postFail))).settle i)))

/-- The first GOOD IDENTIFY of a slot in ATTACHING: identity with the capacity clamped, key, region and map, READY and
ATTACHED, then the identification block and GOOD go upstream (R1, R104, R131). That the identity comes as operands of
the completion is the model's choice (log entry 8). -/
def Obligations.IdentifyMakesTheSlotReady : Prop :=
  ∀ (s : State) (i : SlotId) (d : DriveTag) (data : List Block) (ident : Identification) (c : Cmd) (u : Tag),
    let sl := s.slot i
    let who : Identity :=
      { serial := ident.serial
        capacity := if 4096 < ident.blockSize.toNat then 0 else min ident.capacity.toNat 281474976710592
        blockSize := ident.blockSize.toNat }
    let g := deriveRegion sl.active (some who)
    sl.traffic.cmds.find? (Cmd.atTag d) = some c → c.tag = some u → c.kind = .identify → c.serial = none →
    sl.sup.phase = .attaching → sl.stillGenerating d = false →
    exec (.driveCompletion i d .good data ident) s = .next (((s.setSlot i
      { sl with
        sup := { sl.sup with phase := .ready }
        ident := some who
        key := some (keyOf ident.serial sl.active.seed)
        zmap := { region := g, zones := if g.status = .enabled then List.replicate g.zoneCount Zone.blank else [] }
        timing := Timing.taken (s.shelf.clock - c.issuedAt) sl.active.slow.toNat true sl.timing
        traffic := { sl.traffic with
          cmds := sl.traffic.cmds.filter fun x => x.tag != some u
          jobs := sl.traffic.jobs.filter fun j => !j.generatesFor d }
        events := { sl.events with flags := sl.events.flags ||| 0x0001 } }).say
      [.frame i (data.getD 0 []), reply i u .good]).settle i)

/-- How an unposted command that is no read of the stamp region ends at the drive. GOOD: a read sends its frames, then
GOOD; an IDENTIFY outside ATTACHING its identification block, then GOOD; a write, a FLUSH and an OTHER send GOOD, and
a ship record write sets the ship record state and may make the slot SHIPPED. Error: MEDIA or DRIVE-ERROR with the
detail, after a MEDIA run of the failing block of a read and the blocks before it, or a WRITE-FAIL run from the
failing block of a write (R101, R102, R104, R160, R163). A completion that names a write whose blocks are not all
generated changes nothing, which is read from R21 (log entry 11). That a block which the completion does not bring
reads as zeros is the model's choice (log entry 15). That the frames of a drive below 4096 bytes carry its leading
bytes is the model's reading of R84 (log entry 23). -/
def Obligations.UnpostedCompletionEndsTheCommand : Prop :=
  ∀ (s : State) (i : SlotId) (d : DriveTag) (status : DriveStatus) (data : List Block) (ident : Identification)
    (c : Cmd) (u : Tag),
    let sl := s.slot i
    let size := (sl.ident.map Identity.blockSize).getD 4096
    let timed : Slot := { sl with
      timing := Timing.taken (s.shelf.clock - c.issuedAt) sl.active.slow.toNat (isGood status) sl.timing
      traffic := { sl.traffic with jobs := sl.traffic.jobs.filter fun j => !j.generatesFor d } }
    let ended := fun sl' : Slot => (sl'.modCmds fun cs => cs.filter fun x => x.tag != some u).finish c.serial
    let becomes := fun (sl' : Slot) (out : List Upstream) =>
      exec (.driveCompletion i d status data ident) s = .next (((s.setSlot i sl').say out).settle i)
    let answers := fun (sl' : Slot) (out : List Upstream) => becomes (ended sl') out
    let frames := fun n : Nat => (List.range n).map fun k => Upstream.frame i (leadingBytes size (data.getD k []))
    let ship := c.kind = .write ∧ c.omitted = true ∧ c.cls = some .guarded
    sl.traffic.cmds.find? (Cmd.atTag d) = some c →
      (sl.stillGenerating d = true → exec (.driveCompletion i d status data ident) s = .next s) ∧
      (sl.stillGenerating d = false → c.tag = some u → c.cls ≠ some .stamp ∨ c.kind ≠ .read →
        (status = .good → c.kind = .read → answers timed (frames c.length ++ [reply i u .good])) ∧
        (status = .good → c.kind = .identify → sl.sup.phase ≠ .attaching →
          answers timed [.frame i (data.getD 0 []), reply i u .good]) ∧
        (status = .good → c.kind = .write ∨ c.kind = .flush ∨ c.kind = .other → ¬ship →
          answers timed [reply i u .good]) ∧
        (status = .good → ship →
          becomes ((ended timed).modClosing fun q => { q with shipWritten := true }).testShipped [reply i u .good]) ∧
        (∀ e : DriveError, status = .error e →
          let done := Upstream.completion
            { slot := i, tag := u, cond := if e.cls = .media then .media else .driveError, detail := some e
              summary := none }
          (c.kind = .flush ∨ c.kind = .identify ∨ c.kind = .other → answers timed [done]) ∧
          (∀ f : BitVec 48, e.failing = some f → c.start ≤ f.toNat → f.toNat < c.start + c.length →
            (c.kind = .read →
              answers (timed.takeRun s.shelf.clock
                { first := f.toNat, length := 1, kind := .media, worstB := 0, claimed := none })
                (frames (f.toNat - c.start) ++ [done])) ∧
            (c.kind = .write →
              answers (timed.takeRun s.shelf.clock
                { first := f.toNat, length := c.start + c.length - f.toNat, kind := .writeFail, worstB := 0
                  claimed := none }) [done])) ∧
          ((∀ f : BitVec 48, e.failing = some f → f.toNat < c.start ∨ c.start + c.length ≤ f.toNat) →
            (c.kind = .read → answers timed [done]) ∧
            (c.kind = .write →
              answers (timed.takeRun s.shelf.clock
                { first := c.start, length := c.length, kind := .writeFail, worstB := 0, claimed := none }) [done]))))

/-- A drive completion of a stamp-region read. Blocks that returned data, all of them under GOOD and those before the
failing block under an error, make it CHECKING with a check job over them. An error whose failing block is the first
of the read, is outside its range or is not given returns no block: the read ends at once with MEDIA or DRIVE-ERROR,
its summary and no frames, after its MEDIA run, if it has one, has been taken (R7, R12, R13, R18, R101, R102). That a
block which the completion does not bring is an empty list of words is the model's choice (log entry 15). -/
def Obligations.StampReadCompletionIsChecked : Prop :=
  ∀ (s : State) (i : SlotId) (d : DriveTag) (status : DriveStatus) (data : List Block) (ident : Identification)
    (c : Cmd) (u : Tag),
    let sl := s.slot i
    let timed : Slot := { sl with
      timing := Timing.taken (s.shelf.clock - c.issuedAt) sl.active.slow.toNat (isGood status) sl.timing
      traffic := { sl.traffic with jobs := sl.traffic.jobs.filter fun j => !j.generatesFor d } }
    let checking := fun (n : Nat) (e : Option DriveError) =>
      exec (.driveCompletion i d status data ident) s = .next ((s.setSlot i { timed with
        traffic :=
          { cmds := sl.traffic.cmds.map fun x =>
              if x.tag = some u then
                { c with
                  state := .checking, driveTag := none, deadline := none, driveError := e
                  returned := (List.range n).map fun k => data.getD k [] }
              else x
            heldTags := sl.traffic.heldTags
            jobs := timed.traffic.jobs ++
              [{ owner := .check u, addr := c.start, total := n, done := 0, granted := 0 }] } }).settle i)
    sl.traffic.cmds.find? (Cmd.atTag d) = some c → c.tag = some u → sl.stillGenerating d = false →
    c.kind = .read → c.cls = some .stamp → 1 ≤ c.length →
      (status = .good → checking c.length none) ∧
      (∀ e : DriveError, status = .error e →
        (∀ f : BitVec 48, e.failing = some f → c.start < f.toNat → f.toNat < c.start + c.length →
          checking (f.toNat - c.start) (some e)) ∧
        (c.classes = [] →
          let first := ∃ f : BitVec 48, e.failing = some f ∧ f.toNat = c.start
          let away := ∀ f : BitVec 48, e.failing = some f → f.toNat < c.start ∨ c.start + c.length ≤ f.toNat
          let ends := fun (sl' : Slot) (v : Summary) =>
            exec (.driveCompletion i d status data ident) s = .next (((s.setSlot i
              ((sl'.modCmds fun cs => cs.filter fun x => x.tag != some u).finish c.serial)).say
                [.completion
                  { slot := i, tag := u, cond := if e.cls = .media then .media else .driveError, detail := some e
                    summary := some v }]).settle i)
          (first →
            ends (timed.takeRun s.shelf.clock { first := c.start, length := 1, kind := .media, worstB := 0, claimed := none })
              { verified := 1, unverified := c.length - 1, bad := 1, firstBad := some 0, worst := some .media }) ∧
          (away →
            ends timed
              { verified := 0, unverified := c.length, bad := 0, firstBad := none, worst := none })))

/-! ## The engine -/

/-- ENGINE_GRANT on an idle engine: the winner has a job, its level is the highest of the slots with jobs, and among those
of that level it is the first after the last-granted slot; its oldest job gets 16 blocks or what is left (R20). -/
def Obligations.EngineGrantGoesToTheWinner : Prop :=
  ∀ s : State, (∀ i, ∀ j ∈ (s.slot i).traffic.jobs, j.granted = 0) →
    ((∀ i, (s.slot i).traffic.jobs = []) → exec .engineGrant s = .next s) ∧
    ((∃ i, (s.slot i).traffic.jobs ≠ []) →
      ∃ (i : SlotId) (j : Job) (js : List Job), (s.slot i).traffic.jobs = j :: js ∧
        (∀ k, (s.slot k).traffic.jobs ≠ [] →
          (s.slot k).active.priority.toNat < (s.slot i).active.priority.toNat ∨
            ((s.slot k).active.priority.toNat = (s.slot i).active.priority.toNat ∧
              grantDistance s.engineLast i ≤ grantDistance s.engineLast k)) ∧
        exec .engineGrant s = .next { (s.setSlot i { s.slot i with
          traffic := { (s.slot i).traffic with jobs := { j with granted := min 16 (j.total - j.done) } :: js } }) with
          engineLast := i })

/-- ENGINE_BURST_DONE. A generation burst sends its stamp blocks behind the write, in ascending order; a check burst
records the classes of its blocks; the job moves on, and leaves the queue with its last block. The last check burst of
a read hands over its runs, then its good coverage, ends the read with its summary, and, under FULL, its frames before
the completion (R12 to R17, R19, R21). That the event changes nothing on an idle engine is the model's choice (log
entry 16). -/
def Obligations.BurstWorksItsBlocks : Prop :=
  ∀ (s : State) (i : SlotId) (j : Job) (js : List Job),
    let sl := s.slot i
    let left : List Job :=
      if j.total ≤ j.done + j.granted then js else { j with done := j.done + j.granted, granted := 0 } :: js
    let worked : Slot := { sl with traffic := { sl.traffic with jobs := left } }
    ((∀ k, ∀ x ∈ (s.slot k).traffic.jobs, x.granted = 0) → exec .engineBurstDone s = .next s) ∧
    ((∀ k, k ≠ i → ∀ x ∈ (s.slot k).traffic.jobs, x.granted = 0) → sl.traffic.jobs = j :: js → j.granted ≠ 0 →
      (∀ (d : DriveTag) (g : Generation), j.owner = .generate d g →
        exec .engineBurstDone s = .next ((s.setSlot i { worked with
          link := { sl.link with
            out := sl.link.out ++ (List.range j.granted).map fun k =>
              .block d (stampBlock g.key g.alternate g.epoch (j.addr + j.done + k)) } }).settle i)) ∧
      (∀ (u : Tag) (c : Cmd) (info : CheckInfo), j.owner = .check u →
        sl.traffic.cmds.find? (fun x => x.tag == some u) = some c → c.check = some info →
        let classes := c.classes ++ (List.range j.granted).map fun k =>
          info.classify (c.start + j.done + k) (c.returned.getD (j.done + k) [])
        let every := match c.driveError with
          | none => classes
          | some e => classes ++ errorClasses (c.failingOffset e) c.length
        let bad := (every.filterMap BlockClass.failKind).length
        let cond : Condition := match c.driveError with
          | some e => if e.cls = .media then .media else .driveError
          | none => if bad = 0 then .good else .verifyFail
        (j.done + j.granted < j.total →
          exec .engineBurstDone s = .next ((s.setSlot i { worked with
            traffic := { sl.traffic with
              cmds := sl.traffic.cmds.map fun x => if x.tag = some u then { c with classes := classes } else x
              jobs := left } }).settle i)) ∧
        (j.total ≤ j.done + j.granted →
          exec .engineBurstDone s = .next (((s.setSlot i
            (((((worked.takeRuns s.shelf.clock (failureRuns c.start every)).takeCoverage (goodCoverage c.start every)
              ).modCmds fun cs => cs.filter fun x => x.tag != some u)).finish c.serial)).say
            ((if info.full then c.returned.map (Upstream.frame i) else []) ++
              [.completion
                { slot := i, tag := u, cond := cond, detail := c.driveError
                  summary := some
                    { verified := (every.filter BlockClass.isVerified).length
                      unverified := (every.filter fun x => !x.isVerified).length
                      bad := bad
                      firstBad := every.findIdx? fun x => x.failKind.isSome
                      worst := worstClass every } }])).settle i))))

/-! ## Deadlines and the drive link -/

/-- A deadline expires, or the link is lost: a drive link reset begins. The link is RESETTING under a 10 s deadline,
posted writes at the drive are put back once and otherwise recorded as failed over their whole range, with a
WRITE-FAIL run each, in acceptance order, and POST-FAIL, after the TIMEOUT run of a READ or WRITE whose deadline
expired, unposted commands at the drive complete ABORTED in command table order (after the TIMEOUT of the one that
expired), and waiting commands stand untouched. A deadline counts a timeout and raises TIMEOUT; a lost link does not
(R112, R119, R120, R125). A pending release goes on waiting while a data command is left, and completes when none is
(R166). That the clock is brought forward to the deadline is the model's choice (log entry 2); so is the order of the
cancellations (log entry 12), and that the events change nothing without such a command, without power or with the
link not UP (log entry 16). The pass, the zone map and the counters are otherwise as they were, but where a running
pass with nothing remaining may end by it. -/
def Obligations.LinkResetTakesTheCommandsBack : Prop :=
  ∀ (s : State) (i : SlotId),
    let sl := s.slot i
    let kept := fun x : Cmd =>
      if x.isAtDrive then
        (if x.posted && x.reissues == 0 then some { x with state := .cancelled, reissues := 1, deadline := none } else none)
      else some x
    let whole := fun (k : FailKind) (x : Cmd) =>
      ({ first := x.start, length := x.length, kind := k, worstB := 0, claimed := none } : Run)
    let failed := (sl.traffic.cmds.filter fun x => x.isAtDrive && x.posted && x.reissues != 0).map (whole .writeFail)
    let aborted := fun cs : List Cmd =>
      (inTagOrder (cs.filter fun x => x.isAtDrive)).flatMap fun x => (x.tag.map fun u => [reply i u .aborted]).getD []
    let reset := fun (t : State) =>
      (t.slot i).link.state = .resetting ∧ (t.slot i).link.upDeadline = some (t.shelf.clock + 10000) ∧
      (t.slot i).link.out = sl.link.out ++ [.linkReset] ∧
      (t.slot i).timing.linkResets = min 4294967295 (sl.timing.linkResets + 1) ∧
      (t.slot i).timing.consecutive = sl.timing.consecutive ∧
      (t.slot i).traffic.jobs = sl.traffic.jobs.filter Job.isCheck ∧
      (∀ e : DriveTag, e ∈ (t.slot i).traffic.heldTags ↔
        e ∈ sl.traffic.heldTags ∨ ∃ x ∈ sl.traffic.cmds, x.isAtDrive = true ∧ x.driveTag = some e) ∧
      (t.slot i).sup = { sl.sup with phase := (t.slot i).sup.phase, closed := (t.slot i).sup.closed } ∧
      (t.slot i).closing = { sl.closing with step := (t.slot i).closing.step } ∧
      (t.slot i).mon = sl.mon ∧ (t.slot i).ident = sl.ident ∧ (t.slot i).key = sl.key ∧
      (t.slot i).pending = sl.pending ∧ (t.slot i).active = sl.active ∧ (t.slot i).command = sl.command ∧
      (t.slot i).events.mask = sl.events.mask
    let stays := sl.closing.releasePending = false ∨
      ∃ x ∈ sl.traffic.cmds, x.state ≠ .atResponder ∧ (x.isAtDrive = false ∨ (x.posted = true ∧ x.reissues = 0))
    let leaves := sl.closing.releasePending = true ∧
      ∀ x ∈ sl.traffic.cmds, x.state = .atResponder ∨ (x.isAtDrive = true ∧ x.posted = false)
    let released := fun (t : State) =>
      (t.slot i).sup.phase = .released ∧ (t.slot i).sup.power = false ∧ (t.slot i).closing.releasePending = false ∧
      (t.slot i).link.state = .down ∧ (t.slot i).HasFlag .released ∧
      (sl.sup.phase = .graded → sl.pass.state ≠ .running →
        (t.slot i).closing.verdict = .unshipped ((sl.closing.grade.map GradeRecord.bin).getD 0))
    let recorded := fun (t : State) (runs : List Run) (flag : BitVec 16) =>
      let u := sl.takeRuns t.shelf.clock runs
      (t.slot i).defects = u.defects ∧ (∀ f : EventFlag, u.HasFlag f → (t.slot i).HasFlag f) ∧
      (failed ≠ [] → (t.slot i).HasFlag .postFail) ∧
      (t.slot i).timing =
        { sl.timing with timeouts := (t.slot i).timing.timeouts, linkResets := (t.slot i).timing.linkResets } ∧
      (sl.pass.state ≠ .running ∨ sl.pass.remaining ≠ 0 →
        (t.slot i).zmap = sl.zmap ∧ (t.slot i).tally = sl.tally ∧
        (t.slot i).pass =
          { sl.pass with failures := u.pass.failures, outstanding := (t.slot i).pass.outstanding } ∧
        (stays →
          (t.slot i).events.flags = u.events.flags ||| (if failed.isEmpty then 0 else 0x0080) ||| flag))
    sl.traffic.WF →
      (∀ (d : DriveTag) (c : Cmd), sl.traffic.cmds.find? (Cmd.atTag d) = some c →
        let others := sl.traffic.cmds.filter fun x => c.tag.isNone || x.tag != c.tag
        ∃ t, exec (.deadlineExpiry i d) s = .next t ∧ (stays → reset t) ∧ (leaves → released t) ∧
          recorded t ((if c.kind = .read ∨ c.kind = .write then [whole .timeout c] else []) ++ failed) 0x0100 ∧
          (t.slot i).timing.timeouts = min 4294967295 (sl.timing.timeouts + 1) ∧ (t.slot i).HasFlag .timeout ∧
          (t.slot i).traffic.cmds = others.filterMap kept ∧
          t.upstream = s.upstream ++ (c.tag.map fun u => [reply i u .timeout]).getD [] ++ aborted others ∧
          t.shelf = { s.shelf with
            clock := (c.deadline.map fun n => min 281474976710655 (max s.shelf.clock n)).getD s.shelf.clock }) ∧
      (∀ d : DriveTag, sl.traffic.cmds.find? (Cmd.atTag d) = none → exec (.deadlineExpiry i d) s = .next s) ∧
      (sl.sup.power = true → sl.link.state = .up → sl.sup.phase ≠ .faulted →
        ∃ t, exec (.linkLost i) s = .next t ∧ (stays → reset t) ∧ (leaves → released t) ∧ recorded t failed 0 ∧
          (t.slot i).timing.timeouts = sl.timing.timeouts ∧
          (t.slot i).traffic.cmds = sl.traffic.cmds.filterMap kept ∧ t.upstream = s.upstream ++ aborted sl.traffic.cmds ∧
          t.shelf = s.shelf) ∧
      (sl.sup.power = true → sl.link.state = .up → sl.sup.phase = .faulted →
        exec (.linkLost i) s = .next (s.setSlot i { sl with link := { sl.link with state := .down } })) ∧
      (sl.sup.power = false ∨ sl.link.state ≠ .up → exec (.linkLost i) s = .next s)

/-- LINK_UP on a powered slot. After a reset: the deadline ends, the consecutive count rises, and below 3 the held
tags and the CANCELLED writes come back. While the link is DOWN: it is UP and the attach link deadline ends (R113,
R122, R123, R130). That nothing happens without power, or while the link is UP, is the model's choice (log entry
16). -/
def Obligations.LinkUpBringsTheTagsBack : Prop :=
  ∀ (s : State) (i : SlotId),
    let sl := s.slot i
    (sl.sup.power = false ∨ sl.link.state = .up → exec (.linkUp i) s = .next s) ∧
    (sl.sup.power = true → sl.link.state = .resetting → sl.timing.consecutive + 1 < 3 →
      exec (.linkUp i) s = .next (s.setSlot i { sl with
        link := { sl.link with state := .up, upDeadline := none }
        timing := { sl.timing with consecutive := sl.timing.consecutive + 1 }
        traffic := { sl.traffic with
          cmds := sl.traffic.cmds.map fun c =>
            if c.state = .cancelled then { c with state := .waiting, driveTag := none } else c
          heldTags := [] } })) ∧
    (sl.sup.power = true → sl.link.state = .down →
      exec (.linkUp i) s = .next (s.setSlot i { sl with
        sup := { sl.sup with attachDeadline := none }
        link := { sl.link with state := .up } }))

/-- Entry to FAULTED: by the third consecutive reset, by the link-up deadline and by the attach link deadline. The
pass is aborted, every command ends with SLOT-DOWN in command table order but held GRADE RECORD reads, which are
answered GOOD, the traffic is empty, the link is not left RESETTING, the phase is FAULTED with its cause, FAULT is
raised, each posted write dropped hands over a WRITE-FAIL run for its whole range, in acceptance order, and raises
POST-FAIL, and power, statistics, closed flag and zone map are kept (R105, R114, R122, R123, R126, R130). A pending
release completes within the same event, with verdict FAULT (R167). That no pass is completed by the drop is the
model's choice (log entry 10), and so is that an expiry changes nothing where its deadline does not run (log entry
16). That these entries to FAULTED leave the spin-up grace running is read from R129, which lists what ends it (log
entry 24). -/
def Obligations.LinkFailuresFaultTheSlot : Prop :=
  ∀ (s : State) (i : SlotId),
    let sl := s.slot i
    let active := sl.pass.state = .running ∨ sl.pass.state = .held
    let records := (inTagOrder (sl.traffic.cmds.filter fun c => !c.posted)).flatMap fun c =>
      (c.tag.map fun u =>
        if c.state = .atResponder then [.frame i sl.gradeBlock, reply i u .good] else [reply i u .slotDown]).getD []
    let runs := (sl.traffic.cmds.filter Cmd.posted).map fun x =>
      ({ first := x.start, length := x.length, kind := .writeFail, worstB := 0, claimed := none } : Run)
    let recorded := fun (t : State) =>
      let u := sl.takeRuns t.shelf.clock runs
      (t.slot i).defects = u.defects ∧ (∀ f : EventFlag, u.HasFlag f → (t.slot i).HasFlag f) ∧
      (t.slot i).pass =
        { sl.pass with
          state := if active then .aborted else sl.pass.state
          holdHost := if active then false else sl.pass.holdHost
          holdThermal := if active then false else sl.pass.holdThermal
          failures := u.pass.failures
          outstanding := (t.slot i).pass.outstanding }
    let faulted := fun (t : State) (cause : FaultCause) =>
      recorded t ∧
      (t.slot i).sup = { sl.sup with phase := .faulted, cause := some cause, attachDeadline := none } ∧
      (t.slot i).HasFlag .fault ∧ (sl.postCount ≠ 0 → (t.slot i).HasFlag .postFail) ∧
      (t.slot i).events.flags =
        (sl.takeRuns t.shelf.clock runs).events.flags ||| (if sl.postCount = 0 then 0 else 0x0080) ||| 0x8000 ∧
      (t.slot i).closing =
        { sl.closing with step := if sl.closing.step = .computing then .computing else .none } ∧
      (t.slot i).mon = sl.mon ∧ (t.slot i).ident = sl.ident ∧ (t.slot i).key = sl.key ∧
      (t.slot i).pending = sl.pending ∧ (t.slot i).active = sl.active ∧ (t.slot i).zmap = sl.zmap ∧
      (t.slot i).tally = sl.tally ∧ (t.slot i).command = sl.command ∧ (t.slot i).events.mask = sl.events.mask ∧
      (t.slot i).traffic = { cmds := [], heldTags := [], jobs := [] } ∧ (t.slot i).link.upDeadline = none ∧
      (active → (t.slot i).pass.state = .aborted ∧ (t.slot i).pass.holdHost = false ∧
        (t.slot i).pass.holdThermal = false) ∧
      (¬active → (t.slot i).pass.state = sl.pass.state) ∧
      t.upstream = s.upstream ++ records
    let released := fun (t : State) =>
      recorded t ∧ (sl.postCount ≠ 0 → (t.slot i).HasFlag .postFail) ∧
      (t.slot i).sup.phase = .released ∧ (t.slot i).sup.power = false ∧ (t.slot i).closing.verdict = .fault ∧
      (t.slot i).closing.releasePending = false ∧ (t.slot i).link.state = .down ∧ (t.slot i).HasFlag .fault ∧
      (t.slot i).HasFlag .released ∧ (t.slot i).traffic = { cmds := [], heldTags := [], jobs := [] } ∧
      t.upstream = s.upstream ++ records
    (sl.closing.releasePending = true →
      (sl.sup.power = true → sl.link.state = .resetting → 3 ≤ sl.timing.consecutive + 1 →
        ∃ t, exec (.linkUp i) s = .next t ∧ released t) ∧
      (sl.link.state = .resetting → ∃ t, exec (.linkUpDeadlineExpiry i) s = .next t ∧ released t) ∧
      (sl.sup.phase = .attaching → sl.sup.attachDeadline.isSome = true →
        ∃ t, exec (.attachLinkDeadlineExpiry i) s = .next t ∧ released t)) ∧
    (sl.closing.releasePending = false →
      (sl.sup.power = true → sl.link.state = .resetting → 3 ≤ sl.timing.consecutive + 1 →
        ∃ t, exec (.linkUp i) s = .next t ∧ faulted t .resetLimit ∧ (t.slot i).link.state = .up ∧
          (t.slot i).timing = { sl.timing with consecutive := sl.timing.consecutive + 1 } ∧ t.shelf = s.shelf) ∧
      (sl.link.state = .resetting →
        ∃ t, exec (.linkUpDeadlineExpiry i) s = .next t ∧ faulted t .linkLost ∧ (t.slot i).link.state = .down ∧
          (t.slot i).timing = sl.timing) ∧
      (sl.sup.phase = .attaching → sl.sup.attachDeadline.isSome = true → sl.link.state = .down →
        ∃ t, exec (.attachLinkDeadlineExpiry i) s = .next t ∧ faulted t .linkLost ∧ (t.slot i).link.state = .down ∧
          (t.slot i).timing = sl.timing) ∧
      (sl.link.state ≠ .resetting → exec (.linkUpDeadlineExpiry i) s = .next s) ∧
      (sl.sup.phase ≠ .attaching ∨ sl.sup.attachDeadline = none →
        exec (.attachLinkDeadlineExpiry i) s = .next s))

/-! ## Carrier, latch, power and sensing -/

/-- The four line events and the end of the spin-up grace. A carrier seated and latched in EMPTY attaches: the records
take their values at attach under the shelf default recipe, power is ON, the grace and the attach link deadline start, the
link is brought up. An open latch on a powered slot begins the removal warning, a closed one ends it (R127, R129, R132,
R144). That the end of the grace brings the clock forward to it is the model's choice (log entry 2), and that an event which
changes no level has no effect is another (log entry 16). -/
def Obligations.CarrierAndLatchEvents : Prop :=
  ∀ (s : State) (i : SlotId),
    let sl := s.slot i
    let now := s.shelf.clock
    let attached : Slot := { sl with
      sup :=
        { phase := .attaching, cause := none, closed := false, carrier := true, latch := true, power := true
          warning := false, graceEnd := some (now + 15000), attachDeadline := some (now + 30000)
          nextSample := some (now + 100) }
      mon := Monitors.zero
      ident := none
      key := none
      active := s.shelf.recipe.clamp
      zmap := { region := Region.unidentified, zones := [] }
      pass := PassRecord.none
      tally := Tally.zero
      defects := { extents := [], overflow := 0, postClose := 0 }
      traffic := { sl.traffic with cmds := sl.traffic.cmds.filter fun c => c.tag.isSome }
      link := { state := .down, upDeadline := none, out := sl.link.out ++ [.bringUp] }
      timing := Timing.zero
      closing := Closing.none }
    (sl.sup.carrier = false → sl.sup.phase = .empty → sl.sup.latch = true →
      exec (.carrierInserted i) s = .next (s.setSlot i attached)) ∧
    (sl.sup.carrier = false → sl.sup.phase ≠ .empty ∨ sl.sup.latch = false →
      exec (.carrierInserted i) s = .next (s.setSlot i { sl with sup := { sl.sup with carrier := true } })) ∧
    (sl.sup.latch = false → sl.sup.phase = .empty → sl.sup.carrier = true →
      exec (.latchClosed i) s = .next (s.setSlot i attached)) ∧
    (sl.sup.latch = false → sl.sup.phase ≠ .empty ∨ sl.sup.carrier = false →
      exec (.latchClosed i) s = .next (s.setSlot i { sl with
        sup := { sl.sup with latch := true, warning := false } })) ∧
    (sl.sup.carrier = true → exec (.carrierInserted i) s = .next s) ∧
    (sl.sup.carrier = false → exec (.carrierRemoved i) s = .next s) ∧
    (sl.sup.latch = true → exec (.latchClosed i) s = .next s) ∧
    (sl.sup.latch = false → exec (.latchOpened i) s = .next s) ∧
    (sl.sup.graceEnd = none → exec (.spinUpGraceEnd i) s = .next s) ∧
    (sl.sup.latch = true →
      exec (.latchOpened i) s = .next (s.setSlot i { sl with
        sup := { sl.sup with latch := false, warning := sl.sup.warning || sl.sup.power } })) ∧
    (∀ n : Nat, sl.sup.graceEnd = some n →
      exec (.spinUpGraceEnd i) s = .next
        (({ s with shelf := { s.shelf with clock := min 281474976710655 (max now n) } } : State).setSlot i
          { sl with sup := { sl.sup with graceEnd := none } }))

/-- CARRIER_REMOVED in any phase: every command completes SLOT-DOWN in command table order, held reads included, posted
writes vanish, and every record takes its EMPTY value; the COMMAND block is kept and the recipes and the mask are those of
the shelf default recipe. The slot leaves the grading unit's list, and an abandoned computation makes room for the next
(R105, R133, R144, R157, R173, R174, R177). That the mask has TRIP and FAULT at 1 is read from R178 (log entry 25). -/
def Obligations.CarrierRemovalEmptiesTheSlot : Prop :=
  ∀ (s : State) (i : SlotId),
    let sl := s.slot i
    let empty : Slot :=
      { sup :=
          { phase := .empty, cause := none, closed := false, carrier := false, latch := sl.sup.latch, power := false
            warning := false, graceEnd := none, attachDeadline := none, nextSample := none }
        mon := Monitors.zero
        ident := none
        key := none
        pending := s.shelf.recipe
        active := s.shelf.recipe.clamp
        zmap := { region := Region.unidentified, zones := [] }
        pass := PassRecord.none
        tally := Tally.zero
        defects := { extents := [], overflow := 0, postClose := 0 }
        traffic := { cmds := [], heldTags := [], jobs := [] }
        link := { state := .down, upDeadline := none, out := sl.link.out }
        timing := Timing.zero
        closing := Closing.none
        events := { flags := 0, mask := s.shelf.recipe.mask ||| 0xC000 }
        command := sl.command }
    let rest := s.grader.queue.filter fun k => k != i
    let down := (inTagOrder sl.traffic.cmds).flatMap fun c => (c.tag.map fun u => [reply i u .slotDown]).getD []
    sl.sup.carrier = true →
      ((∀ c, s.grader.current = some c → c.slot ≠ i) →
        exec (.carrierRemoved i) s = .next (({ s with grader := { s.grader with queue := rest } } : State).setSlot i empty
          |>.say down)) ∧
      (∀ c, s.grader.current = some c → c.slot = i →
        exec (.carrierRemoved i) s = .next
          ((({ s with grader := { queue := rest, current := none } } : State).setSlot i empty).say down).startNext)

/-- A sample event on a powered slot that it does not trip: readings, live statuses, previous-sample states, excursion
counts, sticky flags and SENSE (R136 to R139). A critical sample holds a running write or read pass, adds THERMAL to a
held one, and changes nothing of one held with THERMAL already (R61, R142); in SOAK a sample inside the window adds
100 ms and may reach the target, and one outside it adds nothing (R64, R65). That the clock is brought forward to the
sample's due time is the model's choice (log entry 2). That a sample event changes nothing while the power is OFF is
another (log entry 16). -/
def Obligations.SampleFollowsTheMonitors : Prop :=
  ∀ (s : State) (i : SlotId) (current : BitVec 32) (temp : BitVec 16),
    let sl := s.slot i
    let r := sl.active
    let q := sl.mon
    let hot := overLevel r.overCode ≤ current.toNat
    let enabled := tempLevel r.lowCode < tempLevel r.highCode
    let low := enabled ∧ temp.toInt < tempLevel r.lowCode
    let high := enabled ∧ tempLevel r.highCode < temp.toInt
    let critical := tempLevel r.criticalCode ≤ temp.toInt
    let ce := hot ∧ q.overOut = false ∧ sl.sup.graceEnd = none
    let te := (low ∧ q.lowOut = false) ∨ (high ∧ q.highOut = false) ∨ (critical ∧ q.criticalOut = false)
    let mon : Monitors :=
      { current := current
        temp := temp
        currentLive := if hot then .over else .normal
        tempLive := if critical then .critical else if low then .below else if high then .above else .inWindow
        overOut := decide hot
        lowOut := decide low
        highOut := decide high
        criticalOut := decide critical
        currentCount := if ce then min 65535 (q.currentCount + 1) else q.currentCount
        tempCount := if te then min 65535 (q.tempCount + 1) else q.tempCount
        currentSticky := q.currentSticky || decide ce
        tempSticky := q.tempSticky || decide te }
    let flags := if ce ∨ te then sl.events.flags ||| 0x0200 else sl.events.flags
    let sampled : Slot := { sl with
      sup := { sl.sup with nextSample := sl.sup.nextSample.map fun n => n + 100 }
      mon := mon
      events := { sl.events with flags := flags } }
    let then' : State := { s with
      shelf := { s.shelf with
        clock := (sl.sup.nextSample.map fun n => min 281474976710655 (max s.shelf.clock n)).getD s.shelf.clock } }
    let calm := (∀ level, tripLevel r.tripCode = some level → current.toNat < level)
    (sl.sup.power = false → exec (.sampleEvent i current temp) s = .next s) ∧
    (sl.sup.power = true → calm →
      (¬critical ∨ sl.pass.kind = .none ∨ sl.pass.kind = .ship ∨ (sl.pass.state ≠ .running ∧ sl.pass.state ≠ .held) ∨
          (sl.pass.state = .held ∧ sl.pass.holdThermal = true) →
        sl.sup.phase ≠ .soak ∨ critical ∨ low ∨ high →
        exec (.sampleEvent i current temp) s = .next (then'.setSlot i sampled)) ∧
      (critical → sl.pass.kind = .write ∨ sl.pass.kind = .read → sl.pass.state = .running →
        exec (.sampleEvent i current temp) s = .next (then'.setSlot i { sampled with
          sup := { sampled.sup with phase := .held }
          pass := { sl.pass with state := .held, holdThermal := true }
          events := { sl.events with flags := flags ||| 0x0400 } })) ∧
      (critical → sl.pass.kind = .write ∨ sl.pass.kind = .read → sl.pass.state = .held → sl.pass.holdThermal = false →
        sl.sup.phase ≠ .soak →
        exec (.sampleEvent i current temp) s = .next (then'.setSlot i { sampled with
          pass := { sl.pass with holdThermal := true }
          events := { sl.events with flags := flags ||| 0x0400 } })) ∧
      (sl.sup.phase = .soak → ¬(critical ∨ low ∨ high) →
        let gained := sl.tally.soakGained + 100
        let counted : Slot := { sampled with
          tally := { sl.tally with soakMs := min 4294967295000 (sl.tally.soakMs + 100), soakGained := gained } }
        (gained < sl.tally.soakTarget * 60000 →
          exec (.sampleEvent i current temp) s = .next (then'.setSlot i counted)) ∧
        (sl.tally.soakTarget * 60000 ≤ gained →
          exec (.sampleEvent i current temp) s = .next (then'.setSlot i { counted with
            sup := { sampled.sup with phase := .ready }
            events := { sl.events with flags := flags ||| 0x0010 } }))))

/-- A sample at or above the trip level: power OFF, link DOWN, grace, attach deadline and removal warning ended,
FAULTED with cause TRIP, TRIP and FAULT raised; the readings stand as for any sample. The pass is ABORTED, each posted
write hands over a WRITE-FAIL run for its whole range and raises POST-FAIL, and every command ends with SLOT-DOWN in
command table order but held GRADE RECORD reads, which are answered GOOD (R105, R114, R126). A slot already FAULTED
takes only the new cause and the TRIP flag (R128, R141, R143). A pending release completes within the same event, with
verdict FAULT (R167). That a trip on a slot already FAULTED does not set a cleared FAULT flag again is the model's
choice (log entry 31), and so is that the pass is ABORTED, and not completed, where the drop of the posted writes brings
its outstanding count to 0 (log entry 10). -/
def Obligations.TripSwitchesThePowerOff : Prop :=
  ∀ (s : State) (i : SlotId) (current : BitVec 32) (temp : BitVec 16) (level : Nat),
    let sl := s.slot i
    let active := sl.pass.state = .running ∨ sl.pass.state = .held
    let down := (inTagOrder (sl.traffic.cmds.filter fun c => !c.posted)).flatMap fun c =>
      (c.tag.map fun u =>
        if c.state = .atResponder then [.frame i sl.gradeBlock, reply i u .good] else [reply i u .slotDown]).getD []
    let runs := (sl.traffic.cmds.filter Cmd.posted).map fun x =>
      ({ first := x.start, length := x.length, kind := .writeFail, worstB := 0, claimed := none } : Run)
    let ended := fun (t : State) =>
      let u := sl.takeRuns t.shelf.clock runs
      (t.slot i).defects = u.defects ∧ (∀ f : EventFlag, u.HasFlag f → (t.slot i).HasFlag f) ∧
      (sl.postCount ≠ 0 → (t.slot i).HasFlag .postFail) ∧
      (t.slot i).pass =
        { sl.pass with
          state := if active then .aborted else sl.pass.state
          holdHost := if active then false else sl.pass.holdHost
          holdThermal := if active then false else sl.pass.holdThermal
          failures := u.pass.failures
          outstanding := (t.slot i).pass.outstanding } ∧
      (t.slot i).traffic = { cmds := [], heldTags := [], jobs := [] } ∧ t.upstream = s.upstream ++ down
    sl.sup.power = true → tripLevel sl.active.tripCode = some level → level ≤ current.toNat →
    (sl.closing.releasePending = true → sl.sup.phase ≠ .faulted →
      ∃ t, exec (.sampleEvent i current temp) s = .next t ∧
        (t.slot i).sup.phase = .released ∧ (t.slot i).sup.cause = some .trip ∧ (t.slot i).sup.power = false ∧
        (t.slot i).closing.verdict = .fault ∧ (t.slot i).closing.releasePending = false ∧ (t.slot i).link.state = .down ∧
        (t.slot i).HasFlag .trip ∧ (t.slot i).HasFlag .fault ∧ (t.slot i).HasFlag .released ∧ ended t) ∧
    (sl.closing.releasePending = false →
    ∃ t, exec (.sampleEvent i current temp) s = .next t ∧
      (t.slot i).sup.phase = .faulted ∧ (t.slot i).sup.cause = some .trip ∧ (t.slot i).sup.power = false ∧
      (t.slot i).sup.graceEnd = none ∧ (t.slot i).sup.attachDeadline = none ∧ (t.slot i).sup.warning = false ∧
      (t.slot i).sup.nextSample = none ∧ (t.slot i).sup.closed = sl.sup.closed ∧
      (t.slot i).link.state = .down ∧ (t.slot i).link.upDeadline = none ∧
      (t.slot i).mon.current = current ∧ (t.slot i).mon.temp = temp ∧ (t.slot i).HasFlag .trip ∧
      (t.slot i).ident = sl.ident ∧ (t.slot i).key = sl.key ∧ (t.slot i).pending = sl.pending ∧
      (t.slot i).active = sl.active ∧ (t.slot i).tally = sl.tally ∧ (t.slot i).zmap = sl.zmap ∧
      (t.slot i).timing = sl.timing ∧ (t.slot i).command = sl.command ∧ (t.slot i).events.mask = sl.events.mask ∧
      (sl.sup.phase ≠ .faulted →
        (t.slot i).HasFlag .fault ∧ ended t ∧
        (t.slot i).closing =
          { sl.closing with step := if sl.closing.step = .computing then .computing else .none }) ∧
      (sl.sup.phase = .faulted →
        (t.slot i).traffic = sl.traffic ∧ (t.slot i).pass = sl.pass ∧ (t.slot i).defects = sl.defects ∧
        (t.slot i).closing = sl.closing ∧ t.upstream = s.upstream ∧
        (sl.HasFlag .fault ∨ ¬(t.slot i).HasFlag .fault)))

/-! ## Grading and release -/

/-- DRAIN_END and COMPUTATION_START, where they have something to do. The drain of a slot with no write left ends: its
request joins the list, and an idle unit starts it. The idle unit starts the head of its list: closed flag, inputs,
weights and the copy of the bin table at one event (R83, R147, R148, R149). With nothing to do they change nothing
(log entry 6). -/
def Obligations.DrainEndsAndComputationStarts : Prop :=
  ∀ (s : State) (i : SlotId) (rest : List SlotId),
    let sl := s.slot i
    let inputs : GradeInputs :=
      { capacity := (sl.ident.map Identity.capacity).getD 0
        confirmed := ((sl.defects.extents.filter fun e => e.status == .confirmed).map Extent.length).sum
        suspect := ((sl.defects.extents.filter fun e => e.status == .suspect).map Extent.length).sum
        misplaced := (sl.defects.extents.filter fun e => e.kind == .misplaced).length
        overflow := sl.defects.overflow
        tempCount := sl.mon.tempCount
        currentCount := sl.mon.currentCount
        timeouts := sl.timing.timeouts
        slow := sl.timing.slow
        soakMinutes := sl.tally.soakMs / 60000
        coverage := sl.tally.verified
        writePasses := sl.tally.writePasses
        readPasses := sl.tally.readPasses
        serial := (sl.ident.map Identity.serial).getD 0
        closedAt := s.shelf.clock / 1000 }
    let weights : Weights :=
      { wh := sl.active.wh.toNat, ws := sl.active.ws.toNat, we := sl.active.we.toNat, wt := sl.active.wt.toNat
        wl := sl.active.wl.toNat }
    let computing : Slot := { sl with
      sup := { sl.sup with closed := true }
      closing := { sl.closing with step := .computing } }
    let job : Computation := { slot := i, inputs := inputs, weights := weights, bins := s.shelf.bins }
    (sl.closing.step = .draining → (∀ c ∈ sl.traffic.cmds, c.kind ≠ .write ∨ c.state = .atResponder) →
      (s.grader.current.isSome = true →
        exec (.drainEnd i) s = .next (({ s with grader := { s.grader with queue := s.grader.queue ++ [i] } } : State).setSlot
          i { sl with closing := { sl.closing with step := .queued } })) ∧
      (s.grader = { queue := [], current := none } →
        exec (.drainEnd i) s = .next
          (({ s with grader := { queue := [], current := some job } } : State).setSlot i computing))) ∧
    (sl.closing.step ≠ .draining ∨ (∃ c ∈ sl.traffic.cmds, c.kind = .write ∧ c.state ≠ .atResponder) → exec (.drainEnd i) s = .next s) ∧
    (s.grader = { queue := i :: rest, current := none } →
      exec .computationStart s = .next
        (({ s with grader := { queue := rest, current := some job } } : State).setSlot i computing)) ∧
    (s.grader.current.isSome = true ∨ s.grader.queue = [] → exec .computationStart s = .next s)

/-- COMPUTATION_COMPLETE: score and bin by R151 to R153 from the copy, the record written, GRADE-READY raised, GRADING
becomes GRADED and any other phase stays, the held reads are answered with the record in command table order, and the
unit starts the next computation (R148, R151 to R153, R155, R156). That the event changes nothing while no computation
is under way is the model's choice (log entry 16). -/
def Obligations.ComputationWritesTheGradeRecord : Prop :=
  ∀ (s : State) (c : Computation),
    let i := c.slot
    let sl := s.slot i
    let n := c.inputs
    let w := c.weights
    let dw := w.wh * n.confirmed + w.ws * n.suspect
    let dd := if n.capacity = 0 then (if dw = 0 then 0 else 16777215) else min 16777215 (dw * 2 ^ 28 / n.capacity)
    let ep := min 16777215 (w.we * (n.tempCount + n.currentCount) + w.wt * n.timeouts + w.wl * n.slow)
    let score := min 16777215 (dd + ep)
    let fits := fun e : BinEntry =>
      e.enabled = true ∧ score ≤ e.ceiling.toNat ∧ n.misplaced ≤ e.maxMisplaced.toNat ∧
        (e.coverageRequired = true → n.coverage = true) ∧ e.minSoak.toNat ≤ n.soakMinutes
    (s.grader.current = none → exec .computationComplete s = .next s) ∧
    (s.grader.current = some c →
      ∃ bin : Nat,
        (0 < n.overflow ∨ (∀ e ∈ c.bins, ¬fits e) → bin = 0) ∧
        (n.overflow = 0 → ∀ k, (∃ e, c.bins[k]? = some e ∧ fits e) →
          (∀ m < k, ∀ e, c.bins[m]? = some e → ¬fits e) → bin = k + 1) ∧
        let g : GradeRecord := { bin := bin, score := score, inputs := n }
        exec .computationComplete s = .next
          ((({ s with grader := { s.grader with current := none } } : State).setSlot i { sl with
            sup := { sl.sup with phase := if sl.sup.phase = .grading then .graded else sl.sup.phase }
            closing := { sl.closing with grade := some g, step := .none }
            events := { sl.events with flags := sl.events.flags ||| 0x0800 }
            traffic := { sl.traffic with cmds := sl.traffic.cmds.filter fun x => x.state != .atResponder } }).say
            ((inTagOrder (sl.traffic.cmds.filter fun x => x.state == .atResponder)).flatMap fun x =>
              (x.tag.map fun u => [.frame i (1 :: g.commonWords), reply i u .good]).getD [])).startNext)

/-- RELEASE_COMPLETION where a release is pending and no data command is left: power OFF, link DOWN, RELEASED, and the
verdict from the phase: SHIPPED gives SHIP-n, or REJECT for bin 0 and for more post-close blocks than the shelf's
table allows now; GRADED gives UNSHIPPED-n; FAULTED gives FAULT. Then the bin indicator shows it; in every phase it
shows the value of R169 (R166, R168, R169). Otherwise nothing changes (log entry 6). That the release leaves the spin-up
grace running is read from R129, which lists what ends it (log entry 24). -/
def Obligations.ReleaseCompletionFixesTheVerdict : Prop :=
  ∀ (s : State) (i : SlotId),
    let sl := s.slot i
    let bin := (sl.closing.grade.map GradeRecord.bin).getD 0
    let entry := s.shelf.bins.getD (bin - 1) BinEntry.disabled
    let released := fun v : Verdict => ({ sl with
      sup := { sl.sup with phase := .released, power := false, warning := false, nextSample := none }
      link := { sl.link with state := .down, upDeadline := none }
      closing := { sl.closing with releasePending := false, verdict := v }
      events := { sl.events with flags := sl.events.flags ||| 0x2000 } } : Slot)
    let becomes := fun (v : Verdict) (shown : Nat) =>
      exec (.releaseCompletion i) s = .next (s.setSlot i (released v)) ∧ (released v).indicator = shown
    (sl.closing.releasePending = true → (∀ c ∈ sl.traffic.cmds, c.state = .atResponder) →
      (sl.sup.phase = .graded → becomes (.unshipped bin) 13) ∧
      (sl.sup.phase = .faulted → becomes .fault 11) ∧
      (sl.sup.phase = .shipped → bin = 0 ∨ entry.allowance.toNat < sl.defects.postClose → becomes (.reject bin) 10) ∧
      (sl.sup.phase = .shipped → bin ≠ 0 → sl.defects.postClose ≤ entry.allowance.toNat → becomes (.ship bin) bin)) ∧
    (sl.closing.releasePending = false ∨ (∃ c ∈ sl.traffic.cmds, c.state ≠ .atResponder) →
      exec (.releaseCompletion i) s = .next s) ∧
    (∀ q : Slot,
      (q.sup.phase = .empty → q.indicator = 0) ∧
      (q.sup.phase ∈ [.attaching, .ready, .running, .held, .soak] → q.indicator = 9) ∧
      (q.sup.phase ∈ [.grading, .graded, .shipping, .shipped] → q.indicator = 12) ∧
      (q.sup.phase = .faulted → q.indicator = 11) ∧
      (q.sup.phase = .released →
        (∀ n, q.closing.verdict = .ship n → q.indicator = n) ∧ (∀ n, q.closing.verdict = .reject n → q.indicator = 10) ∧
        (q.closing.verdict = .fault → q.indicator = 11) ∧ (∀ n, q.closing.verdict = .unshipped n → q.indicator = 13)))

/-- SHELF_RESET: the clock at 0, the engine's last-granted slot 7, the grading unit idle, the port empty; the shelf block
from the option record when word 0 holds the marker, and the built-in values otherwise; every slot at its EMPTY values
under that default recipe with its lines as read, and a latched carrier attaching (R22, R127, R144, R181, R182). What was
sent before stays sent (log entry 13), and the mask has TRIP and FAULT at 1 (log entry 25). -/
def Obligations.ShelfResetStartsThePartAgain : Prop :=
  ∀ (s : State) (lines : List Lines) (memory : Option Block),
    ∃ t, exec (.shelfReset lines memory) s = .next t ∧
      t.shelf.clock = 0 ∧ t.engineLast = 7 ∧ t.grader = { queue := [], current := none } ∧ t.port = none ∧
      t.upstream = s.upstream ∧ t.pending = s.pending ∧
      (∀ b, memory = some b → b.getD 0 0 = 0x7E5A0C31 →
        t.shelf.loaded = true ∧ t.shelf.number = (b.getD 1 0).extractLsb' 0 8 ∧ t.shelf.recipe = Recipe.ofBlock b 16 ∧
        t.shelf.bins = [32, 36, 40, 44, 48, 52, 56, 60].map (BinEntry.ofBlock b)) ∧
      ((∀ b, memory = some b → b.getD 0 0 ≠ 0x7E5A0C31) →
        t.shelf = { number := 0, loaded := false, clock := 0, recipe := Recipe.builtin, bins := builtinBins }) ∧
      ∀ i : SlotId,
        let l := lines.getD i.val { carrier := false, latch := false }
        let base : Slot := { Slot.reset with
          sup := Supervisor.empty l
          pending := t.shelf.recipe
          active := t.shelf.recipe.clamp
          events := { flags := 0, mask := t.shelf.recipe.mask ||| 0xC000 }
          link := { state := .down, upDeadline := none, out := (s.slot i).link.out } }
        (l.carrier = false ∨ l.latch = false → t.slot i = base) ∧
        (l.carrier = true → l.latch = true →
          t.slot i = { base with
            sup := { Supervisor.empty l with
              phase := .attaching, power := true, graceEnd := some 15000, attachDeadline := some 30000
              nextSample := some 100 }
            link := { base.link with out := (s.slot i).link.out ++ [.bringUp] } })

/-! ## The pattern, the runs and the defect table -/

/-- A block stamped for its address reads back as it should: under the expected epoch GOOD; under the zone's other
recorded epoch, where that is no candidate, STALE; stamped for another address, MISPLACED with that address; and an
all-zero block GOOD where the wipe block is expected. Then the rules one by one: the key is the XOR of the serial's five
words and the seed; a normal stamp block is its two identification words and 1022 body words of the generator, whose
state is never 0, complemented in an odd epoch under ALTERNATE; the wipe block is zeros; the candidates of a block are
those of the zone's table; and a returned block is classed against them by the cases (a) to (e) in their order (R1, R2,
R3, R4, R5, R8, R9, R10, R27). -/
def Obligations.StampedBlocksClassAsWritten : Prop :=
  (∀ (K : Word) (alternate : Bool) (z : Zone) (L M k e p : Nat), L < 2 ^ 48 → M < 2 ^ 48 → M ≠ L →
    z.current = e → z.previous = p → z.state = .ordered → k < z.wf → 1 ≤ e →
    (e ≤ 65534 →
      classifyWith K alternate z (z.expected k) L (stampBlock K alternate e L) = .good ∧
      classifyWith K alternate z (z.expected k) L (stampBlock K alternate e M) = .misplaced M ∧
      (1 ≤ p → p ≤ 65534 → p ≠ e →
        classifyWith K alternate z (z.expected k) L (stampBlock K alternate p L) = .stale)) ∧
    (e = 65535 → classifyWith K alternate z (z.expected k) L (stampBlock K alternate e L) = .good)) ∧
  (∀ (serial : BitVec 160) (seed : Word),
    keyOf serial seed =
      serial.extractLsb' 0 32 ^^^ serial.extractLsb' 32 32 ^^^ serial.extractLsb' 64 32 ^^^ serial.extractLsb' 96 32
        ^^^ serial.extractLsb' 128 32 ^^^ seed) ∧
  (∀ (K : Word) (alternate : Bool) (e L : Nat), L < 2 ^ 48 →
    (1 ≤ e → e ≤ 65534 →
      let low := BitVec.ofNat 32 L
      let high := BitVec.ofNat 32 (L / 2 ^ 32 * 65536)
      let start := K ^^^ low ^^^ high ^^^ BitVec.ofNat 32 e
      ∃ x : Nat → Word, x 0 = (if start = 0 then 1 else start) ∧
        (∀ n, ∃ a b : Word, a = x n ^^^ (x n * 8192) ∧ b = a ^^^ (a / 131072) ∧ x (n + 1) = b ^^^ (b * 32)) ∧
        (∀ n, x n ≠ 0) ∧
        stampBlock K alternate e L =
          low :: BitVec.ofNat 32 (L / 2 ^ 32 * 65536 + e) ::
            (List.range 1022).map fun n => if alternate = true ∧ e % 2 = 1 then ~~~x (n + 1) else x (n + 1)) ∧
    stampBlock K alternate 65535 L = List.replicate 1024 0) ∧
  (∀ (z : Zone) (k : Nat),
    (z.state = .blank ∨ z.state = .untracked → z.expected k = []) ∧
    (z.state = .ordered →
      z.expected k = if k < z.wf then [z.current] else if z.previous = 0 then [] else [z.previous]) ∧
    (z.state = .mixed →
      z.expected k = if k < z.wf ∨ z.previous = 0 then [z.current] else [z.current, z.previous])) ∧
  (∀ (K : Word) (alternate : Bool) (z : Zone) (cs : List Nat) (L : Nat) (b : Block), L < 2 ^ 48 →
    (∀ c ∈ cs, 1 ≤ c ∧ c ≤ 65535) →
    let w := fun n : Nat => b.getD n 0
    let claimed := (w 1).toNat / 65536 * 2 ^ 32 + (w 0).toNat
    let field := (w 1).toNat % 65536
    let recorded := 1 ≤ field ∧ field ≤ 65534 ∧ (field = z.current ∨ field = z.previous)
    let isMatch := fun c : Nat =>
      (c = 65535 ∧ ∀ n < 1024, w n = 0) ∨ (c ≠ 65535 ∧ claimed = L ∧ field = c)
    let bad := fun c : Nat =>
      ((List.range 1022).filter fun n => w (n + 2) != (stampBlock K alternate c L).getD (n + 2) 0).length
    let counted := fun n : Nat => if n = 0 then BlockClass.good else .miscompare n
    let classed := classifyWith K alternate z cs L b
    (cs = [] → classed = .unverified) ∧
    (cs = [65535] → classed = counted ((List.range 1024).filter fun n => w n != 0).length) ∧
    (cs ≠ [] → cs ≠ [65535] →
      (∀ c ∈ cs, isMatch c → classed = counted (if c = 65535 then 0 else bad c)) ∧
      ((∀ c ∈ cs, ¬isMatch c) →
        (claimed = L → recorded → field ∉ cs → classed = .stale) ∧
        (claimed ≠ L → recorded → classed = .misplaced claimed) ∧
        (¬recorded → ∀ (c : Nat) (more : List Nat), cs = c :: more → classed = .miscompare (2 + bad c)))))

/-- The failure runs of a read: they stand in ascending order, none adjoins another of its kind, and a block lies in a run
of a kind exactly when it is classed with that kind (R16). -/
def Obligations.FailureRunsAreMaximal : Prop :=
  ∀ (L : Nat) (cs : List BlockClass),
    (failureRuns L cs).Pairwise (fun r q => r.stop < q.first ∨ (r.stop = q.first ∧ r.kind ≠ q.kind)) ∧
    (∀ r ∈ failureRuns L cs, 1 ≤ r.length ∧ L ≤ r.first ∧ r.stop ≤ L + cs.length) ∧
    ∀ (k : Nat) (f : FailKind),
      (∃ r ∈ failureRuns L cs, r.kind = f ∧ r.first ≤ L + k ∧ L + k < r.stop) ↔ (cs[k]?.bind BlockClass.failKind) = some f

/-- A run taken by an unfrozen table leaves it in order, disjoint and within 512 extents of at most 65535 blocks; every
block that was recorded stays recorded; with nothing lost, a block is recorded afterwards exactly when it was or the run
covers it; and blocks are lost only for want of room (R66, R67, R69, R76). Then the rules one by one. Gap parts are the
blocks of the run in no extent, as maximal ranges in ascending order; each overlapped extent is hit (R70, R71) before the
gap parts are recorded; DEFECT and TABLE-FULL are raised by R75 and R76; a pass that runs or is held counts the run's
length as failures (R55); a frozen table counts it post-close and changes nothing else (R79, R80). One gap part is recorded
by the first case of R72 that applies, with the fields of R73 or R74. Several runs are taken one after the other (R68).
Good coverage clears the SUSPECT extents inside one of its ranges, and nothing in a frozen table (R77). -/
def Obligations.RunInsertionKeepsTheTable : Prop :=
  (∀ (es : List Extent) (r : Run) (serial t : Nat),
    let x := insertRun r serial t es
    let holds := fun (l : List Extent) (b : Nat) => ∃ e ∈ l, e.start ≤ b ∧ b < e.stop
    ExtentsWF es → (∀ e ∈ es, e.length ≤ 65535) → 1 ≤ r.length → r.length ≤ 256 →
      ExtentsWF x.extents ∧ (∀ e ∈ x.extents, e.length ≤ 65535) ∧
      (∀ b, holds es b → holds x.extents b) ∧
      (∀ b, holds x.extents b → holds es b ∨ (r.first ≤ b ∧ b < r.stop)) ∧
      (x.lost = 0 → ∀ b, r.first ≤ b → b < r.stop → holds x.extents b) ∧
      (x.lost ≠ 0 → 512 ≤ es.length + r.length) ∧ x.lost ≤ r.length) ∧
  (∀ (es : List Extent) (lo hi : Nat), orderedExtents es →
    (gapParts lo hi es).Pairwise (fun p q => p.2 < q.1) ∧
    (∀ p ∈ gapParts lo hi es, lo ≤ p.1 ∧ p.1 < p.2 ∧ p.2 ≤ hi) ∧
    ∀ b, (∃ p ∈ gapParts lo hi es, p.1 ≤ b ∧ b < p.2) ↔
      lo ≤ b ∧ b < hi ∧ ∀ e ∈ es, ¬(e.start ≤ b ∧ b < e.start + e.length)) ∧
  (∀ (sl : Slot) (now : Nat) (r : Run),
    let es := sl.defects.extents
    let sure := r.kind = .media ∨ r.kind = .misplaced ∨ r.kind = .writeFail ∨ (r.kind = .miscompare ∧ 8 < r.worstB)
    let severity := fun k : FailKind =>
      [FailKind.miscompare, .stale, .timeout, .writeFail, .media, .misplaced].idxOf k
    let meets := fun e : Extent => e.start < r.first + r.length ∧ r.first < e.start + e.length
    let hit := fun e : Extent =>
      { e with
        hits := min 255 (e.hits + 1)
        kind := if severity e.kind < severity r.kind then r.kind else e.kind
        worstB := max e.worstB r.worstB
        claimed := if e.kind ≠ .misplaced ∧ r.kind = .misplaced then r.claimed else e.claimed
        lastSerial := sl.tally.serials
        lastTime := now / 1000
        status :=
          if e.status = .suspect ∧ sl.tally.serials = e.lastSerial ∧ ¬sure then .suspect else .confirmed }
    let x := (gapParts r.first (r.first + r.length) es).foldl (recordGap r sl.tally.serials (now / 1000))
      { extents := es.map fun e => if meets e then hit e else e, lost := 0, recorded := false }
    let defect := x.recorded = true ∨ ∃ e ∈ es, meets e ∧ e.status ≠ .confirmed ∧ (hit e).status = .confirmed
    let pass :=
      if sl.pass.state = .running ∨ sl.pass.state = .held then
        { sl.pass with failures := min 4294967295 (sl.pass.failures + r.length) }
      else sl.pass
    (sl.sup.closed = true →
      sl.takeRun now r = { sl with
        defects := { sl.defects with postClose := min 4294967295 (sl.defects.postClose + r.length) }, pass := pass }) ∧
    (sl.sup.closed = false →
      sl.takeRun now r = { sl with
        defects :=
          { sl.defects with extents := x.extents, overflow := min 281474976710655 (sl.defects.overflow + x.lost) }
        pass := pass
        events :=
          { sl.events with
            flags :=
              let f := if defect then sl.events.flags ||| 0x0020 else sl.events.flags
              if x.lost = 0 then f else f ||| 0x0040 } })) ∧
  (∀ (x : Taking) (r : Run) (s t g h : Nat), orderedExtents x.extents → g < h →
    (∀ e ∈ x.extents, e.start + e.length ≤ g ∨ h ≤ e.start) →
    let part : Extent :=
      { start := g, length := h - g, kind := r.kind
        status :=
          if r.kind = .media ∨ r.kind = .misplaced ∨ r.kind = .writeFail ∨ (r.kind = .miscompare ∧ 8 < r.worstB) then
            .confirmed
          else .suspect
        firstSerial := s, firstTime := t, lastSerial := s, lastTime := t, hits := 1, worstB := r.worstB
        claimed := if r.kind = .misplaced then r.claimed else none }
    let joined := fun (neighbour : Extent) (parts : List Extent) (at_ : Nat) =>
      let first := parts.find? fun p => parts.all fun q => p.firstTime ≤ q.firstTime
      ({ start := at_, length := (parts.map Extent.length).sum, kind := r.kind
         status := if ∃ p ∈ parts, p.status = .confirmed then .confirmed else .suspect
         firstSerial := (first.map Extent.firstSerial).getD 0, firstTime := (first.map Extent.firstTime).getD 0
         lastSerial := s, lastTime := t
         hits := (parts.map Extent.hits).foldl max 0, worstB := (parts.map Extent.worstB).foldl max 0
         claimed := neighbour.claimed } : Extent)
    let left := fun l : Extent => l.start + l.length = g ∧ l.kind = r.kind ∧ l.status ≠ .cleared
    let right := fun e : Extent => e.start = h ∧ e.kind = r.kind ∧ e.status ≠ .cleared
    let becomes := fun es : List Extent =>
      recordGap r s t x (g, h) = { extents := es, lost := x.lost, recorded := true }
    (∀ (pre post : List Extent) (l e : Extent), x.extents = pre ++ l :: e :: post → left l → right e →
      l.length + (h - g) + e.length ≤ 65535 → becomes (pre ++ joined l [l, part, e] l.start :: post)) ∧
    (∀ (pre post : List Extent) (l : Extent), x.extents = pre ++ l :: post → left l → l.length + (h - g) ≤ 65535 →
      (∀ e ∈ post, right e → 65535 < l.length + (h - g) + e.length) →
      becomes (pre ++ joined l [l, part] l.start :: post)) ∧
    (∀ (pre post : List Extent) (e : Extent), x.extents = pre ++ e :: post → right e → (h - g) + e.length ≤ 65535 →
      (∀ l ∈ pre, left l → 65535 < l.length + (h - g)) →
      becomes (pre ++ joined e [part, e] g :: post)) ∧
    ((∀ l ∈ x.extents, left l → 65535 < l.length + (h - g)) →
      (∀ e ∈ x.extents, right e → 65535 < (h - g) + e.length) →
      (x.extents.length < 512 → ∀ pre post : List Extent, x.extents = pre ++ post → (∀ e ∈ pre, e.start < g) →
        (∀ e ∈ post, g ≤ e.start) → becomes (pre ++ part :: post)) ∧
      (512 ≤ x.extents.length → recordGap r s t x (g, h) = { x with lost := x.lost + (h - g) }))) ∧
  (∀ (sl : Slot) (now : Nat) (r : Run) (rs : List Run),
    sl.takeRuns now [] = sl ∧ sl.takeRuns now (r :: rs) = (sl.takeRun now r).takeRuns now rs) ∧
  (∀ (sl : Slot) (ranges : List (Nat × Nat)),
    (sl.sup.closed = true → sl.takeCoverage ranges = sl) ∧
    (sl.sup.closed = false →
      sl.takeCoverage ranges = { sl with
        defects := { sl.defects with
          extents := sl.defects.extents.map fun e =>
            if e.status = .suspect ∧ ∃ q ∈ ranges, q.1 ≤ e.start ∧ e.start + e.length ≤ q.1 + q.2 then
              { e with status := .cleared }
            else e } }))

/-- Pass control's test: a running pass ends when remaining and outstanding are both 0, and not before. A write pass
completes with write-covered set, a read pass with verified-coverage set while write-covered is; an endless read pass
counts a lap and starts again with every RF at 0 (R56, R57, R59, R60). A ship pass completes with PASS-DONE and counts
nothing, and the slot is then SHIPPED, with SHIP-DONE, when no ship record block exists or the ship record is WRITTEN
(R159, R163). -/
def Obligations.PassEndsWhenBothCountsAreZero : Prop :=
  ∀ sl : Slot,
    let p := sl.pass
    let t := sl.tally
    let reads : Tally := { t with
      readPasses := min 65535 (t.readPasses + 1), verified := t.verified || t.writeCovered }
    (p.state ≠ .running ∨ p.remaining ≠ 0 ∨ p.outstanding ≠ 0 → sl.testPass = sl) ∧
    (p.state = .running → p.remaining = 0 → p.outstanding = 0 →
      (p.kind = .write → sl.testPass = { sl with
        sup := { sl.sup with phase := .ready }
        pass := { p with state := .complete }
        tally := { t with writePasses := min 65535 (t.writePasses + 1), writeCovered := true }
        events := { sl.events with flags := sl.events.flags ||| 0x0002 } }) ∧
      (p.kind = .ship →
        (sl.sup.phase = .shipping → sl.hasShipBlock = false ∨ sl.closing.shipWritten = true → sl.testPass = { sl with
          sup := { sl.sup with phase := .shipped }
          pass := { p with state := .complete }
          events := { sl.events with flags := sl.events.flags ||| 0x0002 ||| 0x1000 } }) ∧
        (sl.sup.phase ≠ .shipping ∨ (sl.hasShipBlock = true ∧ sl.closing.shipWritten = false) → sl.testPass = { sl with
          pass := { p with state := .complete }
          events := { sl.events with flags := sl.events.flags ||| 0x0002 } })) ∧
      (p.kind = .read → p.endless = false → sl.testPass = { sl with
        sup := { sl.sup with phase := .ready }
        pass := { p with state := .complete }
        tally := reads
        events := { sl.events with flags := sl.events.flags ||| 0x0002 } }) ∧
      (p.kind = .read → p.endless = true → sl.testPass = { sl with
        pass := { p with laps := min 4294967295 (p.laps + 1), remaining := sl.zmap.region.blocks }
        tally := reads
        zmap := { sl.zmap with zones := sl.zmap.zones.map fun z => { z with rf := 0 } }
        events := { sl.events with flags := sl.events.flags ||| 0x0004 } }))

/-! ## What every command keeps -/

/-- The part right after reset meets every invariant below. The line levels and the default recipe that reset shows
are the model's choice (log entry 5). -/
def Obligations.ResetMeetsTheInvariants : Prop :=
  State.reset.MasksOn ∧ State.reset.TablesWF ∧ State.reset.TrafficWF ∧ State.reset.Lifecycle ∧ State.reset.MapsWF ∧
    State.reset.PassesCounted ∧ State.reset.PassCommandsCounted ∧ State.reset.OneBurst

/-- Every step keeps the mask bits of TRIP and FAULT at 1 (R177, R178). That a mask taken from the shelf default recipe
has them at 1 is read from R178 (log entry 25). -/
def Obligations.MasksStayOn : Prop :=
  ∀ s t : State, s.MasksOn → step s = .next t → t.MasksOn

/-- Every step keeps every defect table in ascending order, disjoint and within 512 extents, and its post-close count at 0
until the slot is closed (R67, R71, R80). -/
def Obligations.TablesStayOrdered : Prop :=
  ∀ s t : State, s.TablesWF → step s = .next t → t.TablesWF

/-- Every step keeps the upstream tags and the drive tags of a slot's commands apart, and never lets two commands that
share a block, one of them a write, be at the drive together (R85, R96, R98). -/
def Obligations.OverlappingWritesNeverMeetAtTheDrive : Prop :=
  ∀ s t : State, s.TrafficWF → step s = .next t → t.TrafficWF

/-- Every step keeps phase, pass record, power, link, grading step, grade record, release and verdict together, and the
grading unit's list with the slots that wait in it (R43, R126, R128, R133, R143, R148, R150, R155, R165, R168). -/
def Obligations.LifecycleIsKept : Prop :=
  ∀ s t : State, s.Lifecycle → step s = .next t → t.Lifecycle

/-- Every step keeps the zone map the one of the derived region with its frontiers inside their zones, and a running or
held pass's remaining count equal to N less the sum of its frontiers (R1, R23, R26, R38, R45, R54). -/
def Obligations.MapsAndRemainingAreKept : Prop :=
  ∀ s t : State, s.Lifecycle → s.MapsWF → s.PassesCounted → step s = .next t → t.MapsWF ∧ t.PassesCounted

/-- Every step keeps the outstanding count of a pass equal to the number of commands that carry its serial (R52, R53). -/
def Obligations.OutstandingCountsThePassCommands : Prop :=
  ∀ s t : State, s.Lifecycle → s.TrafficWF → s.PassCommandsCounted → step s = .next t → t.PassCommandsCounted

/-- Every step keeps at most one burst under way, of the oldest job of its slot and within the job (R20, R21). -/
def Obligations.EngineWorksOneBurst : Prop :=
  ∀ s t : State, s.OneBurst → step s = .next t → t.OneBurst

/-- From the start of its computation until its carrier is removed or the shelf resets, a slot's extents, overflow count,
active recipe and coverage flags do not change, it stays closed, and its grade record, once written, does not change (R59,
R79, R150, R155). -/
def Obligations.ClosedSlotKeepsItsGrade : Prop :=
  ∀ (c : Instr) (s t : State) (i : SlotId), s.Lifecycle → (s.slot i).sup.closed = true → exec c s = .next t →
    c ≠ .carrierRemoved i → (∀ lines memory, c ≠ .shelfReset lines memory) →
      (t.slot i).sup.closed = true ∧ (t.slot i).defects.extents = (s.slot i).defects.extents ∧
      (t.slot i).defects.overflow = (s.slot i).defects.overflow ∧ (t.slot i).active = (s.slot i).active ∧
      (t.slot i).tally.writeCovered = (s.slot i).tally.writeCovered ∧
      (t.slot i).tally.verified = (s.slot i).tally.verified ∧
      ∀ g, (s.slot i).closing.grade = some g → (t.slot i).closing.grade = some g

end Statements
end

