-- ==== Sys2Proof/Laws/State.lean ====
section
/-! SUPPORT. One lemma per field per update of a slot and of the part, so that no later proof unfolds a record update. -/

namespace Sys2Proof.Machine

/-! ## Records of a slot -/

@[simp] theorem Slot.modSup_sup (f : Supervisor → Supervisor) (sl : Slot) : (sl.modSup f).sup = f sl.sup := rfl
@[simp] theorem Slot.modSup_mon (f : Supervisor → Supervisor) (sl : Slot) : (sl.modSup f).mon = sl.mon := rfl
@[simp] theorem Slot.modSup_ident (f : Supervisor → Supervisor) (sl : Slot) : (sl.modSup f).ident = sl.ident := rfl
@[simp] theorem Slot.modSup_key (f : Supervisor → Supervisor) (sl : Slot) : (sl.modSup f).key = sl.key := rfl
@[simp] theorem Slot.modSup_pending (f : Supervisor → Supervisor) (sl : Slot) : (sl.modSup f).pending = sl.pending := rfl
@[simp] theorem Slot.modSup_active (f : Supervisor → Supervisor) (sl : Slot) : (sl.modSup f).active = sl.active := rfl
@[simp] theorem Slot.modSup_zmap (f : Supervisor → Supervisor) (sl : Slot) : (sl.modSup f).zmap = sl.zmap := rfl
@[simp] theorem Slot.modSup_pass (f : Supervisor → Supervisor) (sl : Slot) : (sl.modSup f).pass = sl.pass := rfl
@[simp] theorem Slot.modSup_tally (f : Supervisor → Supervisor) (sl : Slot) : (sl.modSup f).tally = sl.tally := rfl
@[simp] theorem Slot.modSup_defects (f : Supervisor → Supervisor) (sl : Slot) : (sl.modSup f).defects = sl.defects := rfl
@[simp] theorem Slot.modSup_traffic (f : Supervisor → Supervisor) (sl : Slot) : (sl.modSup f).traffic = sl.traffic := rfl
@[simp] theorem Slot.modSup_link (f : Supervisor → Supervisor) (sl : Slot) : (sl.modSup f).link = sl.link := rfl
@[simp] theorem Slot.modSup_timing (f : Supervisor → Supervisor) (sl : Slot) : (sl.modSup f).timing = sl.timing := rfl
@[simp] theorem Slot.modSup_closing (f : Supervisor → Supervisor) (sl : Slot) : (sl.modSup f).closing = sl.closing := rfl
@[simp] theorem Slot.modSup_events (f : Supervisor → Supervisor) (sl : Slot) : (sl.modSup f).events = sl.events := rfl
@[simp] theorem Slot.modSup_command (f : Supervisor → Supervisor) (sl : Slot) : (sl.modSup f).command = sl.command := rfl

@[simp] theorem Slot.modMon_sup (f : Monitors → Monitors) (sl : Slot) : (sl.modMon f).sup = sl.sup := rfl
@[simp] theorem Slot.modMon_mon (f : Monitors → Monitors) (sl : Slot) : (sl.modMon f).mon = f sl.mon := rfl
@[simp] theorem Slot.modMon_ident (f : Monitors → Monitors) (sl : Slot) : (sl.modMon f).ident = sl.ident := rfl
@[simp] theorem Slot.modMon_key (f : Monitors → Monitors) (sl : Slot) : (sl.modMon f).key = sl.key := rfl
@[simp] theorem Slot.modMon_pending (f : Monitors → Monitors) (sl : Slot) : (sl.modMon f).pending = sl.pending := rfl
@[simp] theorem Slot.modMon_active (f : Monitors → Monitors) (sl : Slot) : (sl.modMon f).active = sl.active := rfl
@[simp] theorem Slot.modMon_zmap (f : Monitors → Monitors) (sl : Slot) : (sl.modMon f).zmap = sl.zmap := rfl
@[simp] theorem Slot.modMon_pass (f : Monitors → Monitors) (sl : Slot) : (sl.modMon f).pass = sl.pass := rfl
@[simp] theorem Slot.modMon_tally (f : Monitors → Monitors) (sl : Slot) : (sl.modMon f).tally = sl.tally := rfl
@[simp] theorem Slot.modMon_defects (f : Monitors → Monitors) (sl : Slot) : (sl.modMon f).defects = sl.defects := rfl
@[simp] theorem Slot.modMon_traffic (f : Monitors → Monitors) (sl : Slot) : (sl.modMon f).traffic = sl.traffic := rfl
@[simp] theorem Slot.modMon_link (f : Monitors → Monitors) (sl : Slot) : (sl.modMon f).link = sl.link := rfl
@[simp] theorem Slot.modMon_timing (f : Monitors → Monitors) (sl : Slot) : (sl.modMon f).timing = sl.timing := rfl
@[simp] theorem Slot.modMon_closing (f : Monitors → Monitors) (sl : Slot) : (sl.modMon f).closing = sl.closing := rfl
@[simp] theorem Slot.modMon_events (f : Monitors → Monitors) (sl : Slot) : (sl.modMon f).events = sl.events := rfl
@[simp] theorem Slot.modMon_command (f : Monitors → Monitors) (sl : Slot) : (sl.modMon f).command = sl.command := rfl

@[simp] theorem Slot.modZmap_sup (f : ZoneMap → ZoneMap) (sl : Slot) : (sl.modZmap f).sup = sl.sup := rfl
@[simp] theorem Slot.modZmap_mon (f : ZoneMap → ZoneMap) (sl : Slot) : (sl.modZmap f).mon = sl.mon := rfl
@[simp] theorem Slot.modZmap_ident (f : ZoneMap → ZoneMap) (sl : Slot) : (sl.modZmap f).ident = sl.ident := rfl
@[simp] theorem Slot.modZmap_key (f : ZoneMap → ZoneMap) (sl : Slot) : (sl.modZmap f).key = sl.key := rfl
@[simp] theorem Slot.modZmap_pending (f : ZoneMap → ZoneMap) (sl : Slot) : (sl.modZmap f).pending = sl.pending := rfl
@[simp] theorem Slot.modZmap_active (f : ZoneMap → ZoneMap) (sl : Slot) : (sl.modZmap f).active = sl.active := rfl
@[simp] theorem Slot.modZmap_zmap (f : ZoneMap → ZoneMap) (sl : Slot) : (sl.modZmap f).zmap = f sl.zmap := rfl
@[simp] theorem Slot.modZmap_pass (f : ZoneMap → ZoneMap) (sl : Slot) : (sl.modZmap f).pass = sl.pass := rfl
@[simp] theorem Slot.modZmap_tally (f : ZoneMap → ZoneMap) (sl : Slot) : (sl.modZmap f).tally = sl.tally := rfl
@[simp] theorem Slot.modZmap_defects (f : ZoneMap → ZoneMap) (sl : Slot) : (sl.modZmap f).defects = sl.defects := rfl
@[simp] theorem Slot.modZmap_traffic (f : ZoneMap → ZoneMap) (sl : Slot) : (sl.modZmap f).traffic = sl.traffic := rfl
@[simp] theorem Slot.modZmap_link (f : ZoneMap → ZoneMap) (sl : Slot) : (sl.modZmap f).link = sl.link := rfl
@[simp] theorem Slot.modZmap_timing (f : ZoneMap → ZoneMap) (sl : Slot) : (sl.modZmap f).timing = sl.timing := rfl
@[simp] theorem Slot.modZmap_closing (f : ZoneMap → ZoneMap) (sl : Slot) : (sl.modZmap f).closing = sl.closing := rfl
@[simp] theorem Slot.modZmap_events (f : ZoneMap → ZoneMap) (sl : Slot) : (sl.modZmap f).events = sl.events := rfl
@[simp] theorem Slot.modZmap_command (f : ZoneMap → ZoneMap) (sl : Slot) : (sl.modZmap f).command = sl.command := rfl

@[simp] theorem Slot.modPass_sup (f : PassRecord → PassRecord) (sl : Slot) : (sl.modPass f).sup = sl.sup := rfl
@[simp] theorem Slot.modPass_mon (f : PassRecord → PassRecord) (sl : Slot) : (sl.modPass f).mon = sl.mon := rfl
@[simp] theorem Slot.modPass_ident (f : PassRecord → PassRecord) (sl : Slot) : (sl.modPass f).ident = sl.ident := rfl
@[simp] theorem Slot.modPass_key (f : PassRecord → PassRecord) (sl : Slot) : (sl.modPass f).key = sl.key := rfl
@[simp] theorem Slot.modPass_pending (f : PassRecord → PassRecord) (sl : Slot) : (sl.modPass f).pending = sl.pending := rfl
@[simp] theorem Slot.modPass_active (f : PassRecord → PassRecord) (sl : Slot) : (sl.modPass f).active = sl.active := rfl
@[simp] theorem Slot.modPass_zmap (f : PassRecord → PassRecord) (sl : Slot) : (sl.modPass f).zmap = sl.zmap := rfl
@[simp] theorem Slot.modPass_pass (f : PassRecord → PassRecord) (sl : Slot) : (sl.modPass f).pass = f sl.pass := rfl
@[simp] theorem Slot.modPass_tally (f : PassRecord → PassRecord) (sl : Slot) : (sl.modPass f).tally = sl.tally := rfl
@[simp] theorem Slot.modPass_defects (f : PassRecord → PassRecord) (sl : Slot) : (sl.modPass f).defects = sl.defects := rfl
@[simp] theorem Slot.modPass_traffic (f : PassRecord → PassRecord) (sl : Slot) : (sl.modPass f).traffic = sl.traffic := rfl
@[simp] theorem Slot.modPass_link (f : PassRecord → PassRecord) (sl : Slot) : (sl.modPass f).link = sl.link := rfl
@[simp] theorem Slot.modPass_timing (f : PassRecord → PassRecord) (sl : Slot) : (sl.modPass f).timing = sl.timing := rfl
@[simp] theorem Slot.modPass_closing (f : PassRecord → PassRecord) (sl : Slot) : (sl.modPass f).closing = sl.closing := rfl
@[simp] theorem Slot.modPass_events (f : PassRecord → PassRecord) (sl : Slot) : (sl.modPass f).events = sl.events := rfl
@[simp] theorem Slot.modPass_command (f : PassRecord → PassRecord) (sl : Slot) : (sl.modPass f).command = sl.command := rfl

@[simp] theorem Slot.modTally_sup (f : Tally → Tally) (sl : Slot) : (sl.modTally f).sup = sl.sup := rfl
@[simp] theorem Slot.modTally_mon (f : Tally → Tally) (sl : Slot) : (sl.modTally f).mon = sl.mon := rfl
@[simp] theorem Slot.modTally_ident (f : Tally → Tally) (sl : Slot) : (sl.modTally f).ident = sl.ident := rfl
@[simp] theorem Slot.modTally_key (f : Tally → Tally) (sl : Slot) : (sl.modTally f).key = sl.key := rfl
@[simp] theorem Slot.modTally_pending (f : Tally → Tally) (sl : Slot) : (sl.modTally f).pending = sl.pending := rfl
@[simp] theorem Slot.modTally_active (f : Tally → Tally) (sl : Slot) : (sl.modTally f).active = sl.active := rfl
@[simp] theorem Slot.modTally_zmap (f : Tally → Tally) (sl : Slot) : (sl.modTally f).zmap = sl.zmap := rfl
@[simp] theorem Slot.modTally_pass (f : Tally → Tally) (sl : Slot) : (sl.modTally f).pass = sl.pass := rfl
@[simp] theorem Slot.modTally_tally (f : Tally → Tally) (sl : Slot) : (sl.modTally f).tally = f sl.tally := rfl
@[simp] theorem Slot.modTally_defects (f : Tally → Tally) (sl : Slot) : (sl.modTally f).defects = sl.defects := rfl
@[simp] theorem Slot.modTally_traffic (f : Tally → Tally) (sl : Slot) : (sl.modTally f).traffic = sl.traffic := rfl
@[simp] theorem Slot.modTally_link (f : Tally → Tally) (sl : Slot) : (sl.modTally f).link = sl.link := rfl
@[simp] theorem Slot.modTally_timing (f : Tally → Tally) (sl : Slot) : (sl.modTally f).timing = sl.timing := rfl
@[simp] theorem Slot.modTally_closing (f : Tally → Tally) (sl : Slot) : (sl.modTally f).closing = sl.closing := rfl
@[simp] theorem Slot.modTally_events (f : Tally → Tally) (sl : Slot) : (sl.modTally f).events = sl.events := rfl
@[simp] theorem Slot.modTally_command (f : Tally → Tally) (sl : Slot) : (sl.modTally f).command = sl.command := rfl

@[simp] theorem Slot.modDefects_sup (f : DefectTable → DefectTable) (sl : Slot) : (sl.modDefects f).sup = sl.sup := rfl
@[simp] theorem Slot.modDefects_mon (f : DefectTable → DefectTable) (sl : Slot) : (sl.modDefects f).mon = sl.mon := rfl
@[simp] theorem Slot.modDefects_ident (f : DefectTable → DefectTable) (sl : Slot) : (sl.modDefects f).ident = sl.ident := rfl
@[simp] theorem Slot.modDefects_key (f : DefectTable → DefectTable) (sl : Slot) : (sl.modDefects f).key = sl.key := rfl
@[simp] theorem Slot.modDefects_pending (f : DefectTable → DefectTable) (sl : Slot) : (sl.modDefects f).pending = sl.pending := rfl
@[simp] theorem Slot.modDefects_active (f : DefectTable → DefectTable) (sl : Slot) : (sl.modDefects f).active = sl.active := rfl
@[simp] theorem Slot.modDefects_zmap (f : DefectTable → DefectTable) (sl : Slot) : (sl.modDefects f).zmap = sl.zmap := rfl
@[simp] theorem Slot.modDefects_pass (f : DefectTable → DefectTable) (sl : Slot) : (sl.modDefects f).pass = sl.pass := rfl
@[simp] theorem Slot.modDefects_tally (f : DefectTable → DefectTable) (sl : Slot) : (sl.modDefects f).tally = sl.tally := rfl
@[simp] theorem Slot.modDefects_defects (f : DefectTable → DefectTable) (sl : Slot) : (sl.modDefects f).defects = f sl.defects := rfl
@[simp] theorem Slot.modDefects_traffic (f : DefectTable → DefectTable) (sl : Slot) : (sl.modDefects f).traffic = sl.traffic := rfl
@[simp] theorem Slot.modDefects_link (f : DefectTable → DefectTable) (sl : Slot) : (sl.modDefects f).link = sl.link := rfl
@[simp] theorem Slot.modDefects_timing (f : DefectTable → DefectTable) (sl : Slot) : (sl.modDefects f).timing = sl.timing := rfl
@[simp] theorem Slot.modDefects_closing (f : DefectTable → DefectTable) (sl : Slot) : (sl.modDefects f).closing = sl.closing := rfl
@[simp] theorem Slot.modDefects_events (f : DefectTable → DefectTable) (sl : Slot) : (sl.modDefects f).events = sl.events := rfl
@[simp] theorem Slot.modDefects_command (f : DefectTable → DefectTable) (sl : Slot) : (sl.modDefects f).command = sl.command := rfl

@[simp] theorem Slot.modTraffic_sup (f : Traffic → Traffic) (sl : Slot) : (sl.modTraffic f).sup = sl.sup := rfl
@[simp] theorem Slot.modTraffic_mon (f : Traffic → Traffic) (sl : Slot) : (sl.modTraffic f).mon = sl.mon := rfl
@[simp] theorem Slot.modTraffic_ident (f : Traffic → Traffic) (sl : Slot) : (sl.modTraffic f).ident = sl.ident := rfl
@[simp] theorem Slot.modTraffic_key (f : Traffic → Traffic) (sl : Slot) : (sl.modTraffic f).key = sl.key := rfl
@[simp] theorem Slot.modTraffic_pending (f : Traffic → Traffic) (sl : Slot) : (sl.modTraffic f).pending = sl.pending := rfl
@[simp] theorem Slot.modTraffic_active (f : Traffic → Traffic) (sl : Slot) : (sl.modTraffic f).active = sl.active := rfl
@[simp] theorem Slot.modTraffic_zmap (f : Traffic → Traffic) (sl : Slot) : (sl.modTraffic f).zmap = sl.zmap := rfl
@[simp] theorem Slot.modTraffic_pass (f : Traffic → Traffic) (sl : Slot) : (sl.modTraffic f).pass = sl.pass := rfl
@[simp] theorem Slot.modTraffic_tally (f : Traffic → Traffic) (sl : Slot) : (sl.modTraffic f).tally = sl.tally := rfl
@[simp] theorem Slot.modTraffic_defects (f : Traffic → Traffic) (sl : Slot) : (sl.modTraffic f).defects = sl.defects := rfl
@[simp] theorem Slot.modTraffic_traffic (f : Traffic → Traffic) (sl : Slot) : (sl.modTraffic f).traffic = f sl.traffic := rfl
@[simp] theorem Slot.modTraffic_link (f : Traffic → Traffic) (sl : Slot) : (sl.modTraffic f).link = sl.link := rfl
@[simp] theorem Slot.modTraffic_timing (f : Traffic → Traffic) (sl : Slot) : (sl.modTraffic f).timing = sl.timing := rfl
@[simp] theorem Slot.modTraffic_closing (f : Traffic → Traffic) (sl : Slot) : (sl.modTraffic f).closing = sl.closing := rfl
@[simp] theorem Slot.modTraffic_events (f : Traffic → Traffic) (sl : Slot) : (sl.modTraffic f).events = sl.events := rfl
@[simp] theorem Slot.modTraffic_command (f : Traffic → Traffic) (sl : Slot) : (sl.modTraffic f).command = sl.command := rfl

@[simp] theorem Slot.modLink_sup (f : Link → Link) (sl : Slot) : (sl.modLink f).sup = sl.sup := rfl
@[simp] theorem Slot.modLink_mon (f : Link → Link) (sl : Slot) : (sl.modLink f).mon = sl.mon := rfl
@[simp] theorem Slot.modLink_ident (f : Link → Link) (sl : Slot) : (sl.modLink f).ident = sl.ident := rfl
@[simp] theorem Slot.modLink_key (f : Link → Link) (sl : Slot) : (sl.modLink f).key = sl.key := rfl
@[simp] theorem Slot.modLink_pending (f : Link → Link) (sl : Slot) : (sl.modLink f).pending = sl.pending := rfl
@[simp] theorem Slot.modLink_active (f : Link → Link) (sl : Slot) : (sl.modLink f).active = sl.active := rfl
@[simp] theorem Slot.modLink_zmap (f : Link → Link) (sl : Slot) : (sl.modLink f).zmap = sl.zmap := rfl
@[simp] theorem Slot.modLink_pass (f : Link → Link) (sl : Slot) : (sl.modLink f).pass = sl.pass := rfl
@[simp] theorem Slot.modLink_tally (f : Link → Link) (sl : Slot) : (sl.modLink f).tally = sl.tally := rfl
@[simp] theorem Slot.modLink_defects (f : Link → Link) (sl : Slot) : (sl.modLink f).defects = sl.defects := rfl
@[simp] theorem Slot.modLink_traffic (f : Link → Link) (sl : Slot) : (sl.modLink f).traffic = sl.traffic := rfl
@[simp] theorem Slot.modLink_link (f : Link → Link) (sl : Slot) : (sl.modLink f).link = f sl.link := rfl
@[simp] theorem Slot.modLink_timing (f : Link → Link) (sl : Slot) : (sl.modLink f).timing = sl.timing := rfl
@[simp] theorem Slot.modLink_closing (f : Link → Link) (sl : Slot) : (sl.modLink f).closing = sl.closing := rfl
@[simp] theorem Slot.modLink_events (f : Link → Link) (sl : Slot) : (sl.modLink f).events = sl.events := rfl
@[simp] theorem Slot.modLink_command (f : Link → Link) (sl : Slot) : (sl.modLink f).command = sl.command := rfl

@[simp] theorem Slot.modTiming_sup (f : Timing → Timing) (sl : Slot) : (sl.modTiming f).sup = sl.sup := rfl
@[simp] theorem Slot.modTiming_mon (f : Timing → Timing) (sl : Slot) : (sl.modTiming f).mon = sl.mon := rfl
@[simp] theorem Slot.modTiming_ident (f : Timing → Timing) (sl : Slot) : (sl.modTiming f).ident = sl.ident := rfl
@[simp] theorem Slot.modTiming_key (f : Timing → Timing) (sl : Slot) : (sl.modTiming f).key = sl.key := rfl
@[simp] theorem Slot.modTiming_pending (f : Timing → Timing) (sl : Slot) : (sl.modTiming f).pending = sl.pending := rfl
@[simp] theorem Slot.modTiming_active (f : Timing → Timing) (sl : Slot) : (sl.modTiming f).active = sl.active := rfl
@[simp] theorem Slot.modTiming_zmap (f : Timing → Timing) (sl : Slot) : (sl.modTiming f).zmap = sl.zmap := rfl
@[simp] theorem Slot.modTiming_pass (f : Timing → Timing) (sl : Slot) : (sl.modTiming f).pass = sl.pass := rfl
@[simp] theorem Slot.modTiming_tally (f : Timing → Timing) (sl : Slot) : (sl.modTiming f).tally = sl.tally := rfl
@[simp] theorem Slot.modTiming_defects (f : Timing → Timing) (sl : Slot) : (sl.modTiming f).defects = sl.defects := rfl
@[simp] theorem Slot.modTiming_traffic (f : Timing → Timing) (sl : Slot) : (sl.modTiming f).traffic = sl.traffic := rfl
@[simp] theorem Slot.modTiming_link (f : Timing → Timing) (sl : Slot) : (sl.modTiming f).link = sl.link := rfl
@[simp] theorem Slot.modTiming_timing (f : Timing → Timing) (sl : Slot) : (sl.modTiming f).timing = f sl.timing := rfl
@[simp] theorem Slot.modTiming_closing (f : Timing → Timing) (sl : Slot) : (sl.modTiming f).closing = sl.closing := rfl
@[simp] theorem Slot.modTiming_events (f : Timing → Timing) (sl : Slot) : (sl.modTiming f).events = sl.events := rfl
@[simp] theorem Slot.modTiming_command (f : Timing → Timing) (sl : Slot) : (sl.modTiming f).command = sl.command := rfl

@[simp] theorem Slot.modClosing_sup (f : Closing → Closing) (sl : Slot) : (sl.modClosing f).sup = sl.sup := rfl
@[simp] theorem Slot.modClosing_mon (f : Closing → Closing) (sl : Slot) : (sl.modClosing f).mon = sl.mon := rfl
@[simp] theorem Slot.modClosing_ident (f : Closing → Closing) (sl : Slot) : (sl.modClosing f).ident = sl.ident := rfl
@[simp] theorem Slot.modClosing_key (f : Closing → Closing) (sl : Slot) : (sl.modClosing f).key = sl.key := rfl
@[simp] theorem Slot.modClosing_pending (f : Closing → Closing) (sl : Slot) : (sl.modClosing f).pending = sl.pending := rfl
@[simp] theorem Slot.modClosing_active (f : Closing → Closing) (sl : Slot) : (sl.modClosing f).active = sl.active := rfl
@[simp] theorem Slot.modClosing_zmap (f : Closing → Closing) (sl : Slot) : (sl.modClosing f).zmap = sl.zmap := rfl
@[simp] theorem Slot.modClosing_pass (f : Closing → Closing) (sl : Slot) : (sl.modClosing f).pass = sl.pass := rfl
@[simp] theorem Slot.modClosing_tally (f : Closing → Closing) (sl : Slot) : (sl.modClosing f).tally = sl.tally := rfl
@[simp] theorem Slot.modClosing_defects (f : Closing → Closing) (sl : Slot) : (sl.modClosing f).defects = sl.defects := rfl
@[simp] theorem Slot.modClosing_traffic (f : Closing → Closing) (sl : Slot) : (sl.modClosing f).traffic = sl.traffic := rfl
@[simp] theorem Slot.modClosing_link (f : Closing → Closing) (sl : Slot) : (sl.modClosing f).link = sl.link := rfl
@[simp] theorem Slot.modClosing_timing (f : Closing → Closing) (sl : Slot) : (sl.modClosing f).timing = sl.timing := rfl
@[simp] theorem Slot.modClosing_closing (f : Closing → Closing) (sl : Slot) : (sl.modClosing f).closing = f sl.closing := rfl
@[simp] theorem Slot.modClosing_events (f : Closing → Closing) (sl : Slot) : (sl.modClosing f).events = sl.events := rfl
@[simp] theorem Slot.modClosing_command (f : Closing → Closing) (sl : Slot) : (sl.modClosing f).command = sl.command := rfl

@[simp] theorem Slot.modEvents_sup (f : Events → Events) (sl : Slot) : (sl.modEvents f).sup = sl.sup := rfl
@[simp] theorem Slot.modEvents_mon (f : Events → Events) (sl : Slot) : (sl.modEvents f).mon = sl.mon := rfl
@[simp] theorem Slot.modEvents_ident (f : Events → Events) (sl : Slot) : (sl.modEvents f).ident = sl.ident := rfl
@[simp] theorem Slot.modEvents_key (f : Events → Events) (sl : Slot) : (sl.modEvents f).key = sl.key := rfl
@[simp] theorem Slot.modEvents_pending (f : Events → Events) (sl : Slot) : (sl.modEvents f).pending = sl.pending := rfl
@[simp] theorem Slot.modEvents_active (f : Events → Events) (sl : Slot) : (sl.modEvents f).active = sl.active := rfl
@[simp] theorem Slot.modEvents_zmap (f : Events → Events) (sl : Slot) : (sl.modEvents f).zmap = sl.zmap := rfl
@[simp] theorem Slot.modEvents_pass (f : Events → Events) (sl : Slot) : (sl.modEvents f).pass = sl.pass := rfl
@[simp] theorem Slot.modEvents_tally (f : Events → Events) (sl : Slot) : (sl.modEvents f).tally = sl.tally := rfl
@[simp] theorem Slot.modEvents_defects (f : Events → Events) (sl : Slot) : (sl.modEvents f).defects = sl.defects := rfl
@[simp] theorem Slot.modEvents_traffic (f : Events → Events) (sl : Slot) : (sl.modEvents f).traffic = sl.traffic := rfl
@[simp] theorem Slot.modEvents_link (f : Events → Events) (sl : Slot) : (sl.modEvents f).link = sl.link := rfl
@[simp] theorem Slot.modEvents_timing (f : Events → Events) (sl : Slot) : (sl.modEvents f).timing = sl.timing := rfl
@[simp] theorem Slot.modEvents_closing (f : Events → Events) (sl : Slot) : (sl.modEvents f).closing = sl.closing := rfl
@[simp] theorem Slot.modEvents_events (f : Events → Events) (sl : Slot) : (sl.modEvents f).events = f sl.events := rfl
@[simp] theorem Slot.modEvents_command (f : Events → Events) (sl : Slot) : (sl.modEvents f).command = sl.command := rfl

@[simp] theorem Slot.modCommand_sup (f : CommandBlock → CommandBlock) (sl : Slot) : (sl.modCommand f).sup = sl.sup := rfl
@[simp] theorem Slot.modCommand_mon (f : CommandBlock → CommandBlock) (sl : Slot) : (sl.modCommand f).mon = sl.mon := rfl
@[simp] theorem Slot.modCommand_ident (f : CommandBlock → CommandBlock) (sl : Slot) : (sl.modCommand f).ident = sl.ident := rfl
@[simp] theorem Slot.modCommand_key (f : CommandBlock → CommandBlock) (sl : Slot) : (sl.modCommand f).key = sl.key := rfl
@[simp] theorem Slot.modCommand_pending (f : CommandBlock → CommandBlock) (sl : Slot) : (sl.modCommand f).pending = sl.pending := rfl
@[simp] theorem Slot.modCommand_active (f : CommandBlock → CommandBlock) (sl : Slot) : (sl.modCommand f).active = sl.active := rfl
@[simp] theorem Slot.modCommand_zmap (f : CommandBlock → CommandBlock) (sl : Slot) : (sl.modCommand f).zmap = sl.zmap := rfl
@[simp] theorem Slot.modCommand_pass (f : CommandBlock → CommandBlock) (sl : Slot) : (sl.modCommand f).pass = sl.pass := rfl
@[simp] theorem Slot.modCommand_tally (f : CommandBlock → CommandBlock) (sl : Slot) : (sl.modCommand f).tally = sl.tally := rfl
@[simp] theorem Slot.modCommand_defects (f : CommandBlock → CommandBlock) (sl : Slot) : (sl.modCommand f).defects = sl.defects := rfl
@[simp] theorem Slot.modCommand_traffic (f : CommandBlock → CommandBlock) (sl : Slot) : (sl.modCommand f).traffic = sl.traffic := rfl
@[simp] theorem Slot.modCommand_link (f : CommandBlock → CommandBlock) (sl : Slot) : (sl.modCommand f).link = sl.link := rfl
@[simp] theorem Slot.modCommand_timing (f : CommandBlock → CommandBlock) (sl : Slot) : (sl.modCommand f).timing = sl.timing := rfl
@[simp] theorem Slot.modCommand_closing (f : CommandBlock → CommandBlock) (sl : Slot) : (sl.modCommand f).closing = sl.closing := rfl
@[simp] theorem Slot.modCommand_events (f : CommandBlock → CommandBlock) (sl : Slot) : (sl.modCommand f).events = sl.events := rfl
@[simp] theorem Slot.modCommand_command (f : CommandBlock → CommandBlock) (sl : Slot) : (sl.modCommand f).command = f sl.command := rfl

@[simp] theorem Slot.setPhase_sup (p : Phase) (sl : Slot) : (sl.setPhase p).sup = { sl.sup with phase := p } := rfl
@[simp] theorem Slot.setPhase_mon (p : Phase) (sl : Slot) : (sl.setPhase p).mon = sl.mon := rfl
@[simp] theorem Slot.setPhase_ident (p : Phase) (sl : Slot) : (sl.setPhase p).ident = sl.ident := rfl
@[simp] theorem Slot.setPhase_key (p : Phase) (sl : Slot) : (sl.setPhase p).key = sl.key := rfl
@[simp] theorem Slot.setPhase_pending (p : Phase) (sl : Slot) : (sl.setPhase p).pending = sl.pending := rfl
@[simp] theorem Slot.setPhase_active (p : Phase) (sl : Slot) : (sl.setPhase p).active = sl.active := rfl
@[simp] theorem Slot.setPhase_zmap (p : Phase) (sl : Slot) : (sl.setPhase p).zmap = sl.zmap := rfl
@[simp] theorem Slot.setPhase_pass (p : Phase) (sl : Slot) : (sl.setPhase p).pass = sl.pass := rfl
@[simp] theorem Slot.setPhase_tally (p : Phase) (sl : Slot) : (sl.setPhase p).tally = sl.tally := rfl
@[simp] theorem Slot.setPhase_defects (p : Phase) (sl : Slot) : (sl.setPhase p).defects = sl.defects := rfl
@[simp] theorem Slot.setPhase_traffic (p : Phase) (sl : Slot) : (sl.setPhase p).traffic = sl.traffic := rfl
@[simp] theorem Slot.setPhase_link (p : Phase) (sl : Slot) : (sl.setPhase p).link = sl.link := rfl
@[simp] theorem Slot.setPhase_timing (p : Phase) (sl : Slot) : (sl.setPhase p).timing = sl.timing := rfl
@[simp] theorem Slot.setPhase_closing (p : Phase) (sl : Slot) : (sl.setPhase p).closing = sl.closing := rfl
@[simp] theorem Slot.setPhase_events (p : Phase) (sl : Slot) : (sl.setPhase p).events = sl.events := rfl
@[simp] theorem Slot.setPhase_command (p : Phase) (sl : Slot) : (sl.setPhase p).command = sl.command := rfl

@[simp] theorem Slot.modCmds_sup (f : List Cmd → List Cmd) (sl : Slot) : (sl.modCmds f).sup = sl.sup := rfl
@[simp] theorem Slot.modCmds_mon (f : List Cmd → List Cmd) (sl : Slot) : (sl.modCmds f).mon = sl.mon := rfl
@[simp] theorem Slot.modCmds_ident (f : List Cmd → List Cmd) (sl : Slot) : (sl.modCmds f).ident = sl.ident := rfl
@[simp] theorem Slot.modCmds_key (f : List Cmd → List Cmd) (sl : Slot) : (sl.modCmds f).key = sl.key := rfl
@[simp] theorem Slot.modCmds_pending (f : List Cmd → List Cmd) (sl : Slot) : (sl.modCmds f).pending = sl.pending := rfl
@[simp] theorem Slot.modCmds_active (f : List Cmd → List Cmd) (sl : Slot) : (sl.modCmds f).active = sl.active := rfl
@[simp] theorem Slot.modCmds_zmap (f : List Cmd → List Cmd) (sl : Slot) : (sl.modCmds f).zmap = sl.zmap := rfl
@[simp] theorem Slot.modCmds_pass (f : List Cmd → List Cmd) (sl : Slot) : (sl.modCmds f).pass = sl.pass := rfl
@[simp] theorem Slot.modCmds_tally (f : List Cmd → List Cmd) (sl : Slot) : (sl.modCmds f).tally = sl.tally := rfl
@[simp] theorem Slot.modCmds_defects (f : List Cmd → List Cmd) (sl : Slot) : (sl.modCmds f).defects = sl.defects := rfl
@[simp] theorem Slot.modCmds_traffic (f : List Cmd → List Cmd) (sl : Slot) : (sl.modCmds f).traffic = { sl.traffic with cmds := f sl.traffic.cmds } := rfl
@[simp] theorem Slot.modCmds_link (f : List Cmd → List Cmd) (sl : Slot) : (sl.modCmds f).link = sl.link := rfl
@[simp] theorem Slot.modCmds_timing (f : List Cmd → List Cmd) (sl : Slot) : (sl.modCmds f).timing = sl.timing := rfl
@[simp] theorem Slot.modCmds_closing (f : List Cmd → List Cmd) (sl : Slot) : (sl.modCmds f).closing = sl.closing := rfl
@[simp] theorem Slot.modCmds_events (f : List Cmd → List Cmd) (sl : Slot) : (sl.modCmds f).events = sl.events := rfl
@[simp] theorem Slot.modCmds_command (f : List Cmd → List Cmd) (sl : Slot) : (sl.modCmds f).command = sl.command := rfl

@[simp] theorem Slot.modJobs_sup (f : List Job → List Job) (sl : Slot) : (sl.modJobs f).sup = sl.sup := rfl
@[simp] theorem Slot.modJobs_mon (f : List Job → List Job) (sl : Slot) : (sl.modJobs f).mon = sl.mon := rfl
@[simp] theorem Slot.modJobs_ident (f : List Job → List Job) (sl : Slot) : (sl.modJobs f).ident = sl.ident := rfl
@[simp] theorem Slot.modJobs_key (f : List Job → List Job) (sl : Slot) : (sl.modJobs f).key = sl.key := rfl
@[simp] theorem Slot.modJobs_pending (f : List Job → List Job) (sl : Slot) : (sl.modJobs f).pending = sl.pending := rfl
@[simp] theorem Slot.modJobs_active (f : List Job → List Job) (sl : Slot) : (sl.modJobs f).active = sl.active := rfl
@[simp] theorem Slot.modJobs_zmap (f : List Job → List Job) (sl : Slot) : (sl.modJobs f).zmap = sl.zmap := rfl
@[simp] theorem Slot.modJobs_pass (f : List Job → List Job) (sl : Slot) : (sl.modJobs f).pass = sl.pass := rfl
@[simp] theorem Slot.modJobs_tally (f : List Job → List Job) (sl : Slot) : (sl.modJobs f).tally = sl.tally := rfl
@[simp] theorem Slot.modJobs_defects (f : List Job → List Job) (sl : Slot) : (sl.modJobs f).defects = sl.defects := rfl
@[simp] theorem Slot.modJobs_traffic (f : List Job → List Job) (sl : Slot) : (sl.modJobs f).traffic = { sl.traffic with jobs := f sl.traffic.jobs } := rfl
@[simp] theorem Slot.modJobs_link (f : List Job → List Job) (sl : Slot) : (sl.modJobs f).link = sl.link := rfl
@[simp] theorem Slot.modJobs_timing (f : List Job → List Job) (sl : Slot) : (sl.modJobs f).timing = sl.timing := rfl
@[simp] theorem Slot.modJobs_closing (f : List Job → List Job) (sl : Slot) : (sl.modJobs f).closing = sl.closing := rfl
@[simp] theorem Slot.modJobs_events (f : List Job → List Job) (sl : Slot) : (sl.modJobs f).events = sl.events := rfl
@[simp] theorem Slot.modJobs_command (f : List Job → List Job) (sl : Slot) : (sl.modJobs f).command = sl.command := rfl

@[simp] theorem Slot.toDrive_sup (msgs : List DriveMsg) (sl : Slot) : (sl.toDrive msgs).sup = sl.sup := rfl
@[simp] theorem Slot.toDrive_mon (msgs : List DriveMsg) (sl : Slot) : (sl.toDrive msgs).mon = sl.mon := rfl
@[simp] theorem Slot.toDrive_ident (msgs : List DriveMsg) (sl : Slot) : (sl.toDrive msgs).ident = sl.ident := rfl
@[simp] theorem Slot.toDrive_key (msgs : List DriveMsg) (sl : Slot) : (sl.toDrive msgs).key = sl.key := rfl
@[simp] theorem Slot.toDrive_pending (msgs : List DriveMsg) (sl : Slot) : (sl.toDrive msgs).pending = sl.pending := rfl
@[simp] theorem Slot.toDrive_active (msgs : List DriveMsg) (sl : Slot) : (sl.toDrive msgs).active = sl.active := rfl
@[simp] theorem Slot.toDrive_zmap (msgs : List DriveMsg) (sl : Slot) : (sl.toDrive msgs).zmap = sl.zmap := rfl
@[simp] theorem Slot.toDrive_pass (msgs : List DriveMsg) (sl : Slot) : (sl.toDrive msgs).pass = sl.pass := rfl
@[simp] theorem Slot.toDrive_tally (msgs : List DriveMsg) (sl : Slot) : (sl.toDrive msgs).tally = sl.tally := rfl
@[simp] theorem Slot.toDrive_defects (msgs : List DriveMsg) (sl : Slot) : (sl.toDrive msgs).defects = sl.defects := rfl
@[simp] theorem Slot.toDrive_traffic (msgs : List DriveMsg) (sl : Slot) : (sl.toDrive msgs).traffic = sl.traffic := rfl
@[simp] theorem Slot.toDrive_link (msgs : List DriveMsg) (sl : Slot) : (sl.toDrive msgs).link = { sl.link with out := sl.link.out ++ msgs } := rfl
@[simp] theorem Slot.toDrive_timing (msgs : List DriveMsg) (sl : Slot) : (sl.toDrive msgs).timing = sl.timing := rfl
@[simp] theorem Slot.toDrive_closing (msgs : List DriveMsg) (sl : Slot) : (sl.toDrive msgs).closing = sl.closing := rfl
@[simp] theorem Slot.toDrive_events (msgs : List DriveMsg) (sl : Slot) : (sl.toDrive msgs).events = sl.events := rfl
@[simp] theorem Slot.toDrive_command (msgs : List DriveMsg) (sl : Slot) : (sl.toDrive msgs).command = sl.command := rfl

@[simp] theorem Slot.raise_sup (f : EventFlag) (sl : Slot) : (sl.raise f).sup = sl.sup := rfl
@[simp] theorem Slot.raise_mon (f : EventFlag) (sl : Slot) : (sl.raise f).mon = sl.mon := rfl
@[simp] theorem Slot.raise_ident (f : EventFlag) (sl : Slot) : (sl.raise f).ident = sl.ident := rfl
@[simp] theorem Slot.raise_key (f : EventFlag) (sl : Slot) : (sl.raise f).key = sl.key := rfl
@[simp] theorem Slot.raise_pending (f : EventFlag) (sl : Slot) : (sl.raise f).pending = sl.pending := rfl
@[simp] theorem Slot.raise_active (f : EventFlag) (sl : Slot) : (sl.raise f).active = sl.active := rfl
@[simp] theorem Slot.raise_zmap (f : EventFlag) (sl : Slot) : (sl.raise f).zmap = sl.zmap := rfl
@[simp] theorem Slot.raise_pass (f : EventFlag) (sl : Slot) : (sl.raise f).pass = sl.pass := rfl
@[simp] theorem Slot.raise_tally (f : EventFlag) (sl : Slot) : (sl.raise f).tally = sl.tally := rfl
@[simp] theorem Slot.raise_defects (f : EventFlag) (sl : Slot) : (sl.raise f).defects = sl.defects := rfl
@[simp] theorem Slot.raise_traffic (f : EventFlag) (sl : Slot) : (sl.raise f).traffic = sl.traffic := rfl
@[simp] theorem Slot.raise_link (f : EventFlag) (sl : Slot) : (sl.raise f).link = sl.link := rfl
@[simp] theorem Slot.raise_timing (f : EventFlag) (sl : Slot) : (sl.raise f).timing = sl.timing := rfl
@[simp] theorem Slot.raise_closing (f : EventFlag) (sl : Slot) : (sl.raise f).closing = sl.closing := rfl
@[simp] theorem Slot.raise_events (f : EventFlag) (sl : Slot) : (sl.raise f).events = { sl.events with flags := sl.events.flags ||| f.bit } := rfl
@[simp] theorem Slot.raise_command (f : EventFlag) (sl : Slot) : (sl.raise f).command = sl.command := rfl

@[simp] theorem Slot.raiseIf_sup (p : Bool) (f : EventFlag) (sl : Slot) : (sl.raiseIf p f).sup = sl.sup := by
  cases p <;> rfl
@[simp] theorem Slot.raiseIf_mon (p : Bool) (f : EventFlag) (sl : Slot) : (sl.raiseIf p f).mon = sl.mon := by
  cases p <;> rfl
@[simp] theorem Slot.raiseIf_ident (p : Bool) (f : EventFlag) (sl : Slot) : (sl.raiseIf p f).ident = sl.ident := by
  cases p <;> rfl
@[simp] theorem Slot.raiseIf_key (p : Bool) (f : EventFlag) (sl : Slot) : (sl.raiseIf p f).key = sl.key := by
  cases p <;> rfl
@[simp] theorem Slot.raiseIf_pending (p : Bool) (f : EventFlag) (sl : Slot) : (sl.raiseIf p f).pending = sl.pending := by
  cases p <;> rfl
@[simp] theorem Slot.raiseIf_active (p : Bool) (f : EventFlag) (sl : Slot) : (sl.raiseIf p f).active = sl.active := by
  cases p <;> rfl
@[simp] theorem Slot.raiseIf_zmap (p : Bool) (f : EventFlag) (sl : Slot) : (sl.raiseIf p f).zmap = sl.zmap := by
  cases p <;> rfl
@[simp] theorem Slot.raiseIf_pass (p : Bool) (f : EventFlag) (sl : Slot) : (sl.raiseIf p f).pass = sl.pass := by
  cases p <;> rfl
@[simp] theorem Slot.raiseIf_tally (p : Bool) (f : EventFlag) (sl : Slot) : (sl.raiseIf p f).tally = sl.tally := by
  cases p <;> rfl
@[simp] theorem Slot.raiseIf_defects (p : Bool) (f : EventFlag) (sl : Slot) : (sl.raiseIf p f).defects = sl.defects := by
  cases p <;> rfl
@[simp] theorem Slot.raiseIf_traffic (p : Bool) (f : EventFlag) (sl : Slot) : (sl.raiseIf p f).traffic = sl.traffic := by
  cases p <;> rfl
@[simp] theorem Slot.raiseIf_link (p : Bool) (f : EventFlag) (sl : Slot) : (sl.raiseIf p f).link = sl.link := by
  cases p <;> rfl
@[simp] theorem Slot.raiseIf_timing (p : Bool) (f : EventFlag) (sl : Slot) : (sl.raiseIf p f).timing = sl.timing := by
  cases p <;> rfl
@[simp] theorem Slot.raiseIf_closing (p : Bool) (f : EventFlag) (sl : Slot) : (sl.raiseIf p f).closing = sl.closing := by
  cases p <;> rfl
/-- A flag raised on a condition changes the flags alone, and only when it holds. -/
@[simp] theorem Slot.raiseIf_events (p : Bool) (f : EventFlag) (sl : Slot) :
    (sl.raiseIf p f).events =
      { sl.events with flags := if p = true then sl.events.flags ||| f.bit else sl.events.flags } := by
  cases p <;> rfl
@[simp] theorem Slot.raiseIf_command (p : Bool) (f : EventFlag) (sl : Slot) : (sl.raiseIf p f).command = sl.command := by
  cases p <;> rfl

/-! ## The slot inside the part -/

/-- A slot that was set reads as it was set. -/
@[simp] theorem State.slot_setSlot (s : State) (i : SlotId) (sl : Slot) : (s.setSlot i sl).slot i = sl := by
  simp [State.slot, State.setSlot]

/-- Setting a slot leaves every other slot alone. -/
theorem State.slot_setSlot_ne (s : State) {i j : SlotId} (sl : Slot) (h : j ≠ i) :
    (s.setSlot i sl).slot j = s.slot j := by
  have hv : i.val ≠ j.val := fun hc => h (Fin.ext hc.symm)
  simp [State.slot, State.setSlot, Vector.getElem_set_ne _ _ hv]

/-- Both cases at once. -/
theorem State.slot_setSlot_eq (s : State) (i j : SlotId) (sl : Slot) :
    (s.setSlot i sl).slot j = if j = i then sl else s.slot j := by
  by_cases h : j = i
  · subst h; simp
  · simp [h, State.slot_setSlot_ne s sl h]

/-- A changed slot is the change of what it was. -/
@[simp] theorem State.slot_modSlot (s : State) (i : SlotId) (f : Slot → Slot) :
    (s.modSlot i f).slot i = f (s.slot i) := by
  simp [State.modSlot]

/-- Changing a slot leaves every other slot alone. -/
theorem State.slot_modSlot_ne (s : State) {i j : SlotId} (f : Slot → Slot) (h : j ≠ i) :
    (s.modSlot i f).slot j = s.slot j := by
  simp [State.modSlot, State.slot_setSlot_ne s _ h]

/-- Two parts that agree on every slot have the same slots. -/
theorem State.slots_ext {s t : State} (h : ∀ i, s.slot i = t.slot i) : s.slots = t.slots := by
  apply Vector.ext
  intro k hk
  exact h ⟨k, hk⟩

/-- Setting a slot to what it is changes nothing. -/
@[simp] theorem State.setSlot_self (s : State) (i : SlotId) : s.setSlot i (s.slot i) = s := by
  simp [State.setSlot, State.slot]

/-- Of two settings of one slot the later stands. -/
@[simp] theorem State.setSlot_setSlot (s : State) (i : SlotId) (a b : Slot) :
    (s.setSlot i a).setSlot i b = s.setSlot i b := by
  simp [State.setSlot]

@[simp] theorem State.setSlot_pending (s : State) (i : SlotId) (sl : Slot) : (s.setSlot i sl).pending = s.pending := rfl
@[simp] theorem State.setSlot_shelf (s : State) (i : SlotId) (sl : Slot) : (s.setSlot i sl).shelf = s.shelf := rfl
@[simp] theorem State.setSlot_port (s : State) (i : SlotId) (sl : Slot) : (s.setSlot i sl).port = s.port := rfl
@[simp] theorem State.setSlot_upstream (s : State) (i : SlotId) (sl : Slot) : (s.setSlot i sl).upstream = s.upstream := rfl
@[simp] theorem State.setSlot_engineLast (s : State) (i : SlotId) (sl : Slot) : (s.setSlot i sl).engineLast = s.engineLast := rfl
@[simp] theorem State.setSlot_grader (s : State) (i : SlotId) (sl : Slot) : (s.setSlot i sl).grader = s.grader := rfl

@[simp] theorem State.modSlot_pending (s : State) (i : SlotId) (f : Slot → Slot) : (s.modSlot i f).pending = s.pending := rfl
@[simp] theorem State.modSlot_shelf (s : State) (i : SlotId) (f : Slot → Slot) : (s.modSlot i f).shelf = s.shelf := rfl
@[simp] theorem State.modSlot_port (s : State) (i : SlotId) (f : Slot → Slot) : (s.modSlot i f).port = s.port := rfl
@[simp] theorem State.modSlot_upstream (s : State) (i : SlotId) (f : Slot → Slot) : (s.modSlot i f).upstream = s.upstream := rfl
@[simp] theorem State.modSlot_engineLast (s : State) (i : SlotId) (f : Slot → Slot) : (s.modSlot i f).engineLast = s.engineLast := rfl
@[simp] theorem State.modSlot_grader (s : State) (i : SlotId) (f : Slot → Slot) : (s.modSlot i f).grader = s.grader := rfl

@[simp] theorem State.say_pending (s : State) (out : List Upstream) : (s.say out).pending = s.pending := rfl
@[simp] theorem State.say_slots (s : State) (out : List Upstream) : (s.say out).slots = s.slots := rfl
@[simp] theorem State.say_shelf (s : State) (out : List Upstream) : (s.say out).shelf = s.shelf := rfl
@[simp] theorem State.say_port (s : State) (out : List Upstream) : (s.say out).port = s.port := rfl
@[simp] theorem State.say_upstream (s : State) (out : List Upstream) : (s.say out).upstream = s.upstream ++ out := rfl
@[simp] theorem State.say_engineLast (s : State) (out : List Upstream) : (s.say out).engineLast = s.engineLast := rfl
@[simp] theorem State.say_grader (s : State) (out : List Upstream) : (s.say out).grader = s.grader := rfl
@[simp] theorem State.say_slot (s : State) (out : List Upstream) (i : SlotId) : (s.say out).slot i = s.slot i := rfl
@[simp] theorem State.say_nil (s : State) : s.say [] = s := by simp [State.say]

/-- The records of two sendings stand one behind the other. -/
@[simp] theorem State.say_say (s : State) (a b : List Upstream) : (s.say a).say b = s.say (a ++ b) := by
  simp [State.say, List.append_assoc]

/-- What is sent and what a slot becomes do not touch one another. -/
theorem State.say_setSlot (s : State) (out : List Upstream) (i : SlotId) (sl : Slot) :
    (s.say out).setSlot i sl = (s.setSlot i sl).say out := rfl

@[simp] theorem State.advance_pending (t : Nat) (s : State) : (s.advance t).pending = s.pending := rfl
@[simp] theorem State.advance_slots (t : Nat) (s : State) : (s.advance t).slots = s.slots := rfl
@[simp] theorem State.advance_port (t : Nat) (s : State) : (s.advance t).port = s.port := rfl
@[simp] theorem State.advance_upstream (t : Nat) (s : State) : (s.advance t).upstream = s.upstream := rfl
@[simp] theorem State.advance_engineLast (t : Nat) (s : State) : (s.advance t).engineLast = s.engineLast := rfl
@[simp] theorem State.advance_grader (t : Nat) (s : State) : (s.advance t).grader = s.grader := rfl
@[simp] theorem State.advance_slot (t : Nat) (s : State) (i : SlotId) : (s.advance t).slot i = s.slot i := rfl

@[simp] theorem State.tick_pending (s : State) : (s.tick).pending = s.pending := rfl
@[simp] theorem State.tick_slots (s : State) : (s.tick).slots = s.slots := rfl
@[simp] theorem State.tick_port (s : State) : (s.tick).port = s.port := rfl
@[simp] theorem State.tick_upstream (s : State) : (s.tick).upstream = s.upstream := rfl
@[simp] theorem State.tick_engineLast (s : State) : (s.tick).engineLast = s.engineLast := rfl
@[simp] theorem State.tick_grader (s : State) : (s.tick).grader = s.grader := rfl
@[simp] theorem State.tick_slot (s : State) (i : SlotId) : (s.tick).slot i = s.slot i := rfl

@[simp] theorem State.advanceTo_pending (due : Option Nat) (s : State) : (s.advanceTo due).pending = s.pending := by
  cases due <;> rfl
@[simp] theorem State.advanceTo_slots (due : Option Nat) (s : State) : (s.advanceTo due).slots = s.slots := by
  cases due <;> rfl
@[simp] theorem State.advanceTo_port (due : Option Nat) (s : State) : (s.advanceTo due).port = s.port := by
  cases due <;> rfl
@[simp] theorem State.advanceTo_upstream (due : Option Nat) (s : State) : (s.advanceTo due).upstream = s.upstream := by
  cases due <;> rfl
@[simp] theorem State.advanceTo_engineLast (due : Option Nat) (s : State) : (s.advanceTo due).engineLast = s.engineLast := by
  cases due <;> rfl
@[simp] theorem State.advanceTo_grader (due : Option Nat) (s : State) : (s.advanceTo due).grader = s.grader := by
  cases due <;> rfl
@[simp] theorem State.advanceTo_slot (due : Option Nat) (s : State) (i : SlotId) : (s.advanceTo due).slot i = s.slot i := by
  cases due <;> rfl

@[simp] theorem State.commit_pending (s : State) (i : SlotId) (x : Act) : (s.commit i x).pending = s.pending := rfl
@[simp] theorem State.commit_shelf (s : State) (i : SlotId) (x : Act) : (s.commit i x).shelf = s.shelf := rfl
@[simp] theorem State.commit_port (s : State) (i : SlotId) (x : Act) : (s.commit i x).port = s.port := rfl
@[simp] theorem State.commit_engineLast (s : State) (i : SlotId) (x : Act) : (s.commit i x).engineLast = s.engineLast := rfl
@[simp] theorem State.commit_grader (s : State) (i : SlotId) (x : Act) : (s.commit i x).grader = s.grader := rfl
@[simp] theorem State.commit_upstream (s : State) (i : SlotId) (x : Act) : (s.commit i x).upstream = s.upstream ++ x.out := rfl
@[simp] theorem State.commit_slot (s : State) (i : SlotId) (x : Act) : (s.commit i x).slot i = x.sl := by
  simp [State.commit]

/-- An event of one slot leaves every other slot alone. -/
theorem State.commit_slot_ne (s : State) {i j : SlotId} (x : Act) (h : j ≠ i) : (s.commit i x).slot j = s.slot j := by
  simp [State.commit, State.slot_setSlot_ne s _ h]

@[simp] theorem Act.mod_sl (f : Slot → Slot) (x : Act) : (x.mod f).sl = f x.sl := rfl
@[simp] theorem Act.mod_out (f : Slot → Slot) (x : Act) : (x.mod f).out = x.out := rfl
@[simp] theorem Act.say_sl (out : List Upstream) (x : Act) : (x.say out).sl = x.sl := rfl
@[simp] theorem Act.say_out (out : List Upstream) (x : Act) : (x.say out).out = x.out ++ out := rfl
@[simp] theorem Act.start_sl (sl : Slot) : (Act.start sl).sl = sl := rfl
@[simp] theorem Act.start_out (sl : Slot) : (Act.start sl).out = [] := rfl

end Sys2Proof.Machine
end

