-- ==== Sys2Proof/Laws/Frames.lean ====
section
/-! SUPPORT. What each operation of a slot leaves alone: one frame per operation, for `simp`. -/

namespace Sys2Proof.Machine

/-- A run handed over changes only the pass record's failures (R55). -/
@[simp] theorem Slot.countFailures_frame (n : Nat) (sl : Slot) :
    (sl.countFailures n).sup = sl.sup ∧ (sl.countFailures n).mon = sl.mon ∧ (sl.countFailures n).ident = sl.ident ∧
      (sl.countFailures n).key = sl.key ∧ (sl.countFailures n).pending = sl.pending ∧ (sl.countFailures n).active = sl.active ∧
      (sl.countFailures n).zmap = sl.zmap ∧ (sl.countFailures n).tally = sl.tally ∧ (sl.countFailures n).defects = sl.defects ∧
      (sl.countFailures n).traffic = sl.traffic ∧ (sl.countFailures n).link = sl.link ∧ (sl.countFailures n).timing = sl.timing ∧
      (sl.countFailures n).closing = sl.closing ∧ (sl.countFailures n).events = sl.events ∧ (sl.countFailures n).command = sl.command := by
  unfold Slot.countFailures; simp

/-- Taking a run reaches the defect table, the pass record's failures and the event flags (R69, R75, R76, R80). -/
@[simp] theorem Slot.takeRun_frame (now : Nat) (r : Run) (sl : Slot) :
    (sl.takeRun now r).sup = sl.sup ∧ (sl.takeRun now r).mon = sl.mon ∧ (sl.takeRun now r).ident = sl.ident ∧
      (sl.takeRun now r).key = sl.key ∧ (sl.takeRun now r).pending = sl.pending ∧ (sl.takeRun now r).active = sl.active ∧
      (sl.takeRun now r).zmap = sl.zmap ∧ (sl.takeRun now r).tally = sl.tally ∧ (sl.takeRun now r).traffic = sl.traffic ∧
      (sl.takeRun now r).link = sl.link ∧ (sl.takeRun now r).timing = sl.timing ∧ (sl.takeRun now r).closing = sl.closing ∧
      (sl.takeRun now r).command = sl.command := by
  unfold Slot.takeRun; repeat' split
  all_goals simp

/-- The runs of a command reach what one run reaches (R68). -/
@[simp] theorem Slot.takeRuns_frame (now : Nat) (rs : List Run) (sl : Slot) :
    (sl.takeRuns now rs).sup = sl.sup ∧ (sl.takeRuns now rs).mon = sl.mon ∧ (sl.takeRuns now rs).ident = sl.ident ∧
      (sl.takeRuns now rs).key = sl.key ∧ (sl.takeRuns now rs).pending = sl.pending ∧ (sl.takeRuns now rs).active = sl.active ∧
      (sl.takeRuns now rs).zmap = sl.zmap ∧ (sl.takeRuns now rs).tally = sl.tally ∧ (sl.takeRuns now rs).traffic = sl.traffic ∧
      (sl.takeRuns now rs).link = sl.link ∧ (sl.takeRuns now rs).timing = sl.timing ∧ (sl.takeRuns now rs).closing = sl.closing ∧
      (sl.takeRuns now rs).command = sl.command := by
  induction rs generalizing sl with
  | nil => simp [Slot.takeRuns]
  | cons r rs ih => simpa [Slot.takeRuns] using ih (sl.takeRun now r)

/-- Good coverage reaches the defect table only (R77). -/
@[simp] theorem Slot.takeCoverage_frame (g : List (Nat × Nat)) (sl : Slot) :
    (sl.takeCoverage g).sup = sl.sup ∧ (sl.takeCoverage g).mon = sl.mon ∧ (sl.takeCoverage g).ident = sl.ident ∧
      (sl.takeCoverage g).key = sl.key ∧ (sl.takeCoverage g).pending = sl.pending ∧ (sl.takeCoverage g).active = sl.active ∧
      (sl.takeCoverage g).zmap = sl.zmap ∧ (sl.takeCoverage g).pass = sl.pass ∧ (sl.takeCoverage g).tally = sl.tally ∧
      (sl.takeCoverage g).traffic = sl.traffic ∧ (sl.takeCoverage g).link = sl.link ∧ (sl.takeCoverage g).timing = sl.timing ∧
      (sl.takeCoverage g).closing = sl.closing ∧ (sl.takeCoverage g).events = sl.events ∧ (sl.takeCoverage g).command = sl.command := by
  unfold Slot.takeCoverage; repeat' split
  all_goals simp

/-- SHIPPED is reached in the phase and by a flag (R163). -/
@[simp] theorem Slot.testShipped_frame (sl : Slot) :
    (sl.testShipped).mon = sl.mon ∧ (sl.testShipped).ident = sl.ident ∧ (sl.testShipped).key = sl.key ∧
      (sl.testShipped).pending = sl.pending ∧ (sl.testShipped).active = sl.active ∧ (sl.testShipped).zmap = sl.zmap ∧
      (sl.testShipped).pass = sl.pass ∧ (sl.testShipped).tally = sl.tally ∧ (sl.testShipped).defects = sl.defects ∧
      (sl.testShipped).traffic = sl.traffic ∧ (sl.testShipped).link = sl.link ∧ (sl.testShipped).timing = sl.timing ∧
      (sl.testShipped).closing = sl.closing ∧ (sl.testShipped).command = sl.command := by
  unfold Slot.testShipped; repeat' split
  all_goals simp

/-- The end of a lap (R57). -/
@[simp] theorem Slot.endLap_frame (sl : Slot) :
    (sl.endLap).sup = sl.sup ∧ (sl.endLap).mon = sl.mon ∧ (sl.endLap).ident = sl.ident ∧
      (sl.endLap).key = sl.key ∧ (sl.endLap).pending = sl.pending ∧ (sl.endLap).active = sl.active ∧
      (sl.endLap).defects = sl.defects ∧ (sl.endLap).traffic = sl.traffic ∧ (sl.endLap).link = sl.link ∧
      (sl.endLap).timing = sl.timing ∧ (sl.endLap).closing = sl.closing ∧ (sl.endLap).command = sl.command := by
  unfold Slot.endLap Slot.clearReadFrontiers; simp

/-- The completion of a pass (R56, R59, R60). -/
@[simp] theorem Slot.completePass_frame (sl : Slot) :
    (sl.completePass).mon = sl.mon ∧ (sl.completePass).ident = sl.ident ∧ (sl.completePass).key = sl.key ∧
      (sl.completePass).pending = sl.pending ∧ (sl.completePass).active = sl.active ∧ (sl.completePass).zmap = sl.zmap ∧
      (sl.completePass).defects = sl.defects ∧ (sl.completePass).traffic = sl.traffic ∧ (sl.completePass).link = sl.link ∧
      (sl.completePass).timing = sl.timing ∧ (sl.completePass).closing = sl.closing ∧ (sl.completePass).command = sl.command := by
  cases h : sl.pass.kind <;> simp [Slot.completePass, h]

/-- Pass control's test (R56, R57). -/
@[simp] theorem Slot.testPass_frame (sl : Slot) :
    (sl.testPass).mon = sl.mon ∧ (sl.testPass).ident = sl.ident ∧ (sl.testPass).key = sl.key ∧
      (sl.testPass).pending = sl.pending ∧ (sl.testPass).active = sl.active ∧ (sl.testPass).defects = sl.defects ∧
      (sl.testPass).traffic = sl.traffic ∧ (sl.testPass).link = sl.link ∧ (sl.testPass).timing = sl.timing ∧
      (sl.testPass).closing = sl.closing ∧ (sl.testPass).command = sl.command := by
  unfold Slot.testPass; repeat' split
  all_goals simp

/-- A finished command lowers the outstanding count (R53). -/
@[simp] theorem Slot.finishCount_frame (n : Option Nat) (sl : Slot) :
    (sl.finishCount n).sup = sl.sup ∧ (sl.finishCount n).mon = sl.mon ∧ (sl.finishCount n).ident = sl.ident ∧
      (sl.finishCount n).key = sl.key ∧ (sl.finishCount n).pending = sl.pending ∧ (sl.finishCount n).active = sl.active ∧
      (sl.finishCount n).zmap = sl.zmap ∧ (sl.finishCount n).tally = sl.tally ∧ (sl.finishCount n).defects = sl.defects ∧
      (sl.finishCount n).traffic = sl.traffic ∧ (sl.finishCount n).link = sl.link ∧ (sl.finishCount n).timing = sl.timing ∧
      (sl.finishCount n).closing = sl.closing ∧ (sl.finishCount n).events = sl.events ∧ (sl.finishCount n).command = sl.command := by
  unfold Slot.finishCount; simp

/-- A finished command may end the pass (R53, R56). -/
@[simp] theorem Slot.finish_frame (n : Option Nat) (sl : Slot) :
    (sl.finish n).mon = sl.mon ∧ (sl.finish n).ident = sl.ident ∧ (sl.finish n).key = sl.key ∧
      (sl.finish n).pending = sl.pending ∧ (sl.finish n).active = sl.active ∧ (sl.finish n).defects = sl.defects ∧
      (sl.finish n).traffic = sl.traffic ∧ (sl.finish n).link = sl.link ∧ (sl.finish n).timing = sl.timing ∧
      (sl.finish n).closing = sl.closing ∧ (sl.finish n).command = sl.command := by
  unfold Slot.finish; repeat' split
  all_goals simp

/-- A command that joins raises the outstanding count (R52). -/
@[simp] theorem Slot.join_frame (c : Cmd) (sl : Slot) :
    (sl.join c).sup = sl.sup ∧ (sl.join c).mon = sl.mon ∧ (sl.join c).ident = sl.ident ∧
      (sl.join c).key = sl.key ∧ (sl.join c).pending = sl.pending ∧ (sl.join c).active = sl.active ∧
      (sl.join c).zmap = sl.zmap ∧ (sl.join c).tally = sl.tally ∧ (sl.join c).defects = sl.defects ∧
      (sl.join c).traffic = sl.traffic ∧ (sl.join c).link = sl.link ∧ (sl.join c).timing = sl.timing ∧
      (sl.join c).closing = sl.closing ∧ (sl.join c).events = sl.events ∧ (sl.join c).command = sl.command := by
  unfold Slot.join; repeat' split
  all_goals simp

/-- The join at an issue (R52, R100). -/
@[simp] theorem Slot.joinAtIssue_frame (c : Cmd) (sl : Slot) :
    (sl.joinAtIssue c).sup = sl.sup ∧ (sl.joinAtIssue c).mon = sl.mon ∧ (sl.joinAtIssue c).ident = sl.ident ∧
      (sl.joinAtIssue c).key = sl.key ∧ (sl.joinAtIssue c).pending = sl.pending ∧ (sl.joinAtIssue c).active = sl.active ∧
      (sl.joinAtIssue c).zmap = sl.zmap ∧ (sl.joinAtIssue c).tally = sl.tally ∧ (sl.joinAtIssue c).defects = sl.defects ∧
      (sl.joinAtIssue c).traffic = sl.traffic ∧ (sl.joinAtIssue c).link = sl.link ∧ (sl.joinAtIssue c).timing = sl.timing ∧
      (sl.joinAtIssue c).closing = sl.closing ∧ (sl.joinAtIssue c).events = sl.events ∧ (sl.joinAtIssue c).command = sl.command := by
  unfold Slot.joinAtIssue; repeat' split
  all_goals simp

/-- The zones move at an issue (R54, R58). -/
@[simp] theorem Slot.moveZones_frame (zs : List Zone) (sl : Slot) :
    (sl.moveZones zs).sup = sl.sup ∧ (sl.moveZones zs).mon = sl.mon ∧ (sl.moveZones zs).ident = sl.ident ∧
      (sl.moveZones zs).key = sl.key ∧ (sl.moveZones zs).pending = sl.pending ∧ (sl.moveZones zs).active = sl.active ∧
      (sl.moveZones zs).tally = sl.tally ∧ (sl.moveZones zs).defects = sl.defects ∧ (sl.moveZones zs).traffic = sl.traffic ∧
      (sl.moveZones zs).link = sl.link ∧ (sl.moveZones zs).timing = sl.timing ∧ (sl.moveZones zs).closing = sl.closing ∧
      (sl.moveZones zs).command = sl.command := by
  unfold Slot.moveZones; dsimp only; repeat' split
  all_goals simp

/-- An aborted pass (R62). -/
@[simp] theorem Slot.abortPass_frame (sl : Slot) :
    (sl.abortPass).sup = sl.sup ∧ (sl.abortPass).mon = sl.mon ∧ (sl.abortPass).ident = sl.ident ∧
      (sl.abortPass).key = sl.key ∧ (sl.abortPass).pending = sl.pending ∧ (sl.abortPass).active = sl.active ∧
      (sl.abortPass).zmap = sl.zmap ∧ (sl.abortPass).tally = sl.tally ∧ (sl.abortPass).defects = sl.defects ∧
      (sl.abortPass).traffic = sl.traffic ∧ (sl.abortPass).link = sl.link ∧ (sl.abortPass).timing = sl.timing ∧
      (sl.abortPass).closing = sl.closing ∧ (sl.abortPass).events = sl.events ∧ (sl.abortPass).command = sl.command := by
  unfold Slot.abortPass; repeat' split
  all_goals simp

/-- A thermal hold (R61). -/
@[simp] theorem Slot.thermalHold_frame (sl : Slot) :
    (sl.thermalHold).mon = sl.mon ∧ (sl.thermalHold).ident = sl.ident ∧ (sl.thermalHold).key = sl.key ∧
      (sl.thermalHold).pending = sl.pending ∧ (sl.thermalHold).active = sl.active ∧ (sl.thermalHold).zmap = sl.zmap ∧
      (sl.thermalHold).tally = sl.tally ∧ (sl.thermalHold).defects = sl.defects ∧ (sl.thermalHold).traffic = sl.traffic ∧
      (sl.thermalHold).link = sl.link ∧ (sl.thermalHold).timing = sl.timing ∧ (sl.thermalHold).closing = sl.closing ∧
      (sl.thermalHold).command = sl.command := by
  unfold Slot.thermalHold; repeat' split
  all_goals simp

/-- A soak sample (R64, R65). -/
@[simp] theorem Slot.soakSample_frame (sl : Slot) :
    (sl.soakSample).mon = sl.mon ∧ (sl.soakSample).ident = sl.ident ∧ (sl.soakSample).key = sl.key ∧
      (sl.soakSample).pending = sl.pending ∧ (sl.soakSample).active = sl.active ∧ (sl.soakSample).zmap = sl.zmap ∧
      (sl.soakSample).pass = sl.pass ∧ (sl.soakSample).defects = sl.defects ∧ (sl.soakSample).traffic = sl.traffic ∧
      (sl.soakSample).link = sl.link ∧ (sl.soakSample).timing = sl.timing ∧ (sl.soakSample).closing = sl.closing ∧
      (sl.soakSample).command = sl.command := by
  unfold Slot.soakSample; dsimp only; repeat' split
  all_goals simp

/-- What a sample that does not trip does (R61, R64). -/
@[simp] theorem Slot.afterSample_frame (sl : Slot) :
    (sl.afterSample).mon = sl.mon ∧ (sl.afterSample).ident = sl.ident ∧ (sl.afterSample).key = sl.key ∧
      (sl.afterSample).pending = sl.pending ∧ (sl.afterSample).active = sl.active ∧ (sl.afterSample).zmap = sl.zmap ∧
      (sl.afterSample).defects = sl.defects ∧ (sl.afterSample).traffic = sl.traffic ∧ (sl.afterSample).link = sl.link ∧
      (sl.afterSample).timing = sl.timing ∧ (sl.afterSample).closing = sl.closing ∧ (sl.afterSample).command = sl.command := by
  unfold Slot.afterSample; repeat' split
  all_goals simp

/-- The region derived again (R38). -/
@[simp] theorem Slot.rederive_frame (sl : Slot) :
    (sl.rederive).sup = sl.sup ∧ (sl.rederive).mon = sl.mon ∧ (sl.rederive).ident = sl.ident ∧
      (sl.rederive).key = sl.key ∧ (sl.rederive).pending = sl.pending ∧ (sl.rederive).active = sl.active ∧
      (sl.rederive).pass = sl.pass ∧ (sl.rederive).defects = sl.defects ∧ (sl.rederive).traffic = sl.traffic ∧
      (sl.rederive).link = sl.link ∧ (sl.rederive).timing = sl.timing ∧ (sl.rederive).closing = sl.closing ∧
      (sl.rederive).events = sl.events ∧ (sl.rederive).command = sl.command := by
  unfold Slot.rederive; dsimp only; repeat' split
  all_goals simp

/-- An adoption (R175). -/
@[simp] theorem Slot.adopt_frame (r : Recipe) (sl : Slot) :
    (sl.adopt r).sup = sl.sup ∧ (sl.adopt r).ident = sl.ident ∧ (sl.adopt r).pending = sl.pending ∧
      (sl.adopt r).pass = sl.pass ∧ (sl.adopt r).defects = sl.defects ∧ (sl.adopt r).traffic = sl.traffic ∧
      (sl.adopt r).link = sl.link ∧ (sl.adopt r).timing = sl.timing ∧ (sl.adopt r).closing = sl.closing ∧
      (sl.adopt r).events = sl.events ∧ (sl.adopt r).command = sl.command := by
  simp [Slot.adopt]

/-- Power OFF (R128). -/
@[simp] theorem Slot.powerOff_frame (sl : Slot) :
    (sl.powerOff).mon = sl.mon ∧ (sl.powerOff).ident = sl.ident ∧ (sl.powerOff).key = sl.key ∧
      (sl.powerOff).pending = sl.pending ∧ (sl.powerOff).active = sl.active ∧ (sl.powerOff).zmap = sl.zmap ∧
      (sl.powerOff).pass = sl.pass ∧ (sl.powerOff).tally = sl.tally ∧ (sl.powerOff).defects = sl.defects ∧
      (sl.powerOff).traffic = sl.traffic ∧ (sl.powerOff).timing = sl.timing ∧ (sl.powerOff).closing = sl.closing ∧
      (sl.powerOff).events = sl.events ∧ (sl.powerOff).command = sl.command := by
  unfold Slot.powerOff; simp

/-- A release that completes (R166). -/
@[simp] theorem Slot.completeRelease_frame (bins : List BinEntry) (sl : Slot) :
    (sl.completeRelease bins).mon = sl.mon ∧ (sl.completeRelease bins).ident = sl.ident ∧ (sl.completeRelease bins).key = sl.key ∧
      (sl.completeRelease bins).pending = sl.pending ∧ (sl.completeRelease bins).active = sl.active ∧ (sl.completeRelease bins).zmap = sl.zmap ∧
      (sl.completeRelease bins).pass = sl.pass ∧ (sl.completeRelease bins).tally = sl.tally ∧ (sl.completeRelease bins).defects = sl.defects ∧
      (sl.completeRelease bins).traffic = sl.traffic ∧ (sl.completeRelease bins).timing = sl.timing ∧ (sl.completeRelease bins).command = sl.command := by
  unfold Slot.completeRelease; simp

/-- A posted write cancelled at the drive (R112). -/
@[simp] theorem Slot.cancelPosted_frame (now : Nat) (c : Cmd) (sl : Slot) :
    (Slot.cancelPosted now sl c).mon = sl.mon ∧ (Slot.cancelPosted now sl c).ident = sl.ident ∧ (Slot.cancelPosted now sl c).key = sl.key ∧
      (Slot.cancelPosted now sl c).pending = sl.pending ∧ (Slot.cancelPosted now sl c).active = sl.active ∧ (Slot.cancelPosted now sl c).link = sl.link ∧
      (Slot.cancelPosted now sl c).timing = sl.timing ∧ (Slot.cancelPosted now sl c).closing = sl.closing ∧ (Slot.cancelPosted now sl c).command = sl.command := by
  unfold Slot.cancelPosted; repeat' split
  all_goals simp

/-- The post list dropped on entry to FAULTED (R114). -/
@[simp] theorem Slot.dropPosted_frame (now : Nat) (sl : Slot) :
    (sl.dropPosted now).sup = sl.sup ∧ (sl.dropPosted now).mon = sl.mon ∧ (sl.dropPosted now).ident = sl.ident ∧
      (sl.dropPosted now).key = sl.key ∧ (sl.dropPosted now).pending = sl.pending ∧ (sl.dropPosted now).active = sl.active ∧
      (sl.dropPosted now).zmap = sl.zmap ∧ (sl.dropPosted now).tally = sl.tally ∧ (sl.dropPosted now).link = sl.link ∧
      (sl.dropPosted now).timing = sl.timing ∧ (sl.dropPosted now).closing = sl.closing ∧ (sl.dropPosted now).command = sl.command := by
  unfold Slot.dropPosted
  generalize sl.traffic.cmds.filter Cmd.posted = cs
  simp only [Slot.modCmds_sup, Slot.modCmds_mon, Slot.modCmds_ident, Slot.modCmds_key, Slot.modCmds_pending,
    Slot.modCmds_active, Slot.modCmds_zmap, Slot.modCmds_tally, Slot.modCmds_link, Slot.modCmds_timing,
    Slot.modCmds_closing, Slot.modCmds_command]
  induction cs generalizing sl with
  | nil => simp
  | cons c cs ih => simpa using ih ((((sl.takeRun now (c.wholeRun .writeFail)).raise .postFail).finishCount c.serial))

/-- Commands that finish one after the other (R53). -/
@[simp] theorem Slot.finishes_frame (cs : List Cmd) (sl : Slot) :
    (cs.foldl (fun x c => x.finish c.serial) sl).mon = sl.mon ∧ (cs.foldl (fun x c => x.finish c.serial) sl).ident = sl.ident ∧ (cs.foldl (fun x c => x.finish c.serial) sl).key = sl.key ∧
      (cs.foldl (fun x c => x.finish c.serial) sl).pending = sl.pending ∧ (cs.foldl (fun x c => x.finish c.serial) sl).active = sl.active ∧ (cs.foldl (fun x c => x.finish c.serial) sl).defects = sl.defects ∧
      (cs.foldl (fun x c => x.finish c.serial) sl).traffic = sl.traffic ∧ (cs.foldl (fun x c => x.finish c.serial) sl).link = sl.link ∧ (cs.foldl (fun x c => x.finish c.serial) sl).timing = sl.timing ∧
      (cs.foldl (fun x c => x.finish c.serial) sl).closing = sl.closing ∧ (cs.foldl (fun x c => x.finish c.serial) sl).command = sl.command := by
  induction cs generalizing sl with
  | nil => simp
  | cons c cs ih =>
    rw [List.foldl_cons]
    have h := ih (sl.finish c.serial)
    have g := Slot.finish_frame (c.serial) sl
    simp_all

/-- Commands that end with the entry to FAULTED (R53, R126). -/
@[simp] theorem Slot.finishCounts_frame (cs : List Cmd) (sl : Slot) :
    (cs.foldl (fun x c => x.finishCount c.serial) sl).sup = sl.sup ∧ (cs.foldl (fun x c => x.finishCount c.serial) sl).mon = sl.mon ∧ (cs.foldl (fun x c => x.finishCount c.serial) sl).ident = sl.ident ∧
      (cs.foldl (fun x c => x.finishCount c.serial) sl).key = sl.key ∧ (cs.foldl (fun x c => x.finishCount c.serial) sl).pending = sl.pending ∧ (cs.foldl (fun x c => x.finishCount c.serial) sl).active = sl.active ∧
      (cs.foldl (fun x c => x.finishCount c.serial) sl).zmap = sl.zmap ∧ (cs.foldl (fun x c => x.finishCount c.serial) sl).tally = sl.tally ∧ (cs.foldl (fun x c => x.finishCount c.serial) sl).defects = sl.defects ∧
      (cs.foldl (fun x c => x.finishCount c.serial) sl).traffic = sl.traffic ∧ (cs.foldl (fun x c => x.finishCount c.serial) sl).link = sl.link ∧ (cs.foldl (fun x c => x.finishCount c.serial) sl).timing = sl.timing ∧
      (cs.foldl (fun x c => x.finishCount c.serial) sl).closing = sl.closing ∧ (cs.foldl (fun x c => x.finishCount c.serial) sl).events = sl.events ∧ (cs.foldl (fun x c => x.finishCount c.serial) sl).command = sl.command := by
  induction cs generalizing sl with
  | nil => simp
  | cons c cs ih =>
    rw [List.foldl_cons]
    have h := ih (sl.finishCount c.serial)
    have g := Slot.finishCount_frame (c.serial) sl
    simp_all

/-- Posted writes cancelled one after the other (R112). -/
@[simp] theorem Slot.cancelAll_frame (now : Nat) (cs : List Cmd) (sl : Slot) :
    (cs.foldl (Slot.cancelPosted now) sl).mon = sl.mon ∧ (cs.foldl (Slot.cancelPosted now) sl).ident = sl.ident ∧ (cs.foldl (Slot.cancelPosted now) sl).key = sl.key ∧
      (cs.foldl (Slot.cancelPosted now) sl).pending = sl.pending ∧ (cs.foldl (Slot.cancelPosted now) sl).active = sl.active ∧ (cs.foldl (Slot.cancelPosted now) sl).link = sl.link ∧
      (cs.foldl (Slot.cancelPosted now) sl).timing = sl.timing ∧ (cs.foldl (Slot.cancelPosted now) sl).closing = sl.closing ∧ (cs.foldl (Slot.cancelPosted now) sl).command = sl.command := by
  induction cs generalizing sl with
  | nil => simp
  | cons c cs ih =>
    rw [List.foldl_cons]
    have h := ih (Slot.cancelPosted now sl c)
    have g := Slot.cancelPosted_frame now c sl
    simp_all

/-- Cancelled writes return to the queue (R113). -/
@[simp] theorem Slot.requeue_frame (sl : Slot) :
    (sl.requeue).sup = sl.sup ∧ (sl.requeue).mon = sl.mon ∧ (sl.requeue).ident = sl.ident ∧
      (sl.requeue).key = sl.key ∧ (sl.requeue).pending = sl.pending ∧ (sl.requeue).active = sl.active ∧
      (sl.requeue).zmap = sl.zmap ∧ (sl.requeue).pass = sl.pass ∧ (sl.requeue).tally = sl.tally ∧
      (sl.requeue).defects = sl.defects ∧ (sl.requeue).link = sl.link ∧ (sl.requeue).timing = sl.timing ∧
      (sl.requeue).closing = sl.closing ∧ (sl.requeue).events = sl.events ∧ (sl.requeue).command = sl.command := by
  unfold Slot.requeue; simp

/-- The link is UP after a reset (R122). -/
@[simp] theorem Slot.resetDone_frame (sl : Slot) :
    (sl.resetDone).sup = sl.sup ∧ (sl.resetDone).mon = sl.mon ∧ (sl.resetDone).ident = sl.ident ∧
      (sl.resetDone).key = sl.key ∧ (sl.resetDone).pending = sl.pending ∧ (sl.resetDone).active = sl.active ∧
      (sl.resetDone).zmap = sl.zmap ∧ (sl.resetDone).pass = sl.pass ∧ (sl.resetDone).tally = sl.tally ∧
      (sl.resetDone).defects = sl.defects ∧ (sl.resetDone).traffic = sl.traffic ∧ (sl.resetDone).closing = sl.closing ∧
      (sl.resetDone).events = sl.events ∧ (sl.resetDone).command = sl.command := by
  unfold Slot.resetDone; simp

/-- Identification (R131). -/
@[simp] theorem Slot.identify_frame (d : Identification) (sl : Slot) :
    (sl.identify d).mon = sl.mon ∧ (sl.identify d).pending = sl.pending ∧ (sl.identify d).active = sl.active ∧
      (sl.identify d).pass = sl.pass ∧ (sl.identify d).tally = sl.tally ∧ (sl.identify d).defects = sl.defects ∧
      (sl.identify d).traffic = sl.traffic ∧ (sl.identify d).link = sl.link ∧ (sl.identify d).timing = sl.timing ∧
      (sl.identify d).closing = sl.closing ∧ (sl.identify d).command = sl.command := by
  unfold Slot.identify; simp

/-- The next sample (R136). -/
@[simp] theorem Slot.scheduleSample_frame (sl : Slot) :
    (sl.scheduleSample).mon = sl.mon ∧ (sl.scheduleSample).ident = sl.ident ∧ (sl.scheduleSample).key = sl.key ∧
      (sl.scheduleSample).pending = sl.pending ∧ (sl.scheduleSample).active = sl.active ∧ (sl.scheduleSample).zmap = sl.zmap ∧
      (sl.scheduleSample).pass = sl.pass ∧ (sl.scheduleSample).tally = sl.tally ∧ (sl.scheduleSample).defects = sl.defects ∧
      (sl.scheduleSample).traffic = sl.traffic ∧ (sl.scheduleSample).link = sl.link ∧ (sl.scheduleSample).timing = sl.timing ∧
      (sl.scheduleSample).closing = sl.closing ∧ (sl.scheduleSample).events = sl.events ∧ (sl.scheduleSample).command = sl.command := by
  unfold Slot.scheduleSample; simp

/-- One sample on both monitors (R136 to R139). -/
@[simp] theorem Slot.sample_frame (current : BitVec 32) (temp : BitVec 16) (sl : Slot) :
    (sl.sample current temp).sup = sl.sup ∧ (sl.sample current temp).ident = sl.ident ∧ (sl.sample current temp).key = sl.key ∧
      (sl.sample current temp).pending = sl.pending ∧ (sl.sample current temp).active = sl.active ∧ (sl.sample current temp).zmap = sl.zmap ∧
      (sl.sample current temp).pass = sl.pass ∧ (sl.sample current temp).tally = sl.tally ∧ (sl.sample current temp).defects = sl.defects ∧
      (sl.sample current temp).traffic = sl.traffic ∧ (sl.sample current temp).link = sl.link ∧ (sl.sample current temp).timing = sl.timing ∧
      (sl.sample current temp).closing = sl.closing ∧ (sl.sample current temp).command = sl.command := by
  unfold Slot.sample; simp

/-- The first step of a trip (R141). -/
@[simp] theorem Slot.tripPower_frame (sl : Slot) :
    (sl.tripPower).mon = sl.mon ∧ (sl.tripPower).ident = sl.ident ∧ (sl.tripPower).key = sl.key ∧
      (sl.tripPower).pending = sl.pending ∧ (sl.tripPower).active = sl.active ∧ (sl.tripPower).zmap = sl.zmap ∧
      (sl.tripPower).pass = sl.pass ∧ (sl.tripPower).tally = sl.tally ∧ (sl.tripPower).defects = sl.defects ∧
      (sl.tripPower).traffic = sl.traffic ∧ (sl.tripPower).timing = sl.timing ∧ (sl.tripPower).closing = sl.closing ∧
      (sl.tripPower).events = sl.events ∧ (sl.tripPower).command = sl.command := by
  unfold Slot.tripPower; simp

/-- An issue (R100). -/
@[simp] theorem Slot.issueCmd_frame (now : Nat) (n : BitVec 8) (i : SlotId) (d : DriveTag) (before : List Cmd) (c : Cmd) (after : List Cmd) (sl : Slot) :
    (sl.issueCmd now n i d before c after).mon = sl.mon ∧ (sl.issueCmd now n i d before c after).ident = sl.ident ∧ (sl.issueCmd now n i d before c after).key = sl.key ∧
      (sl.issueCmd now n i d before c after).pending = sl.pending ∧ (sl.issueCmd now n i d before c after).active = sl.active ∧ (sl.issueCmd now n i d before c after).defects = sl.defects ∧
      (sl.issueCmd now n i d before c after).timing = sl.timing ∧ (sl.issueCmd now n i d before c after).closing = sl.closing ∧ (sl.issueCmd now n i d before c after).command = sl.command := by
  unfold Slot.issueCmd; dsimp only; repeat' split
  all_goals simp

/-- The completion of a posted write (R110, R111). -/
@[simp] theorem Slot.postReturned_frame (now : Nat) (d : DriveTag) (c : Cmd) (status : DriveStatus) (sl : Slot) :
    (sl.postReturned now d c status).mon = sl.mon ∧ (sl.postReturned now d c status).ident = sl.ident ∧ (sl.postReturned now d c status).key = sl.key ∧
      (sl.postReturned now d c status).pending = sl.pending ∧ (sl.postReturned now d c status).active = sl.active ∧ (sl.postReturned now d c status).link = sl.link ∧
      (sl.postReturned now d c status).timing = sl.timing ∧ (sl.postReturned now d c status).closing = sl.closing ∧ (sl.postReturned now d c status).command = sl.command := by
  cases status <;> simp [Slot.postReturned]

end Sys2Proof.Machine
end

