-- ==== Sys2Proof/Laws/Responder.lean ====
section
/-! SUPPORT. The entry of a control command while the responder answers it (R93 to R95): what the responder does stands apart
from the slot's command table, so an answered control command leaves the table as it found it. -/

namespace Sys2Proof.Machine

/-! ## Entries -/

/-- The slot of a part that took an entry. -/
theorem State.takeEntry_slot (s : State) (i : SlotId) (c : Cmd) :
    (s.takeEntry i c).slot i = (s.slot i).modCmds fun cs => cs ++ [c] := by
  simp [State.takeEntry]

/-- No command of a slot holds a free tag. -/
theorem Slot.filter_free (sl : Slot) (t : Tag) (h : sl.tagBusy t = false) :
    (sl.traffic.cmds.filter fun c => c.tag != some t) = sl.traffic.cmds := by
  rw [List.filter_eq_self]
  simpa [Slot.tagBusy] using h

/-- An entry under a free tag, taken and freed, leaves the table as it was. -/
theorem State.freeEntry_takeEntry (s : State) (i : SlotId) (t : Tag) (c : Cmd) (hc : c.tag = some t)
    (ht : (s.slot i).tagBusy t = false) : (s.takeEntry i c).freeEntry i t = s := by
  have h := Slot.filter_free _ t ht
  simp only [State.freeEntry, State.takeEntry, State.modSlot, State.slot_setSlot, State.setSlot_setSlot, Slot.modCmds,
    Slot.modTraffic, List.filter_append, h]
  simp only [List.filter_cons, hc, bne_self_eq_false, Bool.false_eq_true, if_false, List.filter_nil, List.append_nil]
  exact s.setSlot_self i

/-- Records sent and an entry freed stand apart. -/
theorem State.freeEntry_say (s : State) (out : List Upstream) (i : SlotId) (t : Tag) :
    (s.say out).freeEntry i t = (s.freeEntry i t).say out := rfl

/-- The drains do not see a control command's entry. -/
theorem Slot.drained_takeEntry (sl : Slot) (c : Cmd) (hs : c.state = .atResponder) :
    (sl.modCmds fun cs => cs ++ [c]).drained = sl.drained := by
  simp [Slot.drained, Slot.modCmds, Slot.modTraffic, Cmd.isData, hs]

theorem Slot.quiet_takeEntry (sl : Slot) (c : Cmd) (hs : c.state = .atResponder) :
    (sl.modCmds fun cs => cs ++ [c]).quiet = sl.quiet := by
  simp [Slot.quiet, Slot.modCmds, Slot.modTraffic, Cmd.isData, hs]

/-! ## What a command does to a slot and the slot's command list stand apart -/

theorem Slot.rederive_modCmds (g : List Cmd → List Cmd) (sl : Slot) :
    (sl.modCmds g).rederive = sl.rederive.modCmds g := by
  by_cases h : deriveRegion sl.active sl.ident = sl.zmap.region <;>
    simp [Slot.rederive, Slot.modCmds, Slot.modTraffic, h]

theorem Slot.adopt_modCmds (r : Recipe) (g : List Cmd → List Cmd) (sl : Slot) :
    Slot.adopt r (sl.modCmds g) = (Slot.adopt r sl).modCmds g := by
  have := Slot.rederive_modCmds g { sl with active := r.clamp }
  simp only [Slot.adopt, Slot.modCmds, Slot.modTraffic] at this ⊢
  rw [this]

theorem Slot.testShipped_modCmds (g : List Cmd → List Cmd) (sl : Slot) :
    (sl.modCmds g).testShipped = sl.testShipped.modCmds g := by
  unfold Slot.testShipped; rw [apply_ite (Slot.modCmds g)]; rfl

theorem Slot.completePass_modCmds (g : List Cmd → List Cmd) (sl : Slot) :
    (sl.modCmds g).completePass = sl.completePass.modCmds g := by
  have hs := Slot.testShipped_modCmds g ((sl.modPass fun p => { p with state := .complete }).raise .passDone)
  cases h : sl.pass.kind <;>
    simp only [Slot.completePass, show (sl.modCmds g).pass = sl.pass from rfl, h]
  · rfl
  · rfl
  · rfl
  · exact hs

theorem Slot.testPass_modCmds (g : List Cmd → List Cmd) (sl : Slot) :
    (sl.modCmds g).testPass = sl.testPass.modCmds g := by
  simp only [Slot.testPass, show (sl.modCmds g).pass = sl.pass from rfl, Slot.completePass_modCmds]
  rw [apply_ite (Slot.modCmds g), apply_ite (Slot.modCmds g)]; rfl

theorem Slot.abortPass_modCmds (g : List Cmd → List Cmd) (sl : Slot) :
    (sl.modCmds g).abortPass = sl.abortPass.modCmds g := by
  unfold Slot.abortPass; rw [apply_ite (Slot.modCmds g)]; rfl

theorem Slot.clearFlags_modCmds (m : BitVec 16) (g : List Cmd → List Cmd) (sl : Slot) :
    Slot.clearFlags m (sl.modCmds g) = (Slot.clearFlags m sl).modCmds g := by
  unfold Slot.clearFlags; rw [apply_ite (Slot.modCmds g)]; rfl

/-! ## What a command does to the part -/

/-- The command list of slot `i` becomes `g` of what it was. -/
def State.modList (i : SlotId) (g : List Cmd → List Cmd) (s : State) : State := s.modSlot i (Slot.modCmds g)

/-- The same in what a command leaves. -/
def Done.modList (i : SlotId) (g : List Cmd → List Cmd) (d : Done) : Done := { d with state := d.state.modList i g }

@[simp] theorem State.modList_slot (s : State) (i : SlotId) (g : List Cmd → List Cmd) :
    (s.modList i g).slot i = (s.slot i).modCmds g := by simp [State.modList]

/-- Two updates of one slot that stand apart may be made in either order. -/
theorem State.modSlot_modList (s : State) (i : SlotId) (f : Slot → Slot) (g : List Cmd → List Cmd)
    (h : f ((s.slot i).modCmds g) = (f (s.slot i)).modCmds g) :
    (s.modList i g).modSlot i f = (s.modSlot i f).modList i g := by
  simp only [State.modList, State.modSlot, State.slot_setSlot, State.setSlot_setSlot, h]

theorem doSlot_modList (s : State) (i : SlotId) (f : Slot → Slot) (g : List Cmd → List Cmd)
    (h : f ((s.slot i).modCmds g) = (f (s.slot i)).modCmds g) :
    doSlot i f (s.modList i g) = (doSlot i f s).modList i g := by
  simp only [doSlot, Done.modList, State.modSlot_modList s i f g h]

theorem refuseWith_modList (s : State) (i : SlotId) (o : CmdOutcome) (g : List Cmd → List Cmd) :
    refuseWith o (s.modList i g) = (refuseWith o s).modList i g := rfl

/-- The start of a computation does not see the command list. -/
theorem State.startNext_modList (s : State) (i : SlotId) (g : List Cmd → List Cmd) :
    (s.modList i g).startNext = s.startNext.modList i g := by
  obtain ⟨p, sl, sh, po, up, el, ⟨q, c⟩⟩ := s
  cases c with
  | some c => rfl
  | none =>
    cases q with
    | nil => rfl
    | cons j rest =>
      by_cases hj : j = i
      · subst hj
        simp only [State.startNext, State.modList, State.modSlot, State.slot, State.setSlot]
        simp [Slot.gradeInputs, Slot.modCmds, Slot.modTraffic, Slot.setStep, Slot.modClosing, Slot.modSup, State.now]
      · have hv : (i : Fin 8).val ≠ j.val := fun h => hj (Fin.ext h.symm)
        simp only [State.startNext, State.modList, State.modSlot, State.slot, State.setSlot]
        simp [Vector.getElem_set_ne _ _ hv, Vector.getElem_set_ne _ _ (Ne.symm hv), Vector.set_comm _ _ hv, State.now]

/-- The closing drain ends, or goes on, whatever the list's control commands. -/
theorem State.testDrain_modList (s : State) (i : SlotId) (g : List Cmd → List Cmd)
    (hd : ((s.slot i).modCmds g).drained = (s.slot i).drained) :
    (s.modList i g).testDrain i = (s.testDrain i).modList i g := by
  simp only [State.testDrain, State.modList_slot, Slot.modCmds_closing, hd]
  rw [apply_ite (State.modList i g)]
  congr 1
  rw [← State.startNext_modList]
  congr 1
  simp only [State.modSlot_modList s i (Slot.setStep .queued) g rfl]
  rfl

/-- The release completes, or waits, whatever the list's control commands. -/
theorem State.testRelease_modList (s : State) (i : SlotId) (g : List Cmd → List Cmd)
    (hq : ((s.slot i).modCmds g).quiet = (s.slot i).quiet) :
    (s.modList i g).testRelease i = (s.testRelease i).modList i g := by
  simp only [State.testRelease, State.modList_slot, Slot.modCmds_closing, hq]
  rw [apply_ite (State.modList i g)]
  congr 1
  exact State.modSlot_modList s i (Slot.completeRelease s.shelf.bins) g rfl

/-! ## The commands -/

section
variable (s : State) (i : SlotId) (g : List Cmd → List Cmd)

theorem armAdopted_modList (w e : Bool) : armAdopted i w e (s.modList i g) = (armAdopted i w e s).modList i g := by
  simp only [armAdopted, State.modList_slot, Slot.modCmds_zmap, Slot.modCmds_tally, refuseWith_modList]
  rw [doSlot_modList, apply_ite (Done.modList i g), apply_ite (Done.modList i g)]
  cases w <;> rfl

theorem runArm_modList (a b : Word) : runArm i a b (s.modList i g) = (runArm i a b s).modList i g := by
  simp only [runArm, State.modList_slot, Slot.modCmds_sup, refuseWith_modList]
  rw [State.modSlot_modList s i _ g (by rw [Slot.modCmds_pending]; exact Slot.adopt_modCmds _ _ _), armAdopted_modList,
    apply_ite (Done.modList i g), apply_ite (Done.modList i g)]

theorem runHold_modList : runHold i (s.modList i g) = (runHold i s).modList i g := by
  simp only [runHold, State.modList_slot, Slot.modCmds_sup, refuseWith_modList]
  rw [doSlot_modList, apply_ite (Done.modList i g)]
  rfl

theorem runResume_modList : runResume i (s.modList i g) = (runResume i s).modList i g := by
  simp only [runResume, State.modList_slot, Slot.modCmds_sup, Slot.modCmds_mon, refuseWith_modList]
  rw [doSlot_modList, apply_ite (Done.modList i g), apply_ite (Done.modList i g)]
  rw [← Slot.testPass_modCmds]
  rfl

theorem runAbort_modList : runAbort i (s.modList i g) = (runAbort i s).modList i g := by
  have h : ∀ sl : Slot, ((sl.modCmds g).abortPass).setPhase .graded = (sl.abortPass.setPhase .graded).modCmds g :=
    fun sl => by rw [Slot.abortPass_modCmds]; rfl
  simp only [runAbort, State.modList_slot, Slot.modCmds_sup]
  cases (s.slot i).sup.phase <;> first | rfl | exact doSlot_modList s i _ g rfl | exact doSlot_modList s i _ g (h _)

theorem runSoak_modList (a : Word) : runSoak i a (s.modList i g) = (runSoak i a s).modList i g := by
  simp only [runSoak, State.modList_slot, Slot.modCmds_sup, refuseWith_modList]
  rw [doSlot_modList, apply_ite (Done.modList i g)]
  rfl

theorem runAdopt_modList : runAdopt i (s.modList i g) = (runAdopt i s).modList i g := by
  have h : ∀ sl : Slot, (sl.modCmds g).adopt (sl.modCmds g).pending = (sl.adopt sl.pending).modCmds g :=
    fun sl => Slot.adopt_modCmds _ _ _
  simp only [runAdopt, State.modList_slot, Slot.modCmds_sup]
  cases (s.slot i).sup.phase <;> first | rfl | exact doSlot_modList s i _ g (h _)

theorem runClose_modList (hd : ((s.slot i).modCmds g).drained = (s.slot i).drained) :
    runClose i (s.modList i g) = (runClose i s).modList i g := by
  have h : ((s.modList i g).modSlot i fun sl => (sl.setPhase .grading).setStep .draining).testDrain i =
      (((s.modSlot i fun sl => (sl.setPhase .grading).setStep .draining)).testDrain i).modList i g := by
    rw [State.modSlot_modList, State.testDrain_modList]
    · rw [State.slot_modSlot]; exact hd
    · rfl
  simp only [runClose, State.modList_slot, Slot.modCmds_sup, refuseWith_modList, h]
  rw [apply_ite (Done.modList i g)]
  congr 1
  cases (s.slot i).sup.phase <;> rfl

theorem runShip_modList : runShip i (s.modList i g) = (runShip i s).modList i g := by
  have h : ∀ sl : Slot, ((sl.modCmds g).armShip.setPhase .shipping).testPass =
      ((sl.armShip.setPhase .shipping).testPass).modCmds g :=
    fun sl => by rw [← Slot.testPass_modCmds]; rfl
  simp only [runShip, State.modList_slot, Slot.modCmds_sup, Slot.modCmds_closing, Slot.modCmds_tally, refuseWith_modList]
  rw [doSlot_modList, apply_ite (Done.modList i g), apply_ite (Done.modList i g)]
  exact h _

theorem runRelease_modList (hq : ((s.slot i).modCmds g).quiet = (s.slot i).quiet) :
    runRelease i (s.modList i g) = (runRelease i s).modList i g := by
  have h : ((s.modList i g).modSlot i fun sl => sl.modClosing fun c => { c with releasePending := true }).testRelease i =
      ((s.modSlot i fun sl => sl.modClosing fun c => { c with releasePending := true }).testRelease i).modList i g := by
    rw [State.modSlot_modList, State.testRelease_modList]
    · rw [State.slot_modSlot]; exact hq
    · rfl
  simp only [runRelease, State.modList_slot, Slot.modCmds_sup, Slot.modCmds_closing, h]
  cases (s.slot i).sup.phase <;> first | rfl | (dsimp only; rw [apply_ite (Done.modList i g)]; rfl)

theorem runClearEvents_modList (a : Word) : runClearEvents i a (s.modList i g) = (runClearEvents i a s).modList i g :=
  doSlot_modList s i _ g (Slot.clearFlags_modCmds _ g _)

theorem runSetMask_modList (a : Word) : runSetMask i a (s.modList i g) = (runSetMask i a s).modList i g :=
  doSlot_modList s i _ g rfl

/-- Every command but RESET-SLOT leaves the command list alone, and sees of it only what the two drains see. -/
theorem runCommand_modList (t : Tag) (code a b : Word) (hd : ((s.slot i).modCmds g).drained = (s.slot i).drained)
    (hq : ((s.slot i).modCmds g).quiet = (s.slot i).quiet) (hc : code ≠ 10) :
    runCommand i t code a b (s.modList i g) = (runCommand i t code a b s).modList i g := by
  simp only [runCommand, if_neg hc, runArm_modList, runHold_modList, runResume_modList, runAbort_modList, runSoak_modList,
    runAdopt_modList, runClose_modList s i g hd, runShip_modList, runRelease_modList s i g hq, runClearEvents_modList,
    runSetMask_modList, refuseWith_modList, ← apply_ite (Done.modList i g)]

end

/-- What RESET-SLOT makes of a slot does not depend on the entries it ends, and leaves no entry. -/
theorem Act.resetSlot_takeEntry (sl : Slot) (i : SlotId) (t : Tag) (now : Nat) (default : Recipe) (c : Cmd)
    (hc : c.tag = some t) (ht : sl.tagBusy t = false) :
    (Act.start (sl.modCmds fun cs => cs ++ [c])).resetSlot i t now default =
      (Act.start sl).resetSlot i t now default := by
  have he : ((sl.modCmds fun cs => cs ++ [c]).traffic.cmds.filter fun c => c.tag != some t) =
      sl.traffic.cmds.filter fun c => c.tag != some t := by simp [hc]
  simp only [Act.resetSlot, Act.start, he]
  rfl

theorem Act.resetSlot_cmds (x : Act) (i : SlotId) (t : Tag) (now : Nat) (default : Recipe) :
    (x.resetSlot i t now default).sl.traffic.cmds = [] := by
  simp [Act.resetSlot, Act.mod, Act.say, Slot.clearRecords, Traffic.empty]

/-- A slot with no command has no entry to free. -/
theorem Slot.modCmds_empty (sl : Slot) (g : List Cmd → List Cmd) (h : sl.traffic.cmds = []) (hg : g [] = []) :
    sl.modCmds g = sl := by
  obtain ⟨_, _, _, _, _, _, _, _, _, _, ⟨cmds, _, _⟩, _, _, _, _, _⟩ := sl
  cases h
  simp [Slot.modCmds, Slot.modTraffic, hg]

/-- RESET-SLOT ends every entry but the one of the control write that carries it, and leaves none. -/
theorem runResetSlot_takeEntry (s : State) (i : SlotId) (t : Tag) (c : Cmd) (hc : c.tag = some t)
    (ht : (s.slot i).tagBusy t = false) :
    (runResetSlot i t (s.takeEntry i c)).outcome = (runResetSlot i t s).outcome ∧
      ((runResetSlot i t (s.takeEntry i c)).state).freeEntry i t = (runResetSlot i t s).state := by
  have hf := s.freeEntry_takeEntry i t c hc ht
  have hr : ((s.slot i).modCmds fun cs => cs ++ [c]).resettable = (s.slot i).resettable := rfl
  have hx := Act.resetSlot_takeEntry (s.slot i) i t s.now s.shelf.recipe c hc ht
  have hn : (s.takeEntry i c).now = s.now := rfl
  have hs : (s.takeEntry i c).shelf = s.shelf := rfl
  simp only [runResetSlot, State.takeEntry_slot, hr, Slot.modCmds_sup, hn, hs, hx]
  split
  · exact ⟨rfl, hf⟩
  · split
    · refine ⟨rfl, ?_⟩
      simp only [State.commit, State.freeEntry_say]
      congr 1
      simp only [State.freeEntry, State.takeEntry, State.modSlot, State.slot_setSlot, State.setSlot_setSlot]
      rw [Slot.modCmds_empty _ _ (Act.resetSlot_cmds _ _ _ _ _) (by rfl)]
    · exact ⟨rfl, hf⟩

/-! ## An answered control command -/

/-- An update of a slot that does not see its commands, and an entry freed, stand apart. -/
theorem State.freeEntry_modSlot (s : State) (i : SlotId) (t : Tag) (f : Slot → Slot)
    (h : ∀ g, f ((s.slot i).modCmds g) = (f (s.slot i)).modCmds g) :
    (s.modSlot i f).freeEntry i t = (s.freeEntry i t).modSlot i f := (State.modSlot_modList s i f _ (h _)).symm

/-- A command given by a control write leaves the part as if the write had held no entry. -/
theorem State.takeCommand_takeEntry (s : State) (i : SlotId) (t : Tag) (code a b : Word) (c : Cmd) (hc : c.tag = some t)
    (hs : c.state = .atResponder) (ht : (s.slot i).tagBusy t = false) :
    ((s.takeEntry i c).takeCommand i t code a b).freeEntry i t = s.takeCommand i t code a b := by
  let u := s.modSlot i (Slot.modCommand (CommandBlock.taken code a b))
  have hu : (s.takeEntry i c).modSlot i (Slot.modCommand (CommandBlock.taken code a b)) = u.takeEntry i c :=
    State.modSlot_modList s i (Slot.modCommand (CommandBlock.taken code a b)) (fun cs => cs ++ [c]) rfl
  have hut : (u.slot i).tagBusy t = false := by simp only [u, State.slot_modSlot]; exact ht
  have key : (runCommand i t code a b (u.takeEntry i c)).outcome = (runCommand i t code a b u).outcome ∧
      ((runCommand i t code a b (u.takeEntry i c)).state).freeEntry i t = (runCommand i t code a b u).state := by
    by_cases h10 : code = 10
    · subst h10
      exact runResetSlot_takeEntry u i t c hc hut
    · have hd := Slot.drained_takeEntry (u.slot i) c hs
      have hq := Slot.quiet_takeEntry (u.slot i) c hs
      have hf := u.freeEntry_takeEntry i t c hc hut
      have hsl : ((u.takeEntry i c).slot i).modCmds (fun cs => cs.filter fun c => c.tag != some t) = u.slot i := by
        rw [← congrArg (fun s => State.slot s i) hf]
        simp [State.freeEntry]
      have h := runCommand_modList (u.takeEntry i c) i (fun cs => cs.filter fun c => c.tag != some t) t code a b
        (by rw [hsl, State.takeEntry_slot, hd]) (by rw [hsl, State.takeEntry_slot, hq]) h10
      have h' : runCommand i t code a b u =
          (runCommand i t code a b (u.takeEntry i c)).modList i (fun cs => cs.filter fun c => c.tag != some t) := by
        rw [← h]; exact congrArg _ hf.symm
      exact ⟨by rw [h']; rfl, by rw [h']; rfl⟩
  simp only [State.takeCommand, hu]
  rw [State.freeEntry_modSlot _ _ _ _ fun _ => rfl, key.1, key.2]

/-- What the responder does with a control write leaves the part as if the write had held no entry. -/
theorem State.windowTake_takeEntry (s : State) (i : SlotId) (t : Tag) (offset : Nat) (data : Block) (c : Cmd)
    (hc : c.tag = some t) (hs : c.state = .atResponder) (ht : (s.slot i).tagBusy t = false) :
    ((s.takeEntry i c).windowTake i t offset data).freeEntry i t = s.windowTake i t offset data := by
  have hf := s.freeEntry_takeEntry i t c hc ht
  unfold State.windowTake
  split
  · rw [State.freeEntry_say, State.takeCommand_takeEntry s i t _ _ _ c hc hs ht]
  · split
    · rw [State.freeEntry_say, State.freeEntry_modSlot _ _ _ _ fun _ => rfl, hf]
    · split
      · conv => rhs; rw [← hf]
        rfl
      · rw [State.freeEntry_say, hf]

/-- A control write under a free tag: what the responder does with it. -/
theorem State.controlWrite_eq (s : State) (i : SlotId) (r : Record) (ht : (s.slot i).tagBusy r.tag = false) :
    s.controlWrite i r = s.windowTake i r.tag (r.start - Config.controlBase) (r.frames.getD 0 []) :=
  State.windowTake_takeEntry s i r.tag _ _ _ rfl rfl ht

/-- A control read under a free tag: held under its entry, or answered with the block as it stands with that entry. -/
theorem State.controlRead_eq (s : State) (i : SlotId) (r : Record) (ht : (s.slot i).tagBusy r.tag = false) :
    s.controlRead i r =
      let offset := r.start - Config.controlBase
      if offset = 16 ∧ (s.slot i).holdsGradeRead = true then s.takeEntry i (r.toControl .read)
      else s.say [.frame i ((s.takeEntry i (r.toControl .read)).windowBlock i offset), reply i r.tag .good] := by
  have hf := s.freeEntry_takeEntry i r.tag (r.toControl .read) rfl ht
  have hh : ((s.takeEntry i (r.toControl .read)).slot i).holdsGradeRead = (s.slot i).holdsGradeRead := by
    rw [State.takeEntry_slot]; rfl
  simp only [State.controlRead, hh, State.freeEntry_say, hf]

/-- No block of the window but STATUS shows an entry. -/
theorem State.windowBlock_takeEntry (s : State) (i : SlotId) (c : Cmd) (offset : Nat) (h : offset ≠ 0) :
    (s.takeEntry i c).windowBlock i offset = s.windowBlock i offset := by
  have ha : ∀ j, ((s.takeEntry i c).slot j).attention = (s.slot j).attention := by
    intro j
    by_cases hj : j = i
    · subst hj; rw [State.takeEntry_slot]; rfl
    · rw [State.takeEntry, State.slot_modSlot_ne s _ hj]
  have hsum : (s.takeEntry i c).attentionSummary = s.attentionSummary := by
    simp only [State.attentionSummary, ha]
  have hshelf : (s.takeEntry i c).shelfBlock = s.shelfBlock := by
    unfold State.shelfBlock; rw [hsum]; rfl
  unfold State.windowBlock
  simp only [State.takeEntry_slot, hshelf]
  split <;> first | rfl | exact absurd rfl h

end Sys2Proof.Machine
end

