-- ==== Sys2Proof/Laws/Admission.lean ====
section
/-! SUPPORT. What the shelf link port and admission do: a write given up, one-block accesses of the control window, and
records that a slot takes or refuses. -/

namespace Sys2Proof.Machine

/-! ## The port -/

@[simp] theorem State.portGivenUp_slot (s : State) (i : SlotId) : s.portGivenUp.slot i = s.slot i := by
  unfold State.portGivenUp; split <;> rfl
@[simp] theorem State.portGivenUp_slots (s : State) : s.portGivenUp.slots = s.slots := by
  unfold State.portGivenUp; split <;> rfl
@[simp] theorem State.portGivenUp_shelf (s : State) : s.portGivenUp.shelf = s.shelf := by
  unfold State.portGivenUp; split <;> rfl
@[simp] theorem State.portGivenUp_grader (s : State) : s.portGivenUp.grader = s.grader := by
  unfold State.portGivenUp; split <;> rfl
@[simp] theorem State.portGivenUp_pending (s : State) : s.portGivenUp.pending = s.pending := by
  unfold State.portGivenUp; split <;> rfl
@[simp] theorem State.portGivenUp_engineLast (s : State) : s.portGivenUp.engineLast = s.engineLast := by
  unfold State.portGivenUp; split <;> rfl
@[simp] theorem State.portGivenUp_port (s : State) : s.portGivenUp.port = none := by
  unfold State.portGivenUp; split <;> simp_all

/-- The cases of R90 for a READ and a WRITE. -/
theorem Record.malformed_iff (r : Record) (h : r.kind = some .read ∨ r.kind = some .write) :
    r.malformed = true ↔
      r.count.toNat = 0 ∨ 256 < r.count.toNat ∨ 281474976710656 < r.addr.toNat + r.count.toNat
        ∨ (r.omitted = true ∧ r.kind ≠ some .write) ∨ r.complete = false
        ∨ (281474976710592 ≤ r.addr.toNat ∧ r.count.toNat ≠ 1)
        ∨ (r.kind = some .write ∧ r.omitted = true ∧ 281474976710592 ≤ r.addr.toNat) := by
  have hr : r.hasRange = true := by rcases h with h | h <;> simp [Record.hasRange, h]
  have hs : r.kind.isNone = false := by rcases h with h | h <;> simp [h]
  simp only [Record.malformed, hr, hs, Record.omits, Record.start, Record.length, Config.addressEnd,
    Config.controlBase]
  grind

/-- A malformed record is refused by the first check. -/
theorem Slot.refusal_malformed (sl : Slot) (r : Record) (h : r.malformed = true) : sl.refusal r = some .malformed := by
  simp [Slot.refusal, h]

/-- A record that a slot refuses only completes. -/
theorem State.deliver_refused (s : State) (i : SlotId) (r : Record) (c : Condition)
    (h : (s.slot i).refusal r = some c) : s.deliver i r = s.say [reply i r.tag c] := by
  simp [State.deliver, h]

theorem State.deliver_malformed (s : State) (i : SlotId) (r : Record) (h : r.malformed = true) :
    s.deliver i r = s.say [reply i r.tag .malformed] :=
  s.deliver_refused i r _ (Slot.refusal_malformed _ r h)

theorem Collecting.record_false_malformed (c : Collecting) : (c.record false).malformed = true := by
  simp [Collecting.record, Record.malformed]

/-- A record that arrives before a write's last frame gives that write up. -/
theorem State.closePort_eq (s : State) : s.closePort = s.portGivenUp := by
  unfold State.closePort State.portGivenUp
  cases s.port with
  | none => rfl
  | some c => exact State.deliver_malformed _ _ _ (Collecting.record_false_malformed c)

theorem State.arrive_eq (s : State) (i : SlotId) (r : Record) : s.arrive i r = s.portGivenUp.deliver i r := by
  rw [State.arrive, State.closePort_eq]

theorem State.arrive_malformed (s : State) (i : SlotId) (r : Record) (h : r.malformed = true) :
    s.arrive i r = s.portGivenUp.say [reply i r.tag .malformed] := by
  rw [State.arrive_eq, State.deliver_malformed _ _ _ h]

/-! ## One-block accesses of the control window -/

/-- A well-formed control command passes every check but the tag's. -/
theorem Slot.refusal_control (sl : Slot) (r : Record) (hm : r.malformed = false) (hc : r.isControl = true) :
    sl.refusal r = if sl.tagBusy r.tag then some .tagBusy else none := by
  simp [Slot.refusal, hm, hc, Slot.rangeRefusal]

theorem State.deliver_control (s : State) (i : SlotId) (r : Record) (k : CmdKind) (hk : r.kind = some k)
    (hm : r.malformed = false) (hc : r.isControl = true) (ht : (s.slot i).tagBusy r.tag = false) :
    s.deliver i r = if k = .read then s.controlRead i r else s.controlWrite i r := by
  simp [State.deliver, Slot.refusal_control _ _ hm hc, ht, hk, hc]

theorem controlAddress (offset : Nat) (h : offset < 64) :
    (BitVec.ofNat 48 (Config.controlBase + offset)).toNat = Config.controlBase + offset := by
  simp only [Config.controlBase, BitVec.toNat_ofNat]; omega

/-- The record of a one-block WRITE to the control window, with its frame. -/
def windowRecord (i : SlotId) (t : Tag) (offset : Nat) (data : Block) : Record :=
  Collecting.record
    { slot := i, tag := t, addr := BitVec.ofNat 48 (Config.controlBase + offset), count := 1, frames := [data] } true

/-- The last frame delivers the WRITE. -/
theorem State.takeFrame_last (s : State) (data : Block) (c : Collecting) (hp : s.port = some c)
    (hn : c.frames.length + 1 = c.count.toNat) :
    s.takeFrame data =
      State.deliver c.slot (Collecting.record { c with frames := c.frames ++ [data] } true) { s with port := none } := by
  simp [State.takeFrame, hp, hn]

/-- A frame before the last is kept. -/
theorem State.takeFrame_more (s : State) (data : Block) (c : Collecting) (hp : s.port = some c)
    (hn : c.frames.length + 1 ≠ c.count.toNat) :
    s.takeFrame data = { s with port := some { c with frames := c.frames ++ [data] } } := by
  simp [State.takeFrame, hp, hn]

/-- A WRITE of a legal count opens the port. -/
theorem State.openPort_collects (s : State) (i : SlotId) (t : Tag) (addr : BitVec 48) (count : BitVec 16)
    (h1 : 1 ≤ count.toNat) (h2 : count.toNat ≤ 256) :
    s.openPort i t addr count =
      { s with port := some { slot := i, tag := t, addr := addr, count := count, frames := [] } } := by
  unfold State.openPort
  rw [if_neg]; omega

/-- Clearing an empty port changes nothing. -/
theorem State.port_none (s : State) (h : s.port = none) : ({ s with port := none } : State) = s := by
  cases s; cases h; rfl

theorem State.windowWrite_deliver (s : State) (i : SlotId) (t : Tag) (offset : Nat) (data : Block) :
    s.windowWrite i t offset data = s.portGivenUp.deliver i (windowRecord i t offset data) := by
  rw [State.windowWrite, State.closePort_eq, State.openPort_collects _ _ _ _ _ (by decide) (by decide),
    State.takeFrame_last _ _ _ rfl (by rfl)]
  exact congrArg _ (s.portGivenUp.port_none s.portGivenUp_port)

theorem windowRecord_malformed (i : SlotId) (t : Tag) (offset : Nat) (data : Block) (h : offset < 64) :
    (windowRecord i t offset data).malformed = false := by
  have := controlAddress offset h
  simp only [windowRecord, Collecting.record, Record.malformed, Record.hasRange, Record.omits, Record.start,
    Record.length, this]
  simp [Config.controlBase, Config.addressEnd]
  omega

theorem windowRecord_start (i : SlotId) (t : Tag) (offset : Nat) (data : Block) (h : offset < 64) :
    (windowRecord i t offset data).start = Config.controlBase + offset := controlAddress offset h

theorem windowRecord_isControl (i : SlotId) (t : Tag) (offset : Nat) (data : Block) (h : offset < 64) :
    (windowRecord i t offset data).isControl = true := by
  rw [Record.isControl, windowRecord_start i t offset data h]
  simp [windowRecord, Collecting.record, Record.hasRange]

/-- A one-block WRITE to the window is refused when its tag is in use; otherwise the responder takes its block. -/
theorem State.windowWrite_eq (s : State) (i : SlotId) (t : Tag) (offset : Nat) (data : Block) (h : offset < 64) :
    s.windowWrite i t offset data =
      if (s.slot i).tagBusy t then s.portGivenUp.say [reply i t .tagBusy]
      else s.portGivenUp.windowTake i t offset data := by
  have hm := windowRecord_malformed i t offset data h
  have hc := windowRecord_isControl i t offset data h
  rw [State.windowWrite_deliver]
  cases ht : (s.slot i).tagBusy t with
  | true =>
    rw [State.deliver_refused _ _ _ .tagBusy]
    · simp [windowRecord, Collecting.record]
    · rw [Slot.refusal_control _ _ hm hc]; simp [windowRecord, Collecting.record, ht]
  | false =>
    have ht' : (s.portGivenUp.slot i).tagBusy (windowRecord i t offset data).tag = false := by
      simpa [windowRecord, Collecting.record] using ht
    rw [State.deliver_control _ _ _ .write rfl hm hc ht', if_neg (by decide), State.controlWrite_eq _ _ _ ht',
      windowRecord_start i t offset data h]
    simp [windowRecord, Collecting.record]

/-- A write to the COMMAND block under a free tag is taken and completed GOOD. -/
theorem State.writeCommand_eq (s : State) (i : SlotId) (t : Tag) (code a b : Word)
    (ht : (s.slot i).tagBusy t = false) :
    s.writeCommand i t code a b = (s.portGivenUp.takeCommand i t code a b).say [reply i t .good] := by
  simp [State.writeCommand, State.windowWrite_eq, ht, State.windowTake, wordAt]

theorem gradeReadRecord_malformed (t : Tag) : (gradeReadRecord t).malformed = false := by revert t; decide
theorem gradeReadRecord_isControl (t : Tag) : (gradeReadRecord t).isControl = true := by revert t; decide

/-- A read of the GRADE RECORD block under a free tag reaches the responder. -/
theorem State.gradeRead_eq (s : State) (i : SlotId) (t : Tag) (ht : (s.slot i).tagBusy t = false) :
    s.arrive i (gradeReadRecord t) = s.portGivenUp.controlRead i (gradeReadRecord t) := by
  rw [State.arrive_eq, State.deliver_control _ _ _ .read rfl (gradeReadRecord_malformed t) (gradeReadRecord_isControl t)
    (by rw [State.portGivenUp_slot]; exact ht), if_pos rfl]

/-! ## Data commands -/

/-- A phase that takes a command is none of those that refuse all data commands. -/
theorem Phase.takes_not_down (p : Phase) (k : CmdKind) (o : Bool) (h : p.takes k o = true) : p.down = false := by
  cases p <;> simp_all [Phase.takes, Phase.down]

/-- Whether a predicate holds of the class of some block of a range. -/
theorem Slot.classesOf_any (sl : Slot) (L n : Nat) (p : AddrClass → Bool) :
    (sl.classesOf L n).any p = true ↔ ∃ k < n, p (sl.classOf (L + k)) = true := by
  simp [Slot.classesOf]

/-- The range check passes a range whose blocks lie in one class of the drive. -/
theorem Slot.rangeIn_data (sl : Slot) (addr : BitVec 48) (count : BitVec 16) (cls : AddrClass)
    (hc : cls = .guarded ∨ cls = .stamp ∨ cls = .clear) (h : sl.rangeIn addr count cls) :
    addr.toNat + count.toNat ≤ 281474976710592 ∧ sl.classOf addr.toNat = cls := by
  obtain ⟨h1, h2, h3⟩ := h
  have h0 := h3 0 (by omega)
  refine ⟨?_, by simpa using h0⟩
  have hl := h3 (count.toNat - 1) (by omega)
  by_contra hn
  have : sl.classOf (addr.toNat + (count.toNat - 1)) = .control := by
    rw [Slot.classOf, if_pos]; simp only [Config.controlBase]; omega
  rw [this] at hl
  rcases hc with h | h | h <;> simp [h] at hl

/-- Nothing refuses a READ or WRITE that lies in one class of the drive but the phase and the class's own checks. -/
theorem Slot.refusal_ranged (sl : Slot) (r : Record) (k : CmdKind) (cls : AddrClass) (hk : r.kind = some k)
    (hr : k = .read ∨ k = .write) (ho : k = .read → r.omitted = false) (hw : r.complete = true)
    (hc : cls = .guarded ∨ cls = .stamp ∨ cls = .clear) (hi : sl.rangeIn r.addr r.count cls)
    (ht : sl.takesData r.tag) (hp : sl.sup.phase.takes k r.omitted = true) :
    r.isControl = false ∧ sl.classFor r = some cls ∧
      sl.refusal r =
        if k = .write ∧ cls = .guarded ∧ sl.isShipWrite r = false then some .guarded
        else if k = .write ∧ r.omitted = true ∧ cls ≠ .stamp ∧ sl.isShipWrite r = false then some .noData
        else if k = .write ∧ r.omitted = true ∧ cls = .stamp ∧ sl.armedForWrites = false then some .notArmed
        else if k = .write ∧ r.omitted = true ∧ cls = .stamp ∧ sl.pass.state = .held then some .held
        else none := by
  obtain ⟨hend, hcls⟩ := sl.rangeIn_data r.addr r.count cls hc hi
  obtain ⟨h1, h2, h3⟩ := hi
  obtain ⟨t1, t2, t3⟩ := ht
  have hrange : r.hasRange = true := by rcases hr with h | h <;> simp [Record.hasRange, hk, h]
  have hm : r.malformed = false := by
    rw [← Bool.not_eq_true, Record.malformed_iff r (by rcases hr with h | h <;> simp [hk, h])]
    grind
  have hctl : r.isControl = false := by
    simp only [Record.isControl, hrange, Config.controlBase, Record.start]; grind
  have hfor : sl.classFor r = some cls := by simp [Slot.classFor, hrange, Record.start, hcls]
  have hdown := Phase.takes_not_down _ _ _ hp
  have hrr : sl.rangeRefusal r = none := by
    have a1 : ¬ Config.controlBase < r.start + r.length := by
      simp only [Config.controlBase, Record.start, Record.length]; omega
    have a2 : ¬ (sl.classesOf r.start r.length).any (· == .beyond) = true := by
      rw [Slot.classesOf_any]; rintro ⟨n, hn, hb⟩
      have := h3 n hn; simp only [Record.start] at hb; rw [this] at hb
      rcases hc with h | h | h <;> simp [h] at hb
    have a3 : ¬ (sl.classesOf r.start r.length).any (· != sl.classOf r.start) = true := by
      rw [Slot.classesOf_any]; rintro ⟨n, hn, hb⟩
      have := h3 n hn; simp only [Record.start] at hb; rw [this, hcls] at hb; simp at hb
    simp only [Slot.rangeRefusal, if_neg a1, if_neg a2, if_neg a3, ite_self]
  refine ⟨hctl, hfor, ?_⟩
  have hlatch : (!false && sl.sup.power && !sl.sup.latch) = false := by
    cases hpw : sl.sup.power <;> simp_all
  have htk : sl.phaseTakes r = true := by simp [Slot.phaseTakes, hk, t3, hp]
  unfold Slot.refusal
  simp only [hm, t1, hctl, hrr, hdown, hfor, hlatch, htk, hk, Record.omits]
  rcases hr with h | h <;> subst h <;> simp [and_assoc]

/-- Nothing refuses a FLUSH, an IDENTIFY or an OTHER but the phase. -/
theorem Slot.refusal_rangeless (sl : Slot) (r : Record) (k : CmdKind) (hk : r.kind = some k)
    (hr : k ≠ .read) (hw : k ≠ .write) (ho : r.omitted = false) (hcm : r.complete = true)
    (ht : sl.takesData r.tag) (hp : sl.sup.phase.takes k r.omitted = true) :
    r.isControl = false ∧ sl.classFor r = none ∧ sl.refusal r = none := by
  obtain ⟨t1, t2, t3⟩ := ht
  have hrange : r.hasRange = false := by simp [Record.hasRange, hk, hr, hw]
  have hctl : r.isControl = false := by simp [Record.isControl, hrange]
  have hfor : sl.classFor r = none := by simp [Slot.classFor, hrange]
  have hm : r.malformed = false := by simp [Record.malformed, hk, hrange, ho, hcm, Record.omits]
  have hrr : sl.rangeRefusal r = none := by simp [Slot.rangeRefusal, hrange]
  have hdown := Phase.takes_not_down _ _ _ hp
  have hlatch : (!false && sl.sup.power && !sl.sup.latch) = false := by
    cases hpw : sl.sup.power <;> simp_all
  have htk : sl.phaseTakes r = true := by simp [Slot.phaseTakes, hk, t3, hp]
  refine ⟨hctl, hfor, ?_⟩
  unfold Slot.refusal
  simp only [hm, t1, hctl, hrr, hdown, hfor, hlatch, htk, hk, Record.omits]
  simp [ho]

/-- A record that nothing refuses becomes a command of the slot. -/
theorem State.deliver_taken (s : State) (i : SlotId) (r : Record) (k : CmdKind) (hk : r.kind = some k)
    (hc : r.isControl = false) (h : (s.slot i).refusal r = none) :
    s.deliver i r = s.commit i ((Act.start (s.slot i)).accept i (r.toCmd k ((s.slot i).classFor r))) := by
  simp [State.deliver, h, hk, hc]

/-- A command that is not posted joins the tail of the slot's list. -/
theorem State.accept_waits (s : State) (i : SlotId) (c : Cmd) (h : (s.slot i).posts c = false) :
    s.commit i ((Act.start (s.slot i)).accept i c) = s.setSlot i ((s.slot i).withCmd c) := by
  simp [Act.accept, h, State.commit, Act.mod, Act.start, Slot.withCmd, Slot.modCmds, Slot.modTraffic]

/-- A command that no data-omitted WRITE of the stamp region is never posted. -/
theorem Slot.posts_false (sl : Slot) (c : Cmd) (h : c.stamped = false) : sl.posts c = false := by
  simp [Slot.posts, h]

/-- A record without data that nothing refuses, and that the post list does not take, waits in the issue queue. -/
theorem State.arrive_waits (s : State) (i : SlotId) (r : Record) (k : CmdKind) (cls : Option AddrClass)
    (hk : r.kind = some k) (hc : r.isControl = false) (hf : (s.slot i).classFor r = cls)
    (h : (s.slot i).refusal r = none) (hp : (s.slot i).posts (r.toCmd k cls) = false) :
    s.arrive i r = s.portGivenUp.setSlot i ((s.slot i).withCmd (r.toCmd k cls)) := by
  rw [State.arrive_eq, State.deliver_taken _ _ _ k hk hc (by rw [State.portGivenUp_slot]; exact h),
    State.accept_waits _ _ _ (by rw [State.portGivenUp_slot, hf]; exact hp), State.portGivenUp_slot, hf]

/-- A data-omitted WRITE that nothing refuses and the post list takes: it joins its pass, and GOOD goes upstream. -/
theorem State.arrive_posted (s : State) (i : SlotId) (r : Record) (k : CmdKind) (cls : Option AddrClass)
    (hk : r.kind = some k) (hc : r.isControl = false) (hf : (s.slot i).classFor r = cls)
    (h : (s.slot i).refusal r = none) (hp : (s.slot i).posts (r.toCmd k cls) = true)
    (hs : (s.slot i).suits (r.toCmd k cls) = true) :
    s.arrive i r =
      (s.portGivenUp.setSlot i (Slot.withCmd
        { s.slot i with pass := { (s.slot i).pass with outstanding := (s.slot i).pass.outstanding + 1 } }
        { r.toCmd k cls with tag := none, serial := some (s.slot i).pass.serial })).say [reply i r.tag .good] := by
  rw [State.arrive_eq, State.deliver_taken _ _ _ k hk hc (by rw [State.portGivenUp_slot]; exact h),
    State.portGivenUp_slot, hf]
  simp only [Act.accept, Act.start, hp, if_true, Slot.joinSerial, hs, Act.mod, Slot.join]
  rfl

/-! ## Commands -/

/-- What a command block write leaves when its command leaves the part as `runCommand` says. -/
theorem State.takeCommand_eq (s : State) (i : SlotId) (t : Tag) (code a b : Word) :
    s.takeCommand i t code a b =
      let d := runCommand i t code a b (s.modSlot i (Slot.modCommand (CommandBlock.taken code a b)))
      d.state.modSlot i (Slot.modCommand fun c => { c with outcome := d.outcome }) := rfl

/-- A COMMAND block write whose command leaves slot `i` as `x`, but for the block itself, with outcome `o`. -/
theorem State.takeCommand_of (s w : State) (i : SlotId) (t : Tag) (code a b : Word) (o : CmdOutcome) (x : Slot)
    (h : runCommand i t code a b (s.modSlot i (Slot.modCommand (CommandBlock.taken code a b))) =
      { state := w.setSlot i (x.modCommand (CommandBlock.taken code a b)), outcome := o }) :
    (s.takeCommand i t code a b).say [reply i t .good] = (w.setSlot i x).answered i t code a b o := by
  rw [State.takeCommand_eq, h]
  simp only [State.modSlot, State.answered, State.slot_setSlot, State.setSlot_setSlot, Slot.modCommand,
    CommandBlock.taken]

/-- A refused command is only recorded. -/
theorem State.takeCommand_refused (s : State) (i : SlotId) (t : Tag) (code a b : Word) (o : CmdOutcome)
    (h : runCommand i t code a b (s.modSlot i (Slot.modCommand (CommandBlock.taken code a b))) =
      refuseWith o (s.modSlot i (Slot.modCommand (CommandBlock.taken code a b)))) :
    (s.takeCommand i t code a b).say [reply i t .good] = s.answered i t code a b o := by
  rw [State.takeCommand_of s s i t code a b o (s.slot i) h, State.setSlot_self]

/-! ## The COMMAND block and what a command does stand apart -/

theorem Slot.rederive_modCommand (g : CommandBlock → CommandBlock) (sl : Slot) :
    (sl.modCommand g).rederive = sl.rederive.modCommand g := by
  by_cases h : deriveRegion sl.active sl.ident = sl.zmap.region <;> simp [Slot.rederive, Slot.modCommand, h]

theorem Slot.adopt_modCommand (r : Recipe) (g : CommandBlock → CommandBlock) (sl : Slot) :
    Slot.adopt r (sl.modCommand g) = (Slot.adopt r sl).modCommand g := by
  have := Slot.rederive_modCommand g { sl with active := r.clamp }
  simp only [Slot.adopt, Slot.modCommand] at this ⊢
  rw [this]

theorem Slot.testShipped_modCommand (g : CommandBlock → CommandBlock) (sl : Slot) :
    (sl.modCommand g).testShipped = sl.testShipped.modCommand g := by
  unfold Slot.testShipped; rw [apply_ite (Slot.modCommand g)]; rfl

theorem Slot.completePass_modCommand (g : CommandBlock → CommandBlock) (sl : Slot) :
    (sl.modCommand g).completePass = sl.completePass.modCommand g := by
  have hs := Slot.testShipped_modCommand g ((sl.modPass fun p => { p with state := .complete }).raise .passDone)
  cases h : sl.pass.kind <;> simp only [Slot.completePass, Slot.modCommand_pass, h]
  · rfl
  · rfl
  · rfl
  · exact hs

theorem Slot.testPass_modCommand (g : CommandBlock → CommandBlock) (sl : Slot) :
    (sl.modCommand g).testPass = sl.testPass.modCommand g := by
  simp only [Slot.testPass, Slot.modCommand_pass, Slot.completePass_modCommand]
  rw [apply_ite (Slot.modCommand g), apply_ite (Slot.modCommand g)]; rfl

theorem Slot.abortPass_modCommand (g : CommandBlock → CommandBlock) (sl : Slot) :
    (sl.modCommand g).abortPass = sl.abortPass.modCommand g := by
  unfold Slot.abortPass; rw [apply_ite (Slot.modCommand g)]; rfl

theorem Slot.clearFlags_modCommand (m : BitVec 16) (g : CommandBlock → CommandBlock) (sl : Slot) :
    Slot.clearFlags m (sl.modCommand g) = (Slot.clearFlags m sl).modCommand g := by
  unfold Slot.clearFlags; rw [apply_ite (Slot.modCommand g)]; rfl

end Sys2Proof.Machine
end

