-- ==== Sys2Proof/Laws/Recovery.lean ====
section
/-! SUPPORT. Commands in command table order, and what a link reset and the entry to FAULTED leave. -/

namespace Sys2Proof.Machine

/-! ## Command table order -/

theorem mem_of_mem_inTagOrder (cs : List Cmd) (c : Cmd) (h : c ∈ inTagOrder cs) : c ∈ cs := by
  simp only [inTagOrder, List.mem_filterMap] at h
  obtain ⟨t, _, h⟩ := h
  exact List.mem_of_find?_eq_some h

/-- A command under a tag that no other command holds stands in the table. -/
theorem mem_inTagOrder (cs : List Cmd) (c : Cmd) (t : Tag) (hc : c ∈ cs) (ht : c.tag = some t)
    (hu : ∀ d ∈ cs, d.tag = some t → d = c) : c ∈ inTagOrder cs := by
  simp only [inTagOrder, List.mem_filterMap, List.mem_finRange, true_and]
  refine ⟨t, ?_⟩
  cases h : cs.find? fun c => c.tag == some t with
  | none =>
    rw [List.find?_eq_none] at h
    exact absurd (by simp [ht]) (h c hc)
  | some d =>
    have hd := List.find?_some h
    rw [hu d (List.mem_of_find?_eq_some h) (by simpa using hd)]

/-- Only the commands under a tag are looked at. -/
theorem inTagOrder_unposted (cs : List Cmd) : inTagOrder (cs.filter fun c => !c.posted) = inTagOrder cs := by
  unfold inTagOrder
  congr 1
  funext t
  rw [List.find?_filter]
  congr 1
  funext c
  cases h : c.tag <;> simp [Cmd.posted, h]
  simp [beq_eq_decide]

/-- Data commands that end with no answer prepared for a held read get the condition, each under its tag. -/
theorem endAll_no_answer (i : SlotId) (cond : Condition) (cs : List Cmd) :
    endAll i cond none cs =
      (inTagOrder cs).flatMap fun c => (c.tag.map fun u => [reply i u cond]).getD [] := by
  unfold endAll
  apply List.flatMap_congr
  intro c _
  cases h : c.tag <;> simp [Cmd.endRecords, h]

/-- With an answer, a held control read gets the block and GOOD. -/
theorem endAll_answer (i : SlotId) (cond : Condition) (b : Block) (cs : List Cmd) :
    endAll i cond (some b) cs =
      (inTagOrder cs).flatMap fun c =>
        (c.tag.map fun u =>
          if c.state = .atResponder then [.frame i b, reply i u .good] else [reply i u cond]).getD [] := by
  unfold endAll
  apply List.flatMap_congr
  intro c _
  cases h : c.tag with
  | none => simp [Cmd.endRecords, h]
  | some t => by_cases hs : c.state = .atResponder <;> simp [Cmd.endRecords, h, Cmd.isData, hs]

/-! ## Link resets and the entry to FAULTED -/

/-- A link reset leaves a slot's identity, recipes, monitors, grading records and command block alone, and the link
RESETTING under its deadline. -/
@[simp] theorem Act.linkReset_frame (i : SlotId) (now : Nat) (x : Act) :
    (x.linkReset i now).sl.mon = x.sl.mon ∧ (x.linkReset i now).sl.ident = x.sl.ident ∧
      (x.linkReset i now).sl.key = x.sl.key ∧ (x.linkReset i now).sl.pending = x.sl.pending ∧
      (x.linkReset i now).sl.active = x.sl.active ∧ (x.linkReset i now).sl.closing = x.sl.closing ∧
      (x.linkReset i now).sl.command = x.sl.command ∧
      (x.linkReset i now).sl.link =
        { state := .resetting, upDeadline := some (now + 10000), out := x.sl.link.out ++ [.linkReset] } := by
  simp [Act.linkReset, Config.linkUpTime]

/-- The entry to FAULTED leaves a slot's identity, recipes, monitors, counters, zone map, statistics and command block
alone, and its traffic empty. -/
@[simp] theorem Act.fault_frame (i : SlotId) (now : Nat) (cause : FaultCause) (x : Act) :
    (x.fault i now cause).sl.mon = x.sl.mon ∧ (x.fault i now cause).sl.ident = x.sl.ident ∧
      (x.fault i now cause).sl.key = x.sl.key ∧ (x.fault i now cause).sl.pending = x.sl.pending ∧
      (x.fault i now cause).sl.active = x.sl.active ∧ (x.fault i now cause).sl.zmap = x.sl.zmap ∧
      (x.fault i now cause).sl.tally = x.sl.tally ∧ (x.fault i now cause).sl.timing = x.sl.timing ∧
      (x.fault i now cause).sl.command = x.sl.command ∧
      (x.fault i now cause).sl.traffic = { cmds := [], heldTags := [], jobs := [] } ∧
      (x.fault i now cause).sl.sup =
        { x.sl.sup with phase := .faulted, cause := some cause, attachDeadline := none } := by
  simp [Act.fault, Traffic.empty]

end Sys2Proof.Machine
end

