-- ==== Sys2Proof/Laws/Defect.lean ====
section
/-! SUPPORT. The defect table: what a run does to it, whatever else changes in the slot, and how its list is edited. -/

namespace Sys2Proof.Machine

/-! ## The list of extents -/

theorem orderedExtents_append (pre post : List Extent) :
    orderedExtents (pre ++ post) ↔
      orderedExtents pre ∧ orderedExtents post ∧ ∀ a ∈ pre, ∀ b ∈ post, a.stop ≤ b.start := by
  induction pre with
  | nil => simp [orderedExtents]
  | cons e es ih =>
    simp only [List.cons_append, orderedExtents, ih, List.mem_append, List.mem_cons, forall_eq_or_imp]
    constructor
    · rintro ⟨h0, h1, h2, h3, h4⟩
      exact ⟨⟨h0, fun x hx => h1 x (.inl hx), h2⟩, h3, fun b hb => h1 b (.inr hb), h4⟩
    · rintro ⟨⟨h0, h1, h2⟩, h3, h4, h5⟩
      exact ⟨h0, fun x hx => hx.elim (h1 x) (h4 x), h2, h3, h5⟩

theorem orderedExtents_pos (es : List Extent) (h : orderedExtents es) : ∀ e ∈ es, 0 < e.length := by
  induction es with
  | nil => simp
  | cons e es ih => simp only [List.mem_cons, forall_eq_or_imp]; exact ⟨h.1, ih h.2.2⟩

/-- An extent goes between those that start at or before it and those that start after it (R74). -/
theorem insertExtent_between (x : Extent) (pre post : List Extent) (h : ∀ e ∈ pre, e.start ≤ x.start)
    (g : ∀ e ∈ post, x.start < e.start) : insertExtent x (pre ++ post) = pre ++ x :: post := by
  induction pre with
  | nil =>
    cases post with
    | nil => rfl
    | cons e es => simp [insertExtent, g e]
  | cons e es ih =>
    have he : ¬x.start < e.start := Nat.not_lt.mpr (h e (by simp))
    simp [insertExtent, he, ih fun y hy => h y (by simp [hy])]

/-- Dropping the extent in the middle of an ordered table drops it and nothing else. -/
theorem dropExtent_middle (pre post : List Extent) (x : Extent) (h : orderedExtents (pre ++ x :: post)) :
    dropExtent x.start (pre ++ x :: post) = pre ++ post := by
  obtain ⟨hp, ⟨hx, hpost, hq⟩, hb⟩ := (orderedExtents_append _ _).mp h
  have h1 : ∀ e ∈ pre, (e.start != x.start) = true := by
    intro e he
    have := orderedExtents_pos _ hp e he
    have := hb e he x (by simp)
    simp only [Extent.stop, bne_iff_ne] at *
    omega
  have h2 : ∀ e ∈ post, (e.start != x.start) = true := by
    intro e he
    have := hpost e he
    simp only [Extent.stop, bne_iff_ne] at *
    omega
  simp [dropExtent, List.filter_eq_self.mpr h1, List.filter_eq_self.mpr h2]

/-- In an ordered table at most one extent ends at a block, and at most one starts at it. -/
theorem orderedExtents_unique (es : List Extent) (h : orderedExtents es) (a b : Extent) (ha : a ∈ es) (hb : b ∈ es)
    (he : a.stop = b.stop ∨ a.start = b.start) : a = b := by
  induction es with
  | nil => simp at ha
  | cons e es ih =>
    obtain ⟨h0, h1, h2⟩ := h
    have hpos := orderedExtents_pos es h2
    simp only [List.mem_cons] at ha hb
    rcases ha with rfl | ha <;> rcases hb with rfl | hb
    · rfl
    · have := h1 b hb; have := hpos b hb; simp only [Extent.stop] at *; omega
    · have := h1 a ha; have := hpos a ha; simp only [Extent.stop] at *; omega
    · exact ih h2 ha hb

/-- The left neighbour is the one extent that ends where the gap part begins, when it qualifies (R72). -/
theorem leftNeighbour_eq_some (k : FailKind) (g : Nat) (es : List Extent) (h : orderedExtents es) (l : Extent) :
    leftNeighbour k g es = some l ↔ l ∈ es ∧ l.stop = g ∧ l.kind = k ∧ l.status ≠ .cleared := by
  constructor
  · intro hl
    have h1 := List.mem_of_find?_eq_some hl
    have h2 := List.find?_some hl
    simp [Extent.qualifies] at h2
    exact ⟨h1, h2.1, h2.2.1, h2.2.2⟩
  · rintro ⟨hm, hs, hk, hc⟩
    have hp : (l.stop == g && l.qualifies k) = true := by simp [Extent.qualifies, hs, hk, hc]
    cases hf : leftNeighbour k g es with
    | none =>
      exact absurd hp (List.find?_eq_none.mp hf l hm)
    | some m =>
      have h2 := List.find?_some hf
      simp [Extent.qualifies] at h2
      rw [orderedExtents_unique es h m l (List.mem_of_find?_eq_some hf) hm (.inl (by omega))]

/-- The right neighbour is the one extent that begins where the gap part ends, when it qualifies (R72). -/
theorem rightNeighbour_eq_some (k : FailKind) (h : Nat) (es : List Extent) (ho : orderedExtents es) (e : Extent) :
    rightNeighbour k h es = some e ↔ e ∈ es ∧ e.start = h ∧ e.kind = k ∧ e.status ≠ .cleared := by
  constructor
  · intro hl
    have h1 := List.mem_of_find?_eq_some hl
    have h2 := List.find?_some hl
    simp [Extent.qualifies] at h2
    exact ⟨h1, h2.1, h2.2.1, h2.2.2⟩
  · rintro ⟨hm, hs, hk, hc⟩
    have hp : (e.start == h && e.qualifies k) = true := by simp [Extent.qualifies, hs, hk, hc]
    cases hf : rightNeighbour k h es with
    | none =>
      exact absurd hp (List.find?_eq_none.mp hf e hm)
    | some m =>
      have h2 := List.find?_some hf
      simp [Extent.qualifies] at h2
      rw [orderedExtents_unique es ho m e (List.mem_of_find?_eq_some hf) hm (.inr (by omega))]

/-! ## A run handed over -/

/-- What a run does to the defect table depends on the table, the closed flag and the pass serial counter alone. -/
theorem Slot.takeRun_defects_congr (now : Nat) (r : Run) (a b : Slot) (hc : a.sup.closed = b.sup.closed)
    (hs : a.tally.serials = b.tally.serials) (hd : a.defects = b.defects) :
    (a.takeRun now r).defects = (b.takeRun now r).defects := by
  unfold Slot.takeRun
  rw [hc, hs, hd]
  split
  · simp [hd]
  · simp only [Slot.raiseIf]
    repeat' split
    all_goals simp [hd]

/-- The same of several runs. -/
theorem Slot.takeRuns_defects_congr (now : Nat) (rs : List Run) (a b : Slot) (hc : a.sup.closed = b.sup.closed)
    (hs : a.tally.serials = b.tally.serials) (hd : a.defects = b.defects) :
    (a.takeRuns now rs).defects = (b.takeRuns now rs).defects := by
  induction rs generalizing a b with
  | nil => exact hd
  | cons r rs ih =>
    exact ih (a.takeRun now r) (b.takeRun now r) (by simpa using hc) (by simpa using hs)
      (Slot.takeRun_defects_congr now r a b hc hs hd)

theorem Slot.takeRuns_append (now : Nat) (rs qs : List Run) (sl : Slot) :
    sl.takeRuns now (rs ++ qs) = (sl.takeRuns now rs).takeRuns now qs := by
  simp [Slot.takeRuns]

/-- The end of a command for its pass leaves the closed flag and the pass serial counter alone. -/
@[simp] theorem Slot.finish_closed (n : Option Nat) (sl : Slot) : (sl.finish n).sup.closed = sl.sup.closed := by
  simp only [Slot.finish, Slot.testPass, Slot.completePass, Slot.testShipped, Slot.endLap,
    Slot.clearReadFrontiers]
  repeat' split
  all_goals simp

@[simp] theorem Slot.finish_serials (n : Option Nat) (sl : Slot) : (sl.finish n).tally.serials = sl.tally.serials := by
  simp only [Slot.finish, Slot.testPass, Slot.completePass, Slot.testShipped, Slot.endLap,
    Slot.clearReadFrontiers]
  repeat' split
  all_goals simp [Tally.writeDone, Tally.readDone]

/-- The WRITE-FAIL runs of the posted writes that a second cancellation records (R112). -/
def writeFails (cs : List Cmd) : List Run := (cs.filter fun c => c.reissues != 0).map fun c => c.wholeRun .writeFail

/-- Cancelling posted writes does to the defect table what taking the runs of the failed ones does (R112). -/
theorem Slot.cancelAll_defects (now : Nat) (cs : List Cmd) (sl : Slot) :
    (cs.foldl (Slot.cancelPosted now) sl).defects = (sl.takeRuns now (writeFails cs)).defects ∧
      (cs.foldl (Slot.cancelPosted now) sl).sup.closed = sl.sup.closed ∧
      (cs.foldl (Slot.cancelPosted now) sl).tally.serials = sl.tally.serials := by
  induction cs generalizing sl with
  | nil => simp [writeFails, Slot.takeRuns]
  | cons c cs ih =>
    rw [List.foldl_cons]
    obtain ⟨h1, h2, h3⟩ := ih (Slot.cancelPosted now sl c)
    by_cases hr : c.reissues = 0
    · have hw : writeFails (c :: cs) = writeFails cs := by simp [writeFails, hr]
      have hs : (Slot.cancelPosted now sl c).sup.closed = sl.sup.closed ∧
          (Slot.cancelPosted now sl c).tally.serials = sl.tally.serials ∧
          (Slot.cancelPosted now sl c).defects = sl.defects := by simp [Slot.cancelPosted, hr]
      rw [hw]
      exact ⟨h1.trans (Slot.takeRuns_defects_congr now _ _ _ hs.1 hs.2.1 hs.2.2), h2.trans hs.1, h3.trans hs.2.1⟩
    · have hw : writeFails (c :: cs) = c.wholeRun .writeFail :: writeFails cs := by simp [writeFails, hr]
      have hs : (Slot.cancelPosted now sl c).sup.closed = sl.sup.closed ∧
          (Slot.cancelPosted now sl c).tally.serials = sl.tally.serials ∧
          (Slot.cancelPosted now sl c).defects = (sl.takeRun now (c.wholeRun .writeFail)).defects := by
        simp [Slot.cancelPosted, hr]
      rw [hw]
      refine ⟨h1.trans ?_, h2.trans hs.1, h3.trans hs.2.1⟩
      exact Slot.takeRuns_defects_congr now _ _ (sl.takeRun now (c.wholeRun .writeFail)) (by simpa using hs.1)
        (by simpa using hs.2.1) hs.2.2

/-- Dropping the post list does to the defect table what taking the runs of its entries does (R114). -/
theorem Slot.dropPosted_defects (now : Nat) (sl : Slot) :
    (sl.dropPosted now).defects =
      (sl.takeRuns now ((sl.traffic.cmds.filter Cmd.posted).map fun c => c.wholeRun .writeFail)).defects := by
  unfold Slot.dropPosted
  rw [Slot.modCmds_defects]
  generalize sl.traffic.cmds.filter Cmd.posted = cs
  induction cs generalizing sl with
  | nil => simp [Slot.takeRuns]
  | cons c cs ih =>
    rw [List.foldl_cons, ih]
    exact Slot.takeRuns_defects_congr now _ _ (sl.takeRun now (c.wholeRun .writeFail)) (by simp) (by simp) (by simp)

/-! ## Flags -/

/-- A run handed over only adds flags (R75, R76). -/
theorem Slot.takeRun_keeps (now : Nat) (r : Run) (sl : Slot) :
    ∃ m : BitVec 16, (sl.takeRun now r).events = { sl.events with flags := sl.events.flags ||| m } := by
  unfold Slot.takeRun
  split
  · exact ⟨0, by simp⟩
  · simp only [Slot.raiseIf_events]
    split <;> split
    · exact ⟨EventFlag.defect.bit ||| EventFlag.tableFull.bit, by simp [BitVec.or_assoc]⟩
    · exact ⟨EventFlag.tableFull.bit, by simp⟩
    · exact ⟨EventFlag.defect.bit, by simp⟩
    · exact ⟨0, by simp⟩

/-! ## Jobs -/

/-- Without a generation job of the tag there is none to drop. -/
theorem Slot.stillGenerating_false (sl : Slot) (d : DriveTag) (h : sl.stillGenerating d = false) :
    sl.traffic.jobs.filter (fun j => !j.generatesFor d) = sl.traffic.jobs := by
  rw [List.filter_eq_self]
  intro j hj
  simp only [Slot.stillGenerating, List.any_eq_false] at h
  simpa using h j hj

end Sys2Proof.Machine
end

