-- ==== Sys2Proof/Laws/Grading.lean ====
section
/-! SUPPORT. What the drains, the grading unit and the release do. -/

namespace Sys2Proof.Machine

/-! ## The two drains -/

theorem Slot.drained_iff (sl : Slot) :
    sl.drained = true ↔ ∀ c ∈ sl.traffic.cmds, c.kind ≠ .write ∨ c.state = .atResponder := by
  simp [Slot.drained, Cmd.isData]

theorem Slot.quiet_iff (sl : Slot) : sl.quiet = true ↔ ∀ c ∈ sl.traffic.cmds, c.state = .atResponder := by
  simp [Slot.quiet, Cmd.isData]

/-- A drain with a write left, or none under way, goes on as it is. -/
theorem State.testDrain_id (s : State) (i : SlotId)
    (h : (s.slot i).closing.step ≠ .draining ∨ ∃ c ∈ (s.slot i).traffic.cmds, c.kind = .write ∧ c.state ≠ .atResponder) :
    s.testDrain i = s := by
  unfold State.testDrain
  rw [if_neg]
  rintro ⟨h1, h2⟩
  rw [Slot.drained_iff] at h2
  rcases h with h | ⟨c, hc, hk, hs⟩
  · exact h h1
  · exact (h2 c hc).elim (fun h => h hk) hs

/-- What a slot is when its computation starts. -/
def Slot.computing (sl : Slot) : Slot :=
  { sl with sup := { sl.sup with closed := true }, closing := { sl.closing with step := .computing } }

/-- The computation of slot `i` as it starts now. -/
def State.computationOf (s : State) (i : SlotId) : Computation :=
  { slot := i, inputs := (s.slot i).gradeInputs s.shelf.clock, weights := (s.slot i).active.weights
    bins := s.shelf.bins }

/-- The idle unit starts the head of its list. -/
theorem State.startNext_starts (s : State) (i : SlotId) (rest : List SlotId)
    (h : s.grader = { queue := i :: rest, current := none }) :
    s.startNext =
      ({ s with grader := { queue := rest, current := some (s.computationOf i) } } : State).setSlot i
        (s.slot i).computing := by
  simp only [State.startNext, h]; rfl

/-- A unit that works, or has no request, starts nothing. -/
theorem State.startNext_id (s : State) (h : s.grader.current.isSome = true ∨ s.grader.queue = []) :
    s.startNext = s := by
  obtain ⟨p, sl, sh, po, up, el, ⟨q, c⟩⟩ := s
  rcases h with h | h
  · obtain ⟨c, rfl⟩ := Option.isSome_iff_exists.mp h; rfl
  · cases c
    · cases h; rfl
    · rfl

/-- A drain that ends while the unit works puts the request at the tail of the list. -/
theorem State.testDrain_queues (s : State) (i : SlotId) (hs : (s.slot i).closing.step = .draining)
    (hd : ∀ c ∈ (s.slot i).traffic.cmds, c.kind ≠ .write ∨ c.state = .atResponder) (hg : s.grader.current.isSome = true) :
    s.testDrain i =
      ({ s with grader := { s.grader with queue := s.grader.queue ++ [i] } } : State).setSlot i
        { s.slot i with closing := { (s.slot i).closing with step := .queued } } := by
  unfold State.testDrain
  rw [if_pos ⟨hs, (Slot.drained_iff _).mpr hd⟩]
  exact State.startNext_id _ (.inl hg)

/-- A drain that ends while the unit is idle with an empty list starts the computation. -/
theorem State.testDrain_computes (s : State) (i : SlotId) (hs : (s.slot i).closing.step = .draining)
    (hd : ∀ c ∈ (s.slot i).traffic.cmds, c.kind ≠ .write ∨ c.state = .atResponder) (hg : s.grader = { queue := [], current := none }) :
    s.testDrain i =
      ({ s with grader := { queue := [], current := some (s.computationOf i) } } : State).setSlot i
        (s.slot i).computing := by
  unfold State.testDrain
  rw [if_pos ⟨hs, (Slot.drained_iff _).mpr hd⟩, State.startNext_starts _ i [] (by simp [hg])]
  simp only [State.computationOf, State.modSlot, Slot.setStep, Slot.modClosing]
  simp only [State.slot, State.setSlot]
  simp [Slot.computing, Slot.gradeInputs]

/-- A release that is not pending, or has a data command left, waits. -/
theorem State.testRelease_id (s : State) (i : SlotId)
    (h : (s.slot i).closing.releasePending = false ∨ ∃ c ∈ (s.slot i).traffic.cmds, c.state ≠ .atResponder) :
    s.testRelease i = s := by
  unfold State.testRelease
  rw [if_neg]
  rintro ⟨h1, h2⟩
  rw [Slot.quiet_iff] at h2
  rcases h with h | ⟨c, hc, hk⟩
  · simp [h] at h1
  · exact hk (h2 c hc)

/-- A release with no data command left completes. -/
theorem State.testRelease_completes (s : State) (i : SlotId) (h : (s.slot i).closing.releasePending = true)
    (hq : ∀ c ∈ (s.slot i).traffic.cmds, c.state = .atResponder) :
    s.testRelease i = s.setSlot i { s.slot i with
      sup := { (s.slot i).sup with phase := .released, power := false, warning := false, nextSample := none }
      link := { (s.slot i).link with state := .down, upDeadline := none }
      closing := { (s.slot i).closing with releasePending := false, verdict := (s.slot i).verdictAt s.shelf.bins }
      events := { (s.slot i).events with flags := (s.slot i).events.flags ||| 0x2000 } } := by
  unfold State.testRelease
  rw [if_pos ⟨h, (Slot.quiet_iff _).mpr hq⟩]
  rfl

/-- A slot that neither drains nor releases is left as it is by the tests at the end of an event. -/
theorem State.settle_id (s : State) (i : SlotId) (hs : (s.slot i).closing.step ≠ .draining)
    (hr : (s.slot i).closing.releasePending = false) : s.settle i = s := by
  rw [State.settle, State.testDrain_id s i (.inl hs), State.testRelease_id s i (.inl hr)]

/-! ## The score and the bin -/

/-- The bin is 0 when blocks overflowed or no entry accepts; otherwise it is one more than the place of the first entry
that accepts. -/
theorem chooseBin_zero (bins : List BinEntry) (i : GradeInputs) (score : Nat)
    (h : 0 < i.overflow ∨ ∀ e ∈ bins, e.accepts i score = false) : chooseBin bins i score = 0 := by
  unfold chooseBin
  rcases h with h | h
  · rw [if_pos h]
  · split
    · rfl
    · rw [List.findIdx?_eq_none_iff.mpr (by simpa using h)]

theorem chooseBin_first (bins : List BinEntry) (i : GradeInputs) (score k : Nat) (e : BinEntry)
    (ho : i.overflow = 0) (hk : bins[k]? = some e) (he : e.accepts i score = true)
    (hm : ∀ m < k, ∀ f, bins[m]? = some f → f.accepts i score = false) : chooseBin bins i score = k + 1 := by
  have : bins.findIdx? (BinEntry.accepts i score) = some k := by
    rw [List.findIdx?_eq_some_iff_getElem]
    obtain ⟨hlt, rfl⟩ := List.getElem?_eq_some_iff.mp hk
    refine ⟨hlt, he, fun m hm' => ?_⟩
    have := hm m hm' bins[m] (List.getElem?_eq_getElem (by omega))
    simp [this]
  simp [chooseBin, ho, this]

/-- An entry accepts exactly when R153's five tests pass. -/
theorem BinEntry.accepts_iff (i : GradeInputs) (score : Nat) (e : BinEntry) :
    e.accepts i score = true ↔
      e.enabled = true ∧ score ≤ e.ceiling.toNat ∧ i.misplaced ≤ e.maxMisplaced.toNat ∧
        (e.coverageRequired = true → i.coverage = true) ∧ e.minSoak.toNat ≤ i.soakMinutes := by
  simp only [BinEntry.accepts, Bool.and_eq_true, Bool.or_eq_true, Bool.not_eq_true', decide_eq_true_eq]
  cases e.coverageRequired <;> cases i.coverage <;> simp <;> tauto

end Sys2Proof.Machine
end

