-- ==== Sys2Proof/Laws/Issue.lean ====
section
/-! SUPPORT. What ISSUE does: the command that is taken, and the state after its issue or its failed guard test. -/

namespace Sys2Proof.Machine

/-- The first command of the queue that is not blocked, with what stands before and after it. -/
theorem firstReady_some (pre before : List Cmd) (c : Cmd) (after : List Cmd) (hw : c.state = .waiting)
    (hb : blocked (pre ++ before) c after = false)
    (h : ∀ p x q, before = p ++ x :: q → x.state = .waiting → blocked (pre ++ p) x (q ++ c :: after) = true) :
    firstReady pre (before ++ c :: after) = some (pre ++ before, c, after) := by
  induction before generalizing pre with
  | nil => simp only [List.append_nil] at hb; simp [firstReady, hw, hb]
  | cons x xs ih =>
    have hx := h [] x xs rfl
    rw [List.cons_append, firstReady, if_neg]
    · rw [ih (pre ++ [x]) (by simpa using hb)]
      · simp
      · intro p y q hq hy
        have := h (x :: p) y q (by simp [hq]) hy
        simpa using this
    · intro hc
      simp only [Bool.and_eq_true, beq_iff_eq, Bool.not_eq_true'] at hc
      have := hx hc.1
      simp only [List.append_nil] at this
      rw [this] at hc; simp at hc

/-- Nothing is ready when every waiting command is blocked. -/
theorem firstReady_none (pre cs : List Cmd)
    (h : ∀ p x q, cs = p ++ x :: q → x.state = .waiting → blocked (pre ++ p) x q = true) :
    firstReady pre cs = none := by
  induction cs generalizing pre with
  | nil => rfl
  | cons x xs ih =>
    have hx := h [] x xs rfl
    rw [firstReady, if_neg]
    · apply ih
      intro p y q hq hy
      have := h (x :: p) y q (by simp [hq]) hy
      simpa using this
    · intro hc
      simp only [Bool.and_eq_true, beq_iff_eq, Bool.not_eq_true'] at hc
      have := hx hc.1
      simp only [List.append_nil] at this
      rw [this] at hc; simp at hc

/-- The command that `firstReady` answers, and that every one before it was blocked. -/
theorem firstReady_spec (pre cs before : List Cmd) (c : Cmd) (after : List Cmd)
    (h : firstReady pre cs = some (before, c, after)) :
    pre ++ cs = before ++ c :: after ∧ c.state = .waiting ∧ blocked before c after = false := by
  induction cs generalizing pre with
  | nil => simp [firstReady] at h
  | cons x xs ih =>
    rw [firstReady] at h
    split at h
    · rename_i hc
      simp only [Bool.and_eq_true, beq_iff_eq, Bool.not_eq_true'] at hc
      cases h; exact ⟨rfl, hc⟩
    · have := ih (pre ++ [x]) h
      simpa using this

theorem Slot.issueTag_pref (sl : Slot) (d : DriveTag) (h : sl.tagFree d = true) : sl.issueTag d = some d := by
  simp [Slot.issueTag, h]

/-- The tag an issue takes is free. -/
theorem Slot.issueTag_free (sl : Slot) (pref d : DriveTag) (h : sl.issueTag pref = some d) : sl.tagFree d = true := by
  unfold Slot.issueTag at h
  split at h
  · cases h; assumption
  · simpa using List.find?_some h

/-- Nothing is issued while the link is not UP, or nothing is ready. -/
theorem State.issueSlot_down (s : State) (i : SlotId) (d : DriveTag) (h : (s.slot i).link.state ≠ .up) :
    s.issueSlot i d = s := by simp [State.issueSlot, h]

theorem State.issueSlot_none (s : State) (i : SlotId) (d : DriveTag)
    (h : firstReady [] (s.slot i).traffic.cmds = none) : s.issueSlot i d = s := by
  unfold State.issueSlot; dsimp only; rw [h]; split
  · rfl
  · cases (s.slot i).issueTag d <;> rfl

/-- The first ready command is issued when it passes the guard test. -/
theorem State.issueSlot_issues (s : State) (i : SlotId) (d : DriveTag) (before : List Cmd) (c : Cmd) (after : List Cmd)
    (hu : (s.slot i).link.state = .up) (ht : (s.slot i).tagFree d = true)
    (hr : firstReady [] (s.slot i).traffic.cmds = some (before, c, after)) (hg : (s.slot i).guardTest c = true) :
    s.issueSlot i d =
      s.setSlot i (Slot.issueCmd s.shelf.clock s.shelf.number i d before c after (s.slot i)) := by
  unfold State.issueSlot; dsimp only; rw [hr, Slot.issueTag_pref _ _ ht]; simp [hu, hg]; rfl

/-- A write that fails the guard test leaves the queue. -/
theorem State.issueSlot_guards (s : State) (i : SlotId) (d : DriveTag) (before : List Cmd) (c : Cmd) (after : List Cmd)
    (hu : (s.slot i).link.state = .up) (ht : (s.slot i).tagFree d = true)
    (hr : firstReady [] (s.slot i).traffic.cmds = some (before, c, after)) (hg : (s.slot i).guardTest c = false) :
    s.issueSlot i d =
      (s.commit i ((Act.start (s.slot i)).guardFail i s.shelf.clock c (before ++ after))).settle i := by
  unfold State.issueSlot; dsimp only; rw [hr, Slot.issueTag_pref _ _ ht]; simp [hu, hg]; rfl

/-- The guard test passes for what is no write, for a write that meets no guarded block, and for the ship record write. -/
theorem Slot.guardTest_iff (sl : Slot) (c : Cmd) :
    sl.guardTest c = true ↔
      c.kind ≠ .write ∨ sl.guardedEnd ≤ c.start ∨ c.length = 0 ∨ sl.shipWriteNow c.omitted c.start c.length = true := by
  simp only [Slot.guardTest, Bool.or_eq_true, bne_iff_ne, decide_eq_true_eq, beq_iff_eq]
  tauto

/-! ## What an issue changes -/

theorem Slot.moveZones_traffic (zs : List Zone) (sl : Slot) : (sl.moveZones zs).traffic = sl.traffic := by
  unfold Slot.moveZones; dsimp only; repeat' split
  all_goals rfl
theorem Slot.moveZones_link (zs : List Zone) (sl : Slot) : (sl.moveZones zs).link = sl.link := by
  unfold Slot.moveZones; dsimp only; repeat' split
  all_goals rfl
theorem Slot.moveZones_zmap (zs : List Zone) (sl : Slot) : (sl.moveZones zs).zmap = { sl.zmap with zones := zs } := by
  unfold Slot.moveZones; dsimp only; repeat' split
  all_goals rfl

end Sys2Proof.Machine
end

