-- ==== Sys2Proof/Laws/Pattern.lean ====
section
/-! SUPPORT. The stamp block: its length, and the generator that never stops at zero. -/

namespace Sys2Proof.Machine

@[simp] theorem genWords_length (n : Nat) (x : Word) : (genWords n x).length = n := by
  induction n generalizing x with
  | zero => rfl
  | succ n ih => simp [genWords, ih]

@[simp] theorem stampBody_length (K : Word) (L e : Nat) (alternate : Bool) :
    (stampBody K L e alternate).length = 1022 :=
  (List.length_map _).trans (genWords_length _ _)

@[simp] theorem stampBlock_length (K : Word) (alternate : Bool) (e L : Nat) :
    (stampBlock K alternate e L).length = 1024 := by
  unfold stampBlock
  split
  · exact List.length_replicate
  · rw [List.length_cons, List.length_cons, stampBody_length]

/-- A word equal to itself shifted is zero, whichever way it is shifted. -/
theorem eq_zero_of_eq_shiftLeft (x : Word) (k n : Nat) (h : x = x <<< k) (hn : 32 ≤ k * n) : x = 0 := by
  have hi : ∀ m, x = x <<< (k * m) := by
    intro m
    induction m with
    | zero => simp
    | succ m ih =>
      rw [Nat.mul_succ, BitVec.shiftLeft_add, ← ih]
      exact h
  rw [hi n, BitVec.shiftLeft_eq_zero hn]; rfl

theorem eq_zero_of_eq_shiftRight (x : Word) (k n : Nat) (h : x = x >>> k) (hn : 32 ≤ k * n) : x = 0 := by
  have hi : ∀ m, x = x >>> (k * m) := by
    intro m
    induction m with
    | zero => simp
    | succ m ih =>
      rw [Nat.mul_succ, BitVec.shiftRight_add, ← ih]
      exact h
  rw [hi n, BitVec.ushiftRight_eq_zero hn]; rfl

/-- A state of the generator that is not zero does not step to zero (R3). -/
theorem genStep_ne_zero (x : Word) (h : x ≠ 0) : genStep x ≠ 0 := by
  simp only [genStep]
  have h1 : x ^^^ x <<< 13 ≠ 0 := fun hx =>
    h (eq_zero_of_eq_shiftLeft x 13 3 (BitVec.xor_eq_zero_iff.mp hx) (by decide))
  generalize x ^^^ x <<< 13 = y at h1 ⊢
  have h2 : y ^^^ y >>> 17 ≠ 0 := fun hx =>
    h1 (eq_zero_of_eq_shiftRight y 17 2 (BitVec.xor_eq_zero_iff.mp hx) (by decide))
  generalize y ^^^ y >>> 17 = z at h2 ⊢
  exact fun hx => h2 (eq_zero_of_eq_shiftLeft z 5 7 (BitVec.xor_eq_zero_iff.mp hx) (by decide))

/-- The start state of the generator is not zero (R3). -/
theorem genStart_ne_zero (K : Word) (L e : Nat) : genStart K L e ≠ 0 := by
  unfold genStart
  dsimp only
  split
  · decide
  · assumption

end Sys2Proof.Machine
end

