-- ==== Sys2Proof/Laws/PerInstr.lean ====
section
/-! SUPPORT. Per command: the record that spells it, if it arrives as one, is eight words with word 3 zero, and only a
command that arrives on the shelf link has one (10.8, Shelf link records). -/

namespace Sys2Proof.Laws.RecordWords

open Sys2Proof.Machine

/-- A command that a record spells comes from the host, and its record is eight words whose word 3 is 0. -/
def Statement (i : Instr) : Prop :=
  ∀ ws, encodeRecord i = some ws → ws.length = 8 ∧ ws.getD 3 0 = 0 ∧ fromHost i = true

theorem read (s : SlotId) (t : Tag) (addr : BitVec 48) (count : BitVec 16) (omitted : Bool) :
    Statement (.read s t addr count omitted) := by
  intro ws h; cases h; exact ⟨rfl, rfl, rfl⟩

theorem write (s : SlotId) (t : Tag) (addr : BitVec 48) (count : BitVec 16) : Statement (.write s t addr count) := by
  intro ws h; cases h; exact ⟨rfl, rfl, rfl⟩

theorem dataOmittedWrite (s : SlotId) (t : Tag) (addr : BitVec 48) (count : BitVec 16) :
    Statement (.dataOmittedWrite s t addr count) := by
  intro ws h; cases h; exact ⟨rfl, rfl, rfl⟩

theorem flush (s : SlotId) (t : Tag) (addr : BitVec 48) (count : BitVec 16) (omitted : Bool) :
    Statement (.flush s t addr count omitted) := by
  intro ws h; cases h; exact ⟨rfl, rfl, rfl⟩

theorem identify (s : SlotId) (t : Tag) (addr : BitVec 48) (count : BitVec 16) (omitted : Bool) :
    Statement (.identify s t addr count omitted) := by
  intro ws h; cases h; exact ⟨rfl, rfl, rfl⟩

theorem other (s : SlotId) (t : Tag) (addr : BitVec 48) (count : BitVec 16) (omitted : Bool) (param : BitVec 128) :
    Statement (.other s t addr count omitted param) := by
  intro ws h; cases h; exact ⟨rfl, rfl, rfl⟩

theorem dataFrame (data : Block) : Statement (.dataFrame data) := by
  intro ws h; cases h

theorem arm (s : SlotId) (t : Tag) (a b : Word) : Statement (.arm s t a b) := by
  intro ws h; cases h

theorem hold (s : SlotId) (t : Tag) (a b : Word) : Statement (.hold s t a b) := by
  intro ws h; cases h

theorem resume (s : SlotId) (t : Tag) (a b : Word) : Statement (.resume s t a b) := by
  intro ws h; cases h

theorem abort (s : SlotId) (t : Tag) (a b : Word) : Statement (.abort s t a b) := by
  intro ws h; cases h

theorem soak (s : SlotId) (t : Tag) (a b : Word) : Statement (.soak s t a b) := by
  intro ws h; cases h

theorem adopt (s : SlotId) (t : Tag) (a b : Word) : Statement (.adopt s t a b) := by
  intro ws h; cases h

theorem close (s : SlotId) (t : Tag) (a b : Word) : Statement (.close s t a b) := by
  intro ws h; cases h

theorem ship (s : SlotId) (t : Tag) (a b : Word) : Statement (.ship s t a b) := by
  intro ws h; cases h

theorem release (s : SlotId) (t : Tag) (a b : Word) : Statement (.release s t a b) := by
  intro ws h; cases h

theorem resetSlot (s : SlotId) (t : Tag) (a b : Word) : Statement (.resetSlot s t a b) := by
  intro ws h; cases h

theorem clearEvents (s : SlotId) (t : Tag) (a b : Word) : Statement (.clearEvents s t a b) := by
  intro ws h; cases h

theorem setMask (s : SlotId) (t : Tag) (a b : Word) : Statement (.setMask s t a b) := by
  intro ws h; cases h

theorem unknownCommand (s : SlotId) (t : Tag) (code a b : Word) : Statement (.unknownCommand s t code a b) := by
  intro ws h; cases h

theorem pendingRecipeWrite (s : SlotId) (t : Tag) (data : Block) : Statement (.pendingRecipeWrite s t data) := by
  intro ws h; cases h

theorem shelfBlockWrite (s : SlotId) (t : Tag) (data : Block) : Statement (.shelfBlockWrite s t data) := by
  intro ws h; cases h

theorem readOnlyBlockWrite (s : SlotId) (t : Tag) (offset : Fin 64) (data : Block) :
    Statement (.readOnlyBlockWrite s t offset data) := by
  intro ws h; cases h

theorem gradeRecordRead (s : SlotId) (t : Tag) : Statement (.gradeRecordRead s t) := by
  intro ws h; cases h

theorem issue (s : SlotId) (pref : DriveTag) : Statement (.issue s pref) := by
  intro ws h; cases h

theorem driveCompletion (s : SlotId) (d : DriveTag) (status : DriveStatus) (data : List Block) (ident : Identification) :
    Statement (.driveCompletion s d status data ident) := by
  intro ws h; cases h

theorem engineGrant : Statement (.engineGrant) := by
  intro ws h; cases h

theorem engineBurstDone : Statement (.engineBurstDone) := by
  intro ws h; cases h

theorem deadlineExpiry (s : SlotId) (d : DriveTag) : Statement (.deadlineExpiry s d) := by
  intro ws h; cases h

theorem linkUp (s : SlotId) : Statement (.linkUp s) := by
  intro ws h; cases h

theorem linkLost (s : SlotId) : Statement (.linkLost s) := by
  intro ws h; cases h

theorem linkUpDeadlineExpiry (s : SlotId) : Statement (.linkUpDeadlineExpiry s) := by
  intro ws h; cases h

theorem attachLinkDeadlineExpiry (s : SlotId) : Statement (.attachLinkDeadlineExpiry s) := by
  intro ws h; cases h

theorem carrierInserted (s : SlotId) : Statement (.carrierInserted s) := by
  intro ws h; cases h

theorem carrierRemoved (s : SlotId) : Statement (.carrierRemoved s) := by
  intro ws h; cases h

theorem latchClosed (s : SlotId) : Statement (.latchClosed s) := by
  intro ws h; cases h

theorem latchOpened (s : SlotId) : Statement (.latchOpened s) := by
  intro ws h; cases h

theorem spinUpGraceEnd (s : SlotId) : Statement (.spinUpGraceEnd s) := by
  intro ws h; cases h

theorem sampleEvent (s : SlotId) (current : BitVec 32) (temp : BitVec 16) :
    Statement (.sampleEvent s current temp) := by
  intro ws h; cases h

theorem drainEnd (s : SlotId) : Statement (.drainEnd s) := by
  intro ws h; cases h

theorem computationStart : Statement (.computationStart) := by
  intro ws h; cases h

theorem computationComplete : Statement (.computationComplete) := by
  intro ws h; cases h

theorem releaseCompletion (s : SlotId) : Statement (.releaseCompletion s) := by
  intro ws h; cases h

theorem shelfReset (lines : List Lines) (memory : Option Block) : Statement (.shelfReset lines memory) := by
  intro ws h; cases h

theorem unknownKindRecord (s : SlotId) (t : Tag) (kind : BitVec 4) (addr : BitVec 48) (count : BitVec 16) (omitted : Bool) :
    Statement (.unknownKindRecord s t kind addr count omitted) := by
  intro ws h; cases h; exact ⟨rfl, rfl, rfl⟩

end Sys2Proof.Laws.RecordWords
end

