-- ==== Sys2Proof/Laws/Zones.lean ====
section
/-! SUPPORT. Ranges over zones, and the frontier counts. -/

namespace Sys2Proof.Machine

/-- A range changes no number of zones. -/
@[simp] theorem overZones_length (f : Nat → Nat → Nat → Zone → Zone) (lo hi z stop first : Nat) (zs : List Zone) :
    (overZones f lo hi z stop first zs).length = zs.length := by
  induction zs generalizing first with
  | nil => rfl
  | cons x xs ih => simp [overZones, ih]

@[simp] theorem ZoneMap.portions_length (f : Nat → Nat → Nat → Zone → Zone) (lo hi : Nat) (m : ZoneMap) :
    (m.portions f lo hi).length = m.zones.length := overZones_length ..

/-- Zone `k` of a range: its own portion, taken from its own first block. -/
theorem overZones_getElem? (f : Nat → Nat → Nat → Zone → Zone) (lo hi z stop first : Nat) (zs : List Zone) (k : Nat) :
    (overZones f lo hi z stop first zs)[k]? =
      zs[k]?.map fun zn =>
        let start := first + k * z
        let len := min z (stop - start)
        let a := max lo start - start
        let b := min hi (start + len) - start
        if a < b then f a b len zn else zn := by
  induction zs generalizing first k with
  | nil => simp [overZones]
  | cons x xs ih =>
    cases k with
    | zero => simp [overZones]
    | succ k =>
      have h : first + z + k * z = first + (k + 1) * z := by rw [Nat.succ_mul]; omega
      simp only [overZones, List.getElem?_cons_succ, ih, h]

/-- A property that every changed zone has, and every unchanged one had, holds of all zones after a range. -/
theorem overZones_forall (p : Zone → Prop) (f : Nat → Nat → Nat → Zone → Zone)
    (hf : ∀ a b len z, p z → p (f a b len z)) (lo hi z stop first : Nat) (zs : List Zone) (h : ∀ x ∈ zs, p x) :
    ∀ x ∈ overZones f lo hi z stop first zs, p x := by
  induction zs generalizing first with
  | nil => simp [overZones]
  | cons y ys ih =>
    intro x hx
    simp only [overZones, List.mem_cons] at hx
    rcases hx with rfl | hx
    · split
      · exact hf _ _ _ _ (h y (by simp))
      · exact h y (by simp)
    · exact ih _ (fun w hw => h w (by simp [hw])) x hx

/-- Rises and falls of frontiers, and their sums: what rose less what fell is what the sum gained. -/
theorem advanced_sum (old new : List Nat) (h : old.length = new.length) :
    old.sum + advanced old new = new.sum + advanced new old := by
  unfold advanced
  induction old generalizing new with
  | nil => cases new <;> simp_all
  | cons x xs ih =>
    cases new with
    | nil => simp at h
    | cons y ys =>
      have := ih ys (by simpa using h)
      simp only [List.zipWith_cons_cons, List.sum_cons] at this ⊢
      omega

@[simp] theorem advanced_self (xs : List Nat) : advanced xs xs = 0 := by
  unfold advanced; induction xs with
  | nil => rfl
  | cons x xs ih => simp

end Sys2Proof.Machine
end

