-- ==== Sys2Proof/Tests/Slice0.lean ====
section
/-! SUPPORT. Tests: ill-formed commands, words of records, small cases computed by hand from the spec, and for every
statement with hypotheses a state and operands that meet them (`witness_…`). -/

namespace Sys2Proof.Tests

open Sys2Proof.Machine

/-! ## Ill-formed commands -/

/-- One word too many for a block. -/
def long : Block := List.replicate 1025 0

theorem long_length : long.length = 1025 := List.length_replicate

/-- One block too many for a command. -/
def many : List Block := List.replicate 257 []

theorem many_length : many.length = 257 := List.length_replicate

theorem test_wf_dataFrame : (Instr.dataFrame long).wellFormed = false := by
  simp [Instr.wellFormed, Block.wellFormed, long_length]

theorem test_wf_unknownCommand : (Instr.unknownCommand 0 0 12 0 0).wellFormed = false := by decide

theorem test_wf_pendingRecipeWrite : (Instr.pendingRecipeWrite 0 0 long).wellFormed = false := by
  simp [Instr.wellFormed, Block.wellFormed, long_length]

theorem test_wf_shelfBlockWrite : (Instr.shelfBlockWrite 0 0 long).wellFormed = false := by
  simp [Instr.wellFormed, Block.wellFormed, long_length]

theorem test_wf_readOnlyBlockWrite_offset : (Instr.readOnlyBlockWrite 0 0 32 []).wellFormed = false := by decide

theorem test_wf_readOnlyBlockWrite_block :
    (Instr.readOnlyBlockWrite 0 0 0 long).wellFormed = false := by
  simp [Instr.wellFormed, Block.wellFormed, long_length]

theorem test_wf_driveCompletion_count :
    (Instr.driveCompletion 0 0 .good many ⟨0, 0, 0⟩).wellFormed = false := by
  simp [Instr.wellFormed, many_length]

theorem test_wf_driveCompletion_block :
    (Instr.driveCompletion 0 0 .good [long] ⟨0, 0, 0⟩).wellFormed = false := by
  simp [Instr.wellFormed, Block.wellFormed, long_length]

theorem test_wf_shelfReset_lines : (Instr.shelfReset [⟨true, true⟩] none).wellFormed = false := by decide

theorem test_wf_shelfReset_memory :
    (Instr.shelfReset (List.replicate 8 ⟨true, true⟩) (some long)).wellFormed = false := by
  simp [Instr.wellFormed, Block.wellFormed, long_length]

theorem test_wf_unknownKindRecord : (Instr.unknownKindRecord 0 0 5 0 0 false).wellFormed = false := by decide

/-! ## Words of records, written out from 10.8 -/

/-- READ, slot 3, tag 17, block 0x123456789ABC, 256 blocks. -/
theorem test_record_read :
    decodeRecord [0x00011103, 0x56789ABC, 0x01001234, 0, 0, 0, 0, 0] = .read 3 17 0x123456789ABC 256 false := by decide

/-- WRITE with data omitted, slot 7, tag 31, block 1024, 8 blocks. -/
theorem test_record_dataOmittedWrite :
    decodeRecord [0x01021F07, 0x00000400, 0x00080000, 0, 0, 0, 0, 0] = .dataOmittedWrite 7 31 1024 8 := by decide

/-- OTHER, slot 0, tag 1, with its parameter in words 4 to 7. -/
theorem test_record_other :
    decodeRecord [0x00050100, 0, 0, 0, 1, 2, 3, 4] = .other 0 1 0 0 false 0x00000004000000030000000200000001 := by
  decide

/-- Kind 9 is none of the five. -/
theorem test_record_unknownKind : decodeRecord [0x00090002, 0, 0, 0, 0, 0, 0, 0] = .unknownKindRecord 2 0 9 0 0 false := by
  decide

/-! ## Small states -/

/-- What a state predicate says of the next state. -/
def next (o : Host.Outcome State Fault Refusal) (p : State → Bool) : Bool :=
  match o with
  | .next t => p t
  | .fault _ => false
  | .refused _ => false

/-- A drive of 516 blocks. -/
def drive : Identity := { serial := 0x1234, capacity := 516, blockSize := 4096 }

/-- Guard code 1, so that blocks 0 to 511 are guarded and blocks 512 to 515 are the stamp region, four zones of one
block (R23, R25). -/
def recipe : Recipe := { Recipe.builtin with guardCode := 1, mask := 0 }

/-- A READY slot with that drive, its link UP. -/
def live : Slot := { Slot.reset with
  sup := { Slot.reset.sup with phase := .ready, carrier := true, latch := true, power := true, nextSample := some 100 }
  ident := some drive
  pending := recipe
  active := recipe
  key := slotKey (some drive) recipe
  zmap := ZoneMap.build (deriveRegion recipe (some drive))
  link := { state := .up, upDeadline := none, out := [] } }

/-- Its region begins at block 514, so that blocks 512 and 513 are CLEAR. -/
def liveClear : Slot :=
  let r : Recipe := { recipe with s0 := 514 }
  { live with active := r, zmap := ZoneMap.build (deriveRegion r (some drive)) }

/-- A record of a write pass under epoch 1. -/
def writePass (st : PassState) (left out : Nat) : PassRecord :=
  { PassRecord.none with kind := .write, serial := 1, epoch := 1, state := st, remaining := left, outstanding := out }

/-- An armed zone with `n` of its blocks written. -/
def armed (n : Nat) : Zone := { state := .ordered, current := 1, previous := 0, wf := n, rf := 0 }

/-- RUNNING a write pass of which nothing is written. -/
def stamping : Slot := { live with
  sup := { live.sup with phase := .running }
  zmap := { live.zmap with zones := [armed 0, armed 0, armed 0, armed 0] }
  pass := writePass .running 4 0
  tally := { Tally.zero with serials := 1, writeEpochs := 1 } }

/-- The same pass held by the host. -/
def holding : Slot := { stamping with
  sup := { live.sup with phase := .held }
  pass := { writePass .held 4 0 with holdHost := true } }

/-- RUNNING a read pass. -/
def reading : Slot := { live with
  sup := { live.sup with phase := .running }
  pass := { PassRecord.none with kind := .read, serial := 1, state := .running, remaining := 4 }
  tally := { Tally.zero with serials := 1 } }

/-- In SOAK, one sample short of its one minute. -/
def soaking : Slot := { live with
  sup := { live.sup with phase := .soak }
  tally := { Tally.zero with soakTarget := 1, soakGained := 59900 } }

/-- A grade record of bin 1. -/
def record : GradeRecord := { bin := 1, score := 16, inputs := live.gradeInputs 0 }

/-- GRADED and closed. -/
def graded : Slot := { live with
  sup := { live.sup with phase := .graded, closed := true }
  closing := { Closing.none with grade := some record } }

/-- SHIPPING with its wipe still to do. -/
def shipping : Slot := { graded with
  sup := { graded.sup with phase := .shipping }
  zmap := { live.zmap with zones := [armed 0, armed 0, armed 0, armed 0].map fun z => { z with current := 65535 } }
  pass := { writePass .running 4 0 with kind := .ship, epoch := 65535 }
  tally := { Tally.zero with serials := 1 } }

/-- FAULTED by a lost link. -/
def faulted : Slot := { live with sup := { live.sup with phase := .faulted, cause := some .linkLost } }

/-- DRAINING with no write left. -/
def draining : Slot := { live with
  sup := { live.sup with phase := .grading }
  closing := { Closing.none with step := .draining } }

/-- In the middle of a computation. -/
def computing : Slot := { live with
  sup := { live.sup with phase := .grading, closed := true }
  closing := { Closing.none with step := .computing } }

/-- The part right after reset, but with this slot 0. -/
def at0 (sl : Slot) : State := State.reset.setSlot 0 sl

/-- A grading unit that works for a slot. -/
def busyUnit (i : SlotId) (q : List SlotId) : Grader :=
  { queue := q, current := some { slot := i, inputs := live.gradeInputs 0, weights := recipe.weights, bins := builtinBins } }

/-- A FLUSH under tag 2 that waits. -/
def flush : Cmd := newEntry (some 2) .flush 0 0 false 0 none []

/-- A read of two stamp blocks under tag 3 that waits. -/
def verify : Cmd := newEntry (some 3) .read 512 2 false 0 (some .stamp) []

/-- A host-data write of a stamp block under tag 4 that waits. -/
def rewrite : Cmd := newEntry (some 4) .write 513 1 false 0 (some .stamp) [[7]]

/-- A posted write of block 512 that waits. -/
def posted : Cmd := { newEntry none .write 512 1 true 0 (some .stamp) [] with serial := some 1 }

/-- The command at the drive under drive tag 5. -/
def sent (c : Cmd) : Cmd := { c with state := .atDrive, driveTag := some 5, deadline := some 10000 }

/-- What the posted write generates under. -/
def gen1 : Generation := { key := keyOf drive.serial recipe.seed, alternate := true, epoch := 1 }

/-- A generation burst of the posted write under way. -/
def genJob : Job := { owner := .generate 5 gen1, addr := 512, total := 1, done := 0, granted := 1 }

/-- The slot with these commands and jobs. -/
def withCmds (sl : Slot) (cs : List Cmd) (js : List Job) : Slot :=
  { sl with traffic := { cmds := cs, heldTags := [], jobs := js } }

/-- A write pass with its posted write at the drive, and a burst of it under way. -/
def working : Slot := withCmds { stamping with
    zmap := { live.zmap with zones := [armed 1, armed 0, armed 0, armed 0] }
    pass := writePass .running 3 1 }
  [{ sent posted with generation := some gen1 }] [genJob]

/-! ## Cases computed by hand -/

/-- R25: four blocks make four zones of one block. -/
theorem test_region : live.zmap.region = { status := .enabled, first := 512, stop := 516 } ∧ live.zmap.zones.length = 4 := by
  decide

/-- R23 and R25 on the 24 TB drive of the zone geometry case: S 1024, E 5,859,375,000, Z 5,722,045, 1024 zones, the last of
5,721,941 blocks. -/
theorem test_zone_geometry :
    let g := deriveRegion Recipe.builtin (some { drive with capacity := 5859375000 })
    g.first = 1024 ∧ g.blocks = 5859373976 ∧ g.zoneLength = 5722045 ∧ g.zoneCount = 1024 ∧
      g.lengthOf 1023 = 5721941 := by decide

/-- R46, R47: ARM of a write pass takes serial 1 and epoch 1. -/
theorem test_arm : next (exec (.arm 0 3 1 0) (at0 live)) (fun t =>
    (t.slot 0).pass == writePass .running 4 0 && (t.slot 0).sup.phase == .running &&
    t.upstream == [reply 0 3 .good]) = true := by decide

/-- 11.4 step 7: RESUME at a critical temperature is refused with THERMAL. -/
theorem test_resume_thermal : next (exec (.resume 0 3 0 0)
    (at0 { holding with mon := { Monitors.zero with tempLive := .critical } })) (fun t =>
    (t.slot 0).sup.phase == .held && (t.slot 0).command.outcome == .thermal) = true := by decide

/-- R84: READ of no block is MALFORMED. -/
theorem test_read_empty : next (exec (.read 0 3 512 0 false) (at0 live)) (fun t =>
    t.upstream == [reply 0 3 .malformed]) = true := by decide

/-- R108: a posted write completes at once and joins the pass. -/
theorem test_posted : next (exec (.dataOmittedWrite 0 3 512 1) (at0 stamping)) (fun t =>
    t.upstream == [reply 0 3 .good] && (t.slot 0).traffic.cmds == [posted] && (t.slot 0).pass.outstanding == 1) = true := by
  decide

/-- R31 and R54: its issue moves the frontier of zone 0 and lowers the remaining count. -/
theorem test_issue_posted : next (exec (.issue 0 5)
    (at0 (withCmds { stamping with pass := writePass .running 4 1 } [posted] []))) (fun t =>
    (t.slot 0).zmap.zones == [armed 1, armed 0, armed 0, armed 0] && (t.slot 0).pass == writePass .running 3 1) = true := by
  decide

/-- R119: the deadline of a posted write takes it back, and nothing goes upstream (11.2 step 1). -/
theorem test_deadline_posted : next (exec (.deadlineExpiry 0 5) (at0 working)) (fun t =>
    (t.slot 0).traffic.cmds.map (fun c => (c.state, c.reissues)) == [(.cancelled, 1)] && t.upstream == [] &&
    (t.slot 0).pass.failures == 1 && (t.slot 0).pass.outstanding == 1 && (t.slot 0).link.state == .resetting &&
    (t.slot 0).timing.timeouts == 1 && (t.slot 0).timing.consecutive == 0) = true := by decide

/-- 11.1: EP is 10 × (1 + 0) + 50 × 0 + 2 × 3 = 16, entry 1 takes it, and bin 1 is shown as 12 while GRADED. -/
theorem test_grade :
    let n : GradeInputs := { live.gradeInputs 0 with
      capacity := 5859375000, tempCount := 1, slow := 3, soakMinutes := 480, coverage := true }
    next (exec .computationComplete
      { at0 computing with
        grader := { queue := [], current := some { slot := 0, inputs := n, weights := recipe.weights, bins := builtinBins } } })
      (fun t => ((t.slot 0).closing.grade.map fun g => (g.bin, g.score)) == some (1, 16) &&
        (t.slot 0).sup.phase == .graded && (t.slot 0).indicator == 12) = true := by decide

/-- R112: a write cancelled a second time at its own deadline hands over TIMEOUT, then WRITE-FAIL; the hit confirms the
extent and raises its kind. -/
theorem test_second_cancellation :
    next (exec (.deadlineExpiry 0 5) (at0 (withCmds stamping [sent { posted with reissues := 1 }] []))) (fun t =>
      ((t.slot 0).defects.extents.map fun e => (e.start, e.length, e.kind, e.status, e.hits)) ==
        [(512, 1, .writeFail, .confirmed, 2)] &&
      (t.slot 0).events.flags == 0x01A0 && (t.slot 0).pass.failures == 2 && (t.slot 0).traffic.cmds == []) = true := by
  decide

/-- R21: the drive must have every block; a completion that comes while the last burst is under way takes no block away. -/
theorem test_completion_before_last_burst :
    next (exec (.driveCompletion 0 5 .good [] ⟨0, 0, 0⟩) (at0 working)) (fun t =>
      (t.slot 0).traffic.jobs == [genJob] && (t.slot 0).traffic.cmds == working.traffic.cmds) = true := by
  decide

/-- 11.1: a soak of 479 minutes goes to entry 3, bin 3. -/
theorem test_grade_short_soak :
    let n : GradeInputs := { live.gradeInputs 0 with
      capacity := 5859375000, tempCount := 1, slow := 3, soakMinutes := 479, coverage := true }
    next (exec .computationComplete
      { at0 computing with
        grader := { queue := [], current := some { slot := 0, inputs := n, weights := recipe.weights, bins := builtinBins } } })
      (fun t => ((t.slot 0).closing.grade.map GradeRecord.bin) == some 3) = true := by decide

/-- R64, R65: the 600th sample inside the window ends a soak of one minute. -/
theorem test_soak_ends : next (exec (.sampleEvent 0 500 450) (at0 soaking)) (fun t =>
    (t.slot 0).sup.phase == .ready && (t.slot 0).tally.soakMs == 100 && (t.slot 0).events.flags == 0x0010) = true := by
  decide

/-- R61: 60.5 °C at the critical code 6 (60 °C) holds a running pass (11.4 step 2). -/
theorem test_thermal_hold : next (exec (.sampleEvent 0 500 605) (at0 stamping)) (fun t =>
    (t.slot 0).pass == { writePass .held 4 0 with holdThermal := true } && (t.slot 0).sup.phase == .held &&
    (t.slot 0).events.flags == 0x0600) = true := by decide

/-- R129: a carrier seated into a closed latch attaches. -/
theorem test_attach : next (exec (.carrierInserted 0)
    (at0 { Slot.reset with sup := { Slot.reset.sup with latch := true } })) (fun t =>
    (t.slot 0).sup.phase == .attaching && (t.slot 0).sup.power && (t.slot 0).link.out == [.bringUp]) = true := by decide

/-- R166, R168: RELEASE of a graded slot fixes UNSHIPPED-1 at once. -/
theorem test_release : next (exec (.release 0 3 0 0) (at0 graded)) (fun t =>
    (t.slot 0).closing.verdict == .unshipped 1 && (t.slot 0).sup.power == false && (t.slot 0).indicator == 13) = true := by
  decide

/-- R20: the engine starts after slot 7, so slot 0 goes before slot 1 at the same level. -/
theorem test_grant : next (exec .engineGrant
    ((at0 (withCmds live [] [{ genJob with granted := 0 }])).setSlot 1 (withCmds live [] [{ genJob with granted := 0 }])))
    (fun t => t.engineLast == 0 && (t.slot 0).traffic.jobs == [genJob] && (t.slot 1).burst.isNone) = true := by decide


/-! ## Witnesses: the queue -/

theorem witness_StepRunsTheFrontCommand :
    ({ State.reset with pending := [.engineGrant] } : State).pending = .engineGrant :: [] := rfl

theorem witness_EmptyQueueStepIsOneMillisecond : State.reset.pending = [] := rfl

/-- A command of slot 0 that answers; and the removal of slot 0's carrier, which starts the computation of slot 1. -/
theorem witness_QueueAndOtherSlotsAreUntouched :
    (∃ t, exec (.arm 0 3 1 0) (at0 live) = .next t) ∧ namedSlot (.arm 0 3 1 0) = some 0 ∧ (1 : SlotId) ≠ 0 ∧
    next (exec (.carrierRemoved 0) { (at0 computing).setSlot 1 { draining with closing := { Closing.none with step := .queued } }
      with grader := busyUnit 0 [1] }) (fun t => (t.slot 1).closing.step == .computing) = true :=
  ⟨⟨_, rfl⟩, rfl, by decide, by decide⟩

theorem witness_SharedRecordsHaveFewWriters :
    (∃ t, exec (.linkUp 0) (at0 live) = .next t) ∧ (Instr.linkUp 0).wellFormed = true ∧ fromHost (.linkUp 0) = false ∧
    (at0 live).shelf.clock ≤ 281474976710655 := ⟨⟨_, rfl⟩, rfl, rfl, by decide⟩

/-! ## Witnesses: records -/

/-- Each of the bounds of R90, met: no block, 257 blocks, past the last address, two blocks of the window; and a WRITE of
two window blocks whose first frame is in. -/
theorem witness_MalformedRecordsAreRefused :
    (0#16).toNat = 0 ∧ 256 < (257#16).toNat ∧ 281474976710656 < (0xFFFFFFFFFFFF#48).toNat + (2#16).toNat ∧
    281474976710592 ≤ (0xFFFFFFFFFFC0#48).toNat ∧ (2#16).toNat ≠ 1 ∧
    (let c : Collecting := { slot := 0, tag := 3, addr := 0xFFFFFFFFFFC0, count := 2, frames := [[]] }
     let s : State := { State.reset with port := some c }
     s.port = some c ∧ c.frames.length + 1 = c.count.toNat ∧ 281474976710592 ≤ c.addr.toNat ∧ c.count.toNat ≠ 1) := by
  decide

/-- A record of blocks from `addr` on. -/
def rec_ (k : CmdKind) (addr : BitVec 48) (count : BitVec 16) (o : Bool) : Record :=
  { tag := 3, kind := some k, addr := addr, count := count, omitted := o, param := 0, frames := [], complete := true }

/-- For each check of R89 a record that it is the first to refuse; a record that comes whole without frames, one whose last
frame is awaited, and a control command. -/
theorem witness_AdmissionChecksInOrder :
    (rec_ .read 512 0 false).malformed = true ∧
    ((rec_ .read 512 1 false).complete = true ∧ (rec_ .read 512 1 false).frames = [] ∧
      (rec_ .read 512 1 false).param = 0 ∧ (rec_ .write 512 1 true).omitted = true) ∧
    (let r : Record := { rec_ .write 512 1 false with frames := [[7]] }
     r.complete = true ∧ r.omitted = false ∧ r.param = 0 ∧ r.frames = [] ++ [[7]] ∧
       ([] : List Block).length + 1 = r.count.toNat ∧
       ({ at0 live with port := some { slot := 0, tag := 3, addr := 512, count := 1, frames := [] } } : State).port =
         some { slot := 0, tag := r.tag, addr := r.addr, count := r.count, frames := [] }) ∧
    ((rec_ .read 281474976710592 1 false).malformed = false ∧
      281474976710592 ≤ (rec_ .read 281474976710592 1 false).start) ∧
    (rec_ .read 512 1 false).malformed = false ∧ (rec_ .read 511 2 false).malformed = false ∧
    (rec_ .write 512 1 true).malformed = false ∧ (rec_ .read 281474976710591 2 false).malformed = false ∧
    (withCmds live [verify] []).tagBusy 3 = true ∧ live.tagBusy 3 = false ∧
    ¬(281474976710592 ≤ (rec_ .read 512 1 false).start) ∧
    Slot.reset.sup.phase.down = true ∧ live.sup.phase.down = false ∧
    ¬((rec_ .read 281474976710591 2 false).start + 2 ≤ 281474976710592) ∧
    ¬(∀ n < 2, live.classOf (515 + n) ≠ .beyond) ∧
    ((∀ n < 2, live.classOf (511 + n) ≠ .beyond) ∧ ¬∀ n < 2, live.classOf (511 + n) = live.classOf 511) ∧
    (∀ n < 4, live.classOf (512 + n) = live.classOf 512 ∧ live.classOf (512 + n) ≠ .beyond) ∧
    ({ live with sup := { live.sup with latch := false } } : Slot).sup.power = true ∧
    draining.sup.phase.takes .write false = false ∧ draining.closing.releasePending = false ∧
    live.sup.phase.takes .write true = true ∧ live.classOf 511 = .guarded ∧ live.shipWriteNow true 511 1 = false ∧
    liveClear.classOf 513 = .clear ∧ live.classOf 512 = .stamp ∧ live.pass.kind = .none ∧
    holding.pass.kind = .write ∧ holding.pass.state = .held ∧ holding.classOf 512 = .stamp := by
  decide

theorem witness_takesData : live.takesData 3 ∧ stamping.takesData 3 ∧ shipping.takesData 3 := by
  unfold Slot.takesData; decide

theorem witness_rangeIn :
    live.rangeIn 508 4 .guarded ∧ live.rangeIn 512 4 .stamp ∧ liveClear.rangeIn 512 2 .clear ∧
      stamping.rangeIn 512 4 .stamp ∧ shipping.rangeIn 511 1 .guarded := by
  unfold Slot.rangeIn; decide

/-- With `witness_takesData` and `witness_rangeIn`: a READ of each class, and the three commands without a range. -/
theorem witness_ReadsAndRangelessCommandsWait :
    (at0 live).slot 0 = live ∧ (at0 liveClear).slot 0 = liveClear ∧ liveClear.tagBusy 3 = false ∧
      liveClear.sup.latch = true ∧ live.sup.phase.takes .read false = true ∧ live.sup.phase.takes .flush false = true ∧
      live.sup.phase.takes .identify false = true ∧ live.sup.phase.takes .other false = true := by
  decide

/-- With `witness_takesData` and `witness_rangeIn`: posting on with room and with eight posted, posting off, and the ship
record write. -/
theorem witness_DataOmittedWriteIsPostedOrWaits :
    stamping.sup.phase.takes .write true = true ∧ stamping.pass.state = .running ∧ stamping.pass.kind = .write ∧
    stamping.active.posting.getLsbD 0 = true ∧ (stamping.traffic.cmds.filter Cmd.posted).length < 8 ∧
    ¬((withCmds stamping (List.replicate 8 posted) []).traffic.cmds.filter Cmd.posted).length < 8 ∧
    (withCmds stamping (List.replicate 8 posted) []).tagBusy 3 = false ∧
    ({ stamping with active := { recipe with posting := 0 } } : Slot).active.posting.getLsbD 0 = false ∧
    shipping.shipWriteNow true 511 1 = true := by
  decide

/-- A WRITE of two blocks; no WRITE awaited; the first frame of two; the last frame, for both classes; the frame of a write
to the window, with the words of an ARM, of codes 0 and 13, and at offsets of each kind. -/
theorem witness_FramesOfAWriteAreCollected :
    1 ≤ (2#16).toNat ∧ (2#16).toNat ≤ 256 ∧ (at0 live).port = none ∧
    (let c : Collecting := { slot := 0, tag := 3, addr := 512, count := 2, frames := [] }
     ({ at0 live with port := some c } : State).port = some c) ∧
    ([] : List Block).length + 1 ≠ (2#16).toNat ∧ ([[]] : List Block).length + 1 = (2#16).toNat ∧
    live.sup.phase.takes .write false = true ∧ liveClear.sup.phase.takes .write false = true ∧
    (let c : Collecting := { slot := 0, tag := 3, addr := 281474976710593, count := 1, frames := [] }
     let s : State := { at0 live with port := some c }
     s.port = some { c with addr := BitVec.ofNat 48 (281474976710592 + (1 : Fin 64).val), count := 1, frames := [] }) ∧
    ([1, 2, 0] : Block).getD 0 0 = 1 ∧ ([] : Block).getD 0 0 = 0 ∧ 12#32 < ([13] : Block).getD 0 0 ∧
    ((3 : Fin 64) ≠ 1 ∧ (3 : Fin 64) ≠ 2 ∧ (3 : Fin 64) ≠ 32) := by
  decide

theorem witness_RecordWordsRoundTrip :
    (Instr.other 7 31 0xFFFFFFFFFFFF 0xFFFF true 1).wellFormed = true ∧
      (encodeRecord (.other 7 31 0xFFFFFFFFFFFF 0xFFFF true 1)).isSome = true := by decide

/-! ## Witnesses: control-window commands -/

/-- The last serial and the last write epoch that may be taken. -/
theorem witness_ArmStartsAPass :
    let last : Slot := { live with tally := { Tally.zero with serials := 65534, writeEpochs := 65533 } }
    last.tagBusy 3 = false ∧ last.sup.phase = .ready ∧ (last.adopt last.pending).zmap.region.status = .enabled ∧
      last.tally.serials ≠ 65535 ∧ last.tally.writeEpochs ≠ 65534 := by decide

/-- A state for each refusal: kinds 0 and 3, an empty region, both counters at their limits, each phase that a command
refuses, a closed slot, a pending release, a cause that RESET-SLOT does not take, and codes 0 and 13; and a tag in use. -/
theorem witness_RefusedWindowCommandsOnlyRecord :
    (withCmds live [verify] []).tagBusy 3 = true ∧
    (0#32 ≠ 1 ∧ 0#32 ≠ 2) ∧ soaking.tagBusy 3 = false ∧ soaking.sup.phase ≠ .ready ∧
    (({ live with ident := some { drive with capacity := 512 } } : Slot).adopt recipe).zmap.region.status ≠ .enabled ∧
    ({ live with tally := { Tally.zero with serials := 65535 } } : Slot).tally.serials = 65535 ∧
    ({ live with tally := { Tally.zero with writeEpochs := 65534 } } : Slot).tally.writeEpochs = 65534 ∧
    live.sup.phase ≠ .running ∧ live.sup.phase ≠ .held ∧ live.sup.phase ≠ .soak ∧ live.sup.phase ≠ .shipping ∧
    holding.sup.phase = .held ∧
    ({ holding with mon := { Monitors.zero with tempLive := .critical } } : Slot).mon.tempLive = .critical ∧
    (stamping.sup.phase ≠ .ready ∧ stamping.sup.phase ≠ .soak ∧ stamping.sup.phase ≠ .attaching ∧
      stamping.sup.closed = false) ∧
    (graded.sup.closed = true ∧ graded.sup.phase = .graded ∧ graded.closing.releasePending = false) ∧
    ({ graded with tally := { Tally.zero with serials := 65535 } } : Slot).tally.serials = 65535 ∧
    (live.sup.phase ≠ .graded ∧ live.sup.phase ≠ .shipped ∧ live.sup.phase ≠ .faulted) ∧
    (let trip : Slot := { faulted with sup := { faulted.sup with cause := some .trip } }
     trip.sup.closed = false ∧ trip.sup.phase ≠ .ready ∧ trip.sup.phase ≠ .soak ∧
       ¬(trip.sup.phase = .faulted ∧ (trip.sup.cause = some .resetLimit ∨ trip.sup.cause = some .linkLost))) ∧
    12#32 < 13#32 := by
  decide

/-- HOLD; RESUME with blocks left and with nothing left; SOAK. -/
theorem witness_HoldResumeAndSoak :
    stamping.tagBusy 3 = false ∧ stamping.sup.phase = .running ∧ holding.tagBusy 3 = false ∧ holding.sup.phase = .held ∧
    holding.mon.tempLive ≠ .critical ∧ holding.pass.remaining ≠ 0 ∧
    (let done : Slot := { holding with pass := writePass .held 0 0 }
     done.sup.phase = .held ∧ done.pass.remaining = 0 ∧ done.pass.outstanding = 0) ∧
    live.sup.phase = .ready := by
  decide

theorem witness_AbortEndsThePassOrTheSoak :
    stamping.sup.phase = .running ∧ holding.sup.phase = .held ∧ soaking.sup.phase = .soak ∧ shipping.tagBusy 3 = false ∧
    shipping.sup.phase = .shipping ∧ shipping.pass.state = .running ∧
    ({ shipping with pass := { shipping.pass with state := .complete } } : Slot).pass.state = .complete := by
  decide

theorem witness_AdoptCopiesThePendingRecipe :
    live.tagBusy 3 = false ∧ live.sup.phase = .ready ∧ soaking.sup.phase = .soak ∧
    deriveRegion { recipe with s0 := 514 }.clamp live.ident ≠ live.zmap.region ∧
    ({ live with sup := { live.sup with phase := .attaching } } : Slot).sup.phase = .attaching := by
  decide

/-- With a write left; with the unit at work; with the unit idle. -/
theorem witness_CloseStartsTheDrain :
    live.tagBusy 3 = false ∧ live.sup.closed = false ∧ live.sup.phase = .ready ∧
    (∃ c ∈ (withCmds live [rewrite] []).traffic.cmds, c.kind = .write ∧ c.state ≠ .atResponder) ∧ (withCmds live [rewrite] []).tagBusy 3 = false ∧
    (∀ c ∈ (withCmds live [flush] []).traffic.cmds, c.kind ≠ .write ∨ c.state = .atResponder) ∧ (busyUnit 1 []).current.isSome = true ∧
    (at0 live).grader = { queue := [], current := none } := by
  decide

/-- Blocks to wipe; none left with the ship record to write; none left with it written. -/
theorem witness_ShipArmsTheWipe :
    graded.tagBusy 3 = false ∧ graded.sup.phase = .graded ∧ graded.closing.releasePending = false ∧
    graded.tally.serials ≠ 65535 ∧
    graded.zmap.region.blocks - sumWF (graded.zmap.every (Zone.arm 65535)) ≠ 0 ∧
    (let z : Zone := { state := .ordered, current := 65535, previous := 1, wf := 1, rf := 0 }
     let wiped : Slot := { graded with zmap := { live.zmap with zones := [z, z, z, z] } }
     wiped.zmap.region.blocks - sumWF (wiped.zmap.every (Zone.arm 65535)) = 0 ∧ wiped.hasShipBlock = true ∧
       wiped.closing.shipWritten = false ∧
       ({ wiped with closing := { wiped.closing with shipWritten := true } } : Slot).closing.shipWritten = true) := by
  decide

/-- A release that is already pending; one that waits for a FLUSH; one that completes, with a held read. -/
theorem witness_ReleaseWaitsForTheDrain :
    graded.tagBusy 3 = false ∧ graded.sup.phase = .graded ∧ faulted.sup.phase = .faulted ∧
    ({ graded with closing := { graded.closing with releasePending := true } } : Slot).closing.releasePending = true ∧
    (∃ c ∈ (withCmds graded [flush] []).traffic.cmds, c.state ≠ .atResponder) ∧
    graded.closing.releasePending = false ∧
    (∀ c ∈ (withCmds graded [{ flush with state := .atResponder }] []).traffic.cmds, c.state = .atResponder) := by
  decide

theorem witness_ResetSlotAttachesAgain :
    (let sl := withCmds faulted [flush] []
     sl.tagBusy 3 = false ∧ sl.sup.closed = false ∧ sl.closing.releasePending = false ∧ sl.sup.phase = .faulted ∧
     sl.sup.cause = some .linkLost ∧ ∀ c ∈ sl.traffic.cmds, c.state ≠ .atResponder) ∧
    live.sup.phase = .ready ∧ soaking.sup.phase = .soak := by
  decide

/-- A free tag; and FAULT set on slot 0 under masks that have it at 1. -/
theorem witness_EventFlagsAndMasks :
    let alarmed : Slot := { faulted with events := { flags := 0x8000, mask := 0xC000 } }
    ((at0 live).slot 0).tagBusy 3 = false ∧ ((at0 faulted).slot 0).tagBusy 3 = false ∧
      (at0 alarmed).MasksOn ∧ ((at0 alarmed).slot 0).HasFlag .fault := by
  unfold State.MasksOn Slot.HasFlag
  decide

theorem witness_WindowBlocksTakeAWrite :
    ((at0 live).slot 0).tagBusy 3 = false ∧ (0 : Fin 64) ≠ 1 ∧ (0 : Fin 64) ≠ 2 ∧ (0 : Fin 64) ≠ 32 ∧
      (33 : Fin 64) ≠ 1 ∧ (33 : Fin 64) ≠ 2 ∧ (33 : Fin 64) ≠ 32 := by
  decide

/-- Both ends of the window, a record there, none yet, and none in another phase; a tag in the command table and one that is
not; the first and the last unassigned offset. -/
theorem witness_WindowReadsAreAnsweredOrHeld :
    (1 : Fin 64) ≠ 0 ∧ (63 : Fin 64) ≠ 0 ∧ (1 : Fin 64) ≠ 16 ∧ (63 : Fin 64) ≠ 16 ∧ (17 : Fin 64) ≠ 16 ∧
    4 ≠ 12 + (3 : Tag).val / 8 ∧ 0 ≠ 12 + (3 : Tag).val / 8 ∧
    draining.tagBusy 3 = false ∧ live.tagBusy 3 = false ∧
    graded.tagBusy 3 = false ∧ graded.closing.grade = some record ∧ draining.closing.grade = none ∧
      draining.sup.phase = .grading ∧ live.closing.grade = none ∧ live.sup.phase ≠ .grading ∧
      (withCmds live [verify] []).traffic.cmds.find? (fun c => c.tag == some 3) = some verify ∧
      verify.state ≠ .cancelled ∧ (withCmds live [verify] []).traffic.cmds.find? (fun c => c.tag == some 31) = none ∧
      18 ≤ (18 : Fin 64).val ∧ (18 : Fin 64) ≠ 32 ∧ 18 ≤ (63 : Fin 64).val ∧ (63 : Fin 64) ≠ 32 := by
  decide

/-- A STATUS read under tag 3 counts one entry, shows it AT-RESPONDER, code 4 in bits 12 to 15 of word 12, and leaves the
table empty (R93, R95, 10.8). -/
theorem test_status_read_shows_itself :
    next (exec (.read 0 3 0xFFFFFFFFFFC0 1 false) (at0 live)) (fun u =>
      u.slot 0 == live &&
      u.upstream.head?.any fun m => match m with
        | .frame _ b => (b.getD 4 0).extractLsb' 24 8 == 1 && b.getD 12 0 == 0x4000 && b.getD 13 0 == 0
        | .completion _ => false) = true := by
  decide

/-- CLOSE is not held back by the control write that carries it (R145, R147). -/
theorem test_close_entry_is_no_write :
    next (exec (.close 0 3 0 0) (at0 live)) (fun u =>
      (u.slot 0).closing.step == .computing && (u.slot 0).traffic.cmds.isEmpty) = true := by
  decide

/-! ## Witnesses: issue -/

/-- A blocked command before: a FLUSH behind a write at the drive. -/
theorem blocked_before (c : Cmd) (after : List Cmd) :
    ∀ pre x post, [sent rewrite, flush] = pre ++ x :: post → x.state = .waiting →
      blocked pre x (post ++ c :: after) = true := by
  intro pre x post h hw
  rcases pre with _ | ⟨y, pre⟩
  · obtain ⟨rfl, rfl⟩ := by simpa using h
    exact absurd hw (by decide)
  · rcases pre with _ | ⟨y', pre⟩
    · obtain ⟨rfl, rfl, rfl⟩ := by simpa using h
      simp [blocked, flush, rewrite, sent, newEntry, Cmd.unfinished]
    · simp at h

/-- A link that is DOWN; a queue whose only command is blocked; a FLUSH ready to go. -/
theorem witness_PlainCommandIsIssued :
    ({ live with link := { live.link with state := .down } } : Slot).link.state ≠ .up ∧
    (∀ pre x post, [sent rewrite] = pre ++ x :: post → x.state = .waiting → blocked pre x post = true) ∧
    (withCmds live ([] ++ flush :: [verify]) []).traffic.cmds = [] ++ flush :: [verify] ∧
    live.link.state = .up ∧ (withCmds live [flush, verify] []).tagFree 5 = true ∧ flush.state = .waiting ∧
    blocked [] flush [verify] = false ∧ flush.kind ≠ .write ∧ flush.cls ≠ some .stamp ∧ flush.frames = [] := by
  refine ⟨by decide, ?_, by decide⟩
  intro pre x post h hw
  rcases pre with _ | ⟨y, pre⟩
  · obtain ⟨rfl, rfl⟩ := by simpa using h
    exact absurd hw (by decide)
  · simp at h

/-- A stamp read behind a write at the drive and a FLUSH that the write blocks. -/
theorem witness_StampReadIsIssued :
    let r : Cmd := { verify with addr := 514 }
    let before := [sent rewrite, flush]
    let sl := withCmds reading (before ++ r :: []) []
    (∀ pre x post, before = pre ++ x :: post → x.state = .waiting → blocked pre x (post ++ r :: []) = true) ∧
    sl.traffic.cmds = before ++ r :: [] ∧ sl.link.state = .up ∧ sl.tagFree 6 = true ∧ r.state = .waiting ∧
      blocked before r [] = false ∧ r.kind = .read ∧ r.cls = some .stamp ∧ r.tag = some 3 ∧ r.frames = [] ∧
      sl.key = some (keyOf drive.serial recipe.seed) :=
  ⟨blocked_before _ _, by decide⟩

/-- A slot with a grade record; a posted write and a write with data. -/
theorem witness_WriteIsIssued :
    graded.closing.grade = some record ∧
    (let sl := withCmds stamping [posted] []
     sl.traffic.cmds = [] ++ posted :: [] ∧ sl.link.state = .up ∧ sl.tagFree 5 = true ∧ posted.state = .waiting ∧
       blocked [] posted [] = false ∧ posted.kind = .write ∧ sl.key = some (keyOf drive.serial recipe.seed) ∧
       sl.guardedEnd ≤ posted.start) ∧
    (let sl := withCmds live [rewrite] []
     sl.tagFree 5 = true ∧ blocked [] rewrite [] = false ∧ sl.guardedEnd ≤ rewrite.start) := by
  decide

/-- A write of block 512 and a posted one, under a recipe adopted since that guards it. -/
theorem witness_GuardTestStopsAWrite :
    let sl := withCmds { stamping with active := { recipe with guardCode := 2 } } [posted] []
    sl.traffic.cmds = [] ++ posted :: [] ∧ sl.link.state = .up ∧ sl.tagFree 5 = true ∧ posted.state = .waiting ∧
      blocked [] posted [] = false ∧ posted.kind = .write ∧ posted.length ≠ 0 ∧ posted.start < sl.guardedEnd ∧
      sl.shipWriteNow posted.omitted posted.start posted.length = false ∧ posted.tag = none ∧
      rewrite.tag = some 4 ∧ rewrite.start < sl.guardedEnd ∧ rewrite.length ≠ 0 := by
  decide

/-- A frontier that falls by one block, and one that rises. -/
theorem witness_FrontierMovesCountThePass :
    let sl := { stamping with zmap := { live.zmap with zones := [armed 1, armed 0, armed 0, armed 0] }
                              pass := writePass .running 3 0 }
    sl.pass.active = true ∧ sl.pass.remaining = sl.zmap.region.blocks - sl.pass.kind.covered sl.zmap.zones ∧
      sl.pass.kind.covered sl.zmap.zones ≤ sl.zmap.region.blocks ∧
      sl.pass.kind.covered [armed 1, armed 1, armed 0, armed 0] ≤ sl.zmap.region.blocks ∧
      [armed 1, armed 1, armed 0, armed 0].length = sl.zmap.zones.length ∧ sl.active.checkpoint.toNat * 65536 = 0 ∧
      (let due : Slot := { sl with active := { recipe with checkpoint := 1 }, pass := { sl.pass with checkpoint := 65535 } }
       due.active.checkpoint.toNat * 65536 ≤ due.pass.checkpoint +
         advanced [1, 0, 0, 0] [1, 1, 0, 0]) := by
  decide

/-! ## Witnesses: zones, completions, the engine -/

/-- A zone of each state at each frontier that the rows of R29 and R31 to R33 tell apart, for a zone of four blocks. -/
theorem witness_ZoneRows :
    Zone.blank.state = .blank ∧ Zone.blank.current ≠ 2 ∧ (armed 4).wf = 4 ∧ (armed 0).wf ≠ 4 ∧ (armed 0).wf = 0 ∧
    (armed 2).wf ≠ 4 ∧ (armed 2).wf ≠ 0 ∧ (armed 2).state = .ordered ∧ (armed 2).current ≠ 2 ∧ (armed 2).current = 1 ∧
    (2 ≤ (armed 2).wf ∧ max (armed 2).wf 4 = 4) ∧ max (armed 2).wf 3 ≠ 4 ∧ (armed 2).wf < 3 ∧
    ({ armed 2 with state := .mixed } : Zone).state = .mixed := by
  decide

/-- Frontiers inside their zones, checked zone by zone. -/
theorem fits_of {sl : Slot} (h : ∀ k < sl.zmap.zones.length, ∀ z ∈ sl.zmap.zones[k]?,
    z.wf ≤ sl.zmap.region.lengthOf k ∧ z.rf ≤ sl.zmap.region.lengthOf k) :
    ∀ k z, sl.zmap.zones[k]? = some z → z.wf ≤ sl.zmap.region.lengthOf k ∧ z.rf ≤ sl.zmap.region.lengthOf k :=
  fun k z hz => h k (List.getElem?_eq_some_iff.1 hz).1 z hz

theorem live_mapWF : live.MapWF := ⟨by decide, by decide, by decide, fits_of (by decide)⟩

/-- Zone 1 of the live slot, reached by blocks 512 and 513 and not by block 512 alone. -/
theorem witness_PortionsApplyZoneByZone : live.MapWF ∧ live.zmap.zones[1]? = some Zone.blank ∧
    (512 < 513 + 1 ∧ 513 < 514 ∧ 512 < 514) ∧ 513 ≤ 513 := ⟨live_mapWF, by decide, by decide⟩

/-- A drive tag that no command holds; a posted write whose generation job is done. -/
theorem witness_LateAndPostedCompletions :
    (∀ c ∈ live.traffic.cmds, ¬(c.state = .atDrive ∧ c.driveTag = some 5)) ∧
    (let done := withCmds working working.traffic.cmds []
     done.traffic.cmds.find? (Cmd.atTag 5) = some { sent posted with generation := some gen1 } ∧
       done.stillGenerating 5 = false) ∧
    (sent posted).tag = none := by
  decide

theorem witness_IdentifyMakesTheSlotReady :
    let c := sent (newEntry (some 6) .identify 0 0 false 0 none [])
    let sl := withCmds { Slot.reset with sup := { live.sup with phase := .attaching } } [c] []
    sl.traffic.cmds.find? (Cmd.atTag 5) = some c ∧ c.tag = some 6 ∧ c.kind = .identify ∧ c.serial = none ∧
      sl.sup.phase = .attaching ∧ sl.stillGenerating 5 = false := by
  decide

/-- A FLUSH, a read outside the stamp region, a write with data, an IDENTIFY and a ship record write, each at the drive; a
failing block at each end of the range of the write, and one beyond it; and a posted write whose last burst is not granted,
or still under way. -/
theorem witness_UnpostedCompletionEndsTheCommand :
    let found := fun c : Cmd =>
      (withCmds live [sent c] []).traffic.cmds.find? (Cmd.atTag 5) = some (sent c) ∧ c.tag.isSome = true ∧
        (withCmds live [sent c] []).stillGenerating 5 = false
    let plain : Cmd := { verify with addr := 510, cls := some .guarded }
    let identify : Cmd := newEntry (some 6) .identify 0 0 false 0 none []
    let ship : Cmd := newEntry (some 7) .write 511 1 true 0 (some .guarded) []
    found flush ∧ found plain ∧ found rewrite ∧ found identify ∧ found ship ∧ live.sup.phase ≠ .attaching ∧
      flush.kind = .flush ∧ identify.kind = .identify ∧ plain.cls ≠ some .stamp ∧ plain.kind = .read ∧
      rewrite.kind ≠ .read ∧ rewrite.kind = .write ∧
      (ship.kind = .write ∧ ship.omitted = true ∧ ship.cls = some .guarded) ∧ rewrite.omitted = false ∧
      rewrite.start ≤ (513#48).toNat ∧ (513#48).toNat < rewrite.start + rewrite.length ∧
      rewrite.start + rewrite.length ≤ (514#48).toNat ∧ (512#48).toNat < rewrite.start ∧
      plain.start ≤ (511#48).toNat ∧ (511#48).toNat < plain.start + plain.length ∧
      (withCmds working working.traffic.cmds [{ genJob with granted := 0 }]).stillGenerating 5 = true ∧
      working.stillGenerating 5 = true := by
  decide

/-- A stamp read at the drive whose failing block is its first, inside it, and outside it on either side. -/
theorem witness_StampReadCompletionIsChecked :
    let sl := withCmds reading [sent verify] []
    sl.traffic.cmds.find? (Cmd.atTag 5) = some (sent verify) ∧ (sent verify).tag = some 3 ∧
      sl.stillGenerating 5 = false ∧ (sent verify).kind = .read ∧ (sent verify).cls = some .stamp ∧
      1 ≤ (sent verify).length ∧ (sent verify).classes = [] ∧ (512#48).toNat = (sent verify).start ∧
      (sent verify).start < (513#48).toNat ∧ (513#48).toNat < (sent verify).start + (sent verify).length ∧
      (511#48).toNat < (sent verify).start ∧ (sent verify).start + (sent verify).length ≤ (514#48).toNat := by
  decide

/-- An idle engine with no job, and one with a job in two slots. -/
theorem witness_EngineGrantGoesToTheWinner :
    (∀ i, ∀ j ∈ (State.reset.slot i).traffic.jobs, j.granted = 0) ∧ (∀ i, (State.reset.slot i).traffic.jobs = []) ∧
    (let s := (at0 (withCmds live [] [{ genJob with granted := 0 }])).setSlot 1 (withCmds live [] [{ genJob with granted := 0 }])
     (∀ i, ∀ j ∈ (s.slot i).traffic.jobs, j.granted = 0) ∧ ∃ i, (s.slot i).traffic.jobs ≠ []) := by
  decide

/-- An idle engine; a generation burst; a check burst in the middle of its job and one at its end. -/
theorem witness_BurstWorksItsBlocks :
    (∀ k, ∀ x ∈ (State.reset.slot k).traffic.jobs, x.granted = 0) ∧
    ((∀ k, k ≠ 0 → ∀ x ∈ ((at0 working).slot k).traffic.jobs, x.granted = 0) ∧ working.traffic.jobs = genJob :: [] ∧
      genJob.granted ≠ 0 ∧ genJob.owner = .generate 5 gen1) ∧
    (let info : CheckInfo :=
       { zones := reading.zmap.copies 512 514, key := keyOf drive.serial recipe.seed, alternate := true, full := false }
     let c : Cmd := { verify with state := .checking, check := some info, returned := [[], []] }
     let j : Job := { owner := .check 3, addr := 512, total := 2, done := 0, granted := 1 }
     let sl := withCmds reading [c] [j]
     sl.traffic.jobs = j :: [] ∧ j.granted ≠ 0 ∧ j.owner = .check 3 ∧
       sl.traffic.cmds.find? (fun x => x.tag == some 3) = some c ∧ c.check = some info ∧ j.done + j.granted < j.total ∧
       j.total ≤ { j with done := 1 }.done + j.granted) := by
  decide

/-! ## Witnesses: deadlines and the drive link -/

theorem working_traffic : working.traffic.WF :=
  ⟨by decide, by decide, by decide, by decide, by decide⟩

/-- A posted write, one already put back once and an unposted one whose deadlines expire, a link lost in RUNNING and in
FAULTED, a lost link that was not UP, and a pending release with a FLUSH left and with none. -/
theorem witness_LinkResetTakesTheCommandsBack :
    (let again : Cmd := sent { posted with reissues := 1 }
     let sl := withCmds stamping [again] []
     sl.traffic.WF ∧ sl.traffic.cmds.find? (Cmd.atTag 5) = some again ∧ again.kind = .write ∧
       sl.traffic.cmds.filter (fun x => x.isAtDrive && x.posted && x.reissues != 0) ≠ [] ∧
       sl.closing.releasePending = false ∧ sl.pass.remaining ≠ 0 ∧ live.pass.state ≠ .running) ∧
    (let stays := withCmds { graded with closing := { graded.closing with releasePending := true } } [sent verify, flush] []
     let leaves := withCmds { graded with closing := { graded.closing with releasePending := true } } [sent verify] []
     stays.traffic.WF ∧ leaves.traffic.WF ∧ stays.closing.releasePending = true ∧
       (∃ x ∈ stays.traffic.cmds, x.state ≠ .atResponder ∧ (x.isAtDrive = false ∨ (x.posted = true ∧ x.reissues = 0))) ∧
       (∀ x ∈ leaves.traffic.cmds, x.state = .atResponder ∨ (x.isAtDrive = true ∧ x.posted = false)) ∧
       leaves.traffic.cmds.find? (Cmd.atTag 5) = some (sent verify) ∧ leaves.sup.phase = .graded ∧
       leaves.pass.state ≠ .running ∧ leaves.link.state = .up) ∧
    working.traffic.WF ∧ (withCmds live [sent rewrite, flush] []).traffic.WF ∧
    (working.closing.releasePending = false ∧
      working.traffic.cmds.find? (Cmd.atTag 5) = some { sent posted with generation := some gen1 } ∧
      (withCmds live [sent rewrite, flush] []).traffic.cmds.find? (Cmd.atTag 5) = some (sent rewrite) ∧
      working.sup.power = true ∧ working.link.state = .up ∧ working.sup.phase ≠ .faulted ∧
      faulted.sup.power = true ∧ faulted.link.state = .up ∧ faulted.sup.phase = .faulted ∧
      Slot.reset.sup.power = false ∧ Slot.reset.link.state ≠ .up) :=
  ⟨⟨⟨by decide, by decide, by decide, by decide, by decide⟩, by decide⟩,
    ⟨⟨by decide, by decide, by decide, by decide, by decide⟩, ⟨by decide, by decide, by decide, by decide, by decide⟩,
    by decide⟩, working_traffic, ⟨by decide, by decide, by decide, by decide, by decide⟩, by decide⟩

/-- A link in reset, at its second and at its third consecutive one. -/
def resetting (n : Nat) : Slot := { live with
  link := { live.link with state := .resetting, upDeadline := some 10000 }
  timing := { Timing.zero with consecutive := n } }

/-- An attaching slot whose link never came up. -/
def attaching : Slot := { Slot.reset with
  sup := { live.sup with phase := .attaching, attachDeadline := some 30000 } }

theorem witness_LinkUpBringsTheTagsBack :
    Slot.reset.sup.power = false ∧ live.link.state = .up ∧
    ((resetting 1).sup.power = true ∧ (resetting 1).link.state = .resetting ∧ (resetting 1).timing.consecutive + 1 < 3) ∧
    (attaching.sup.power = true ∧ attaching.link.state = .down) := by
  decide

/-- A third consecutive reset, with a pass that runs and a write to be put back and without, an attach that never saw the
link, the same two with a release pending, and neither. -/
theorem witness_LinkFailuresFaultTheSlot :
    (let sl := withCmds { resetting 2 with sup := stamping.sup, pass := stamping.pass }
       [{ posted with state := .cancelled, reissues := 1 }] []
     sl.closing.releasePending = false ∧ sl.sup.power = true ∧ sl.link.state = .resetting ∧
       3 ≤ sl.timing.consecutive + 1 ∧ sl.postCount ≠ 0 ∧ sl.pass.state = .running) ∧
    ¬((resetting 2).pass.state = .running ∨ (resetting 2).pass.state = .held) ∧
    (let pends := fun sl : Slot => ({ sl with closing := { sl.closing with releasePending := true } } : Slot)
     (pends (resetting 2)).closing.releasePending = true ∧ (pends (resetting 2)).sup.power = true ∧
       (pends (resetting 2)).link.state = .resetting ∧ 3 ≤ (pends (resetting 2)).timing.consecutive + 1 ∧
       (pends attaching).sup.phase = .attaching ∧ (pends attaching).sup.attachDeadline.isSome = true) ∧
    (resetting 2).closing.releasePending = false ∧ (resetting 2).sup.power = true ∧
    (resetting 2).link.state = .resetting ∧ 3 ≤ (resetting 2).timing.consecutive + 1 ∧
    (attaching.closing.releasePending = false ∧ attaching.sup.phase = .attaching ∧
      attaching.sup.attachDeadline.isSome = true ∧ attaching.link.state = .down) ∧
    live.link.state ≠ .resetting ∧ live.sup.phase ≠ .attaching := by
  decide

/-! ## Witnesses: carriers, power and sensing -/

/-- The lines of an EMPTY slot. -/
def lines (carrier latch : Bool) : Slot := { Slot.reset with sup := Supervisor.empty { carrier := carrier, latch := latch } }

theorem witness_CarrierAndLatchEvents :
    ((lines false true).sup.carrier = false ∧ (lines false true).sup.phase = .empty ∧ (lines false true).sup.latch = true) ∧
    ((lines false false).sup.carrier = false ∧ (lines false false).sup.latch = false) ∧
    ((lines true false).sup.latch = false ∧ (lines true false).sup.phase = .empty ∧ (lines true false).sup.carrier = true) ∧
    (let open_ : Slot := { live with sup := { live.sup with latch := false } }
     open_.sup.latch = false ∧ open_.sup.phase ≠ .empty) ∧
    live.sup.latch = true ∧ live.sup.carrier = true ∧ live.sup.graceEnd = none ∧
    ({ live with sup := { live.sup with graceEnd := some 15000 } } : Slot).sup.graceEnd = some 15000 := by
  decide

/-- A removal while another slot's grade is computed, and one of the slot whose grade is computed. -/
theorem witness_CarrierRemovalEmptiesTheSlot :
    live.sup.carrier = true ∧ (busyUnit 1 [0]).current.map Computation.slot = some 1 ∧
      (busyUnit 0 [1]).current.map Computation.slot = some 0 := by
  decide

/-- No power; a calm sample; a critical one in a running pass, in one held by the host and in one held by the temperature;
samples in SOAK outside the window, before the target and at it. -/
theorem witness_SampleFollowsTheMonitors :
    Slot.reset.sup.power = false ∧ live.sup.power = true ∧
    (tripLevel recipe.tripCode = some 3500 ∧ (500#32).toNat < 3500) ∧
    (¬(tempLevel recipe.criticalCode ≤ (450#16).toInt) ∧ live.sup.phase ≠ .soak) ∧
    (tempLevel recipe.criticalCode ≤ (600#16).toInt ∧ stamping.pass.kind = .write ∧ stamping.pass.state = .running) ∧
    (holding.pass.kind = .write ∧ holding.pass.state = .held ∧ holding.pass.holdThermal = false ∧
      holding.sup.phase ≠ .soak) ∧
    (let hot : Slot := { holding with pass := { holding.pass with holdThermal := true } }
     hot.pass.state = .held ∧ hot.pass.holdThermal = true ∧ hot.sup.phase ≠ .soak) ∧
    (tempLevel recipe.lowCode < tempLevel recipe.highCode ∧ (200#16).toInt < tempLevel recipe.lowCode ∧
      ¬(tempLevel recipe.criticalCode ≤ (200#16).toInt)) ∧
    (soaking.sup.phase = .soak ∧ tempLevel recipe.lowCode ≤ (450#16).toInt ∧ (450#16).toInt ≤ tempLevel recipe.highCode) ∧
    soaking.tally.soakTarget * 60000 ≤ soaking.tally.soakGained + 100 ∧
    (let early : Slot := { soaking with tally := { soaking.tally with soakGained := 59800 } }
     early.tally.soakGained + 100 < early.tally.soakTarget * 60000) := by
  decide

/-- A trip in RUNNING with a posted write, in READY, in FAULTED, and in GRADED with a release pending. -/
theorem witness_TripSwitchesThePowerOff :
    (working.sup.power = true ∧ tripLevel working.active.tripCode = some 3500 ∧ working.closing.releasePending = false ∧
      working.sup.phase ≠ .faulted ∧ working.pass.state = .running ∧ working.postCount ≠ 0) ∧
    (let pends : Slot := { graded with closing := { graded.closing with releasePending := true } }
     pends.sup.power = true ∧ tripLevel pends.active.tripCode = some 3500 ∧ pends.closing.releasePending = true ∧
       pends.sup.phase ≠ .faulted) ∧
    (live.sup.power = true ∧ tripLevel live.active.tripCode = some 3500 ∧ 3500 ≤ (3500#32).toNat ∧
      live.closing.releasePending = false ∧ live.sup.phase ≠ .faulted) ∧
    (faulted.sup.power = true ∧ tripLevel faulted.active.tripCode = some 3500 ∧
      faulted.closing.releasePending = false ∧ faulted.sup.phase = .faulted) := by
  decide

/-! ## Witnesses: grading and release -/

/-- A drain that ends while the unit works and while it is idle, one that does not end, and a list with a head. -/
theorem witness_DrainEndsAndComputationStarts :
    (draining.closing.step = .draining ∧ (∀ c ∈ draining.traffic.cmds, c.kind ≠ .write ∨ c.state = .atResponder)) ∧
    (busyUnit 1 []).current.isSome = true ∧ (at0 draining).grader = { queue := [], current := none } ∧
    live.closing.step ≠ .draining ∧ (∃ c ∈ (withCmds draining [rewrite] []).traffic.cmds, c.kind = .write ∧ c.state ≠ .atResponder) ∧
    ({ at0 draining with grader := { queue := [0], current := none } } : State).grader =
      { queue := 0 :: [], current := none } ∧
    State.reset.grader.queue = [] := by
  decide

/-- An idle unit; a computation that overflow sends to bin 0; one that entry 1 takes; one that no enabled entry takes. -/
theorem witness_ComputationWritesTheGradeRecord :
    State.reset.grader.current = none ∧ (busyUnit 0 []).current.isSome = true ∧
    0 < ({ live.gradeInputs 0 with overflow := 1 } : GradeInputs).overflow ∧ (live.gradeInputs 0).overflow = 0 ∧
    (∃ e, builtinBins[0]? = some e ∧ e.enabled = true ∧ 16 ≤ e.ceiling.toNat ∧ 0 ≤ e.maxMisplaced.toNat ∧
      (e.coverageRequired = true → true = true) ∧ e.minSoak.toNat ≤ 480) ∧
    (∀ e ∈ [BinEntry.disabled], ¬(e.enabled = true)) :=
  ⟨by decide, by decide, by decide, by decide, ⟨_, rfl, by decide⟩, by decide⟩

/-- Each phase a release completes in, with the allowance of entry 1 kept and passed, and bin 0; a phase of each row of the
indicator's table, and a released slot of each verdict. -/
theorem witness_ReleaseCompletionFixesTheVerdict :
    let waits := fun sl : Slot => ({ sl with closing := { sl.closing with releasePending := true } } : Slot)
    let shipped : Slot := { graded with sup := { graded.sup with phase := .shipped } }
    let bad : Slot := { shipped with defects := { DefectTable.empty with postClose := 1 } }
    (waits graded).closing.releasePending = true ∧ (∀ c ∈ (waits graded).traffic.cmds, c.state = .atResponder) ∧
    (waits graded).sup.phase = .graded ∧ (waits faulted).sup.phase = .faulted ∧ (waits shipped).sup.phase = .shipped ∧
    (shipped.closing.grade.map GradeRecord.bin).getD 0 = 1 ∧
    shipped.defects.postClose ≤ (builtinBins.getD 0 BinEntry.disabled).allowance.toNat ∧
    (builtinBins.getD 0 BinEntry.disabled).allowance.toNat < bad.defects.postClose ∧
    (faulted.closing.grade.map GradeRecord.bin).getD 0 = 0 ∧
    live.closing.releasePending = false ∧ (∃ c ∈ (withCmds graded [flush] []).traffic.cmds, c.state ≠ .atResponder) ∧
    Slot.reset.sup.phase = .empty ∧ live.sup.phase ∈ [Phase.attaching, .ready, .running, .held, .soak] ∧
    graded.sup.phase ∈ [Phase.grading, .graded, .shipping, .shipped] ∧
    (let gone := fun v : Verdict =>
       ({ graded with sup := { graded.sup with phase := .released }, closing := { graded.closing with verdict := v } } : Slot)
     (gone .fault).sup.phase = .released ∧ (gone (.ship 1)).closing.verdict = .ship 1 ∧
       (gone (.reject 0)).closing.verdict = .reject 0 ∧ (gone .fault).closing.verdict = .fault ∧
       (gone (.unshipped 8)).closing.verdict = .unshipped 8) := by
  decide

/-- A configuration memory with the marker, one without, and both kinds of lines. -/
theorem witness_ShelfResetStartsThePartAgain :
    ([0x7E5A0C31, 5] : Block).getD 0 0 = 0x7E5A0C31 ∧ (∀ b, (none : Option Block) = some b → b.getD 0 0 ≠ 0x7E5A0C31) ∧
    ([0] : Block).getD 0 0 ≠ 0x7E5A0C31 ∧
    ([⟨true, true⟩, ⟨true, false⟩] : List Lines).getD 0 ⟨false, false⟩ = ⟨true, true⟩ ∧
    ([⟨true, true⟩, ⟨true, false⟩] : List Lines).getD 1 ⟨false, false⟩ = ⟨true, false⟩ :=
  ⟨by decide, by simp, by decide, by decide, by decide⟩

/-! ## Witnesses: the pattern, the defect table, the pass -/

/-- An ORDERED zone of epoch 2 after 1, and one armed with the wipe epoch; the first and the last epoch of a normal stamp
block; a zone of each state; and for each case of R8 and R9 the first words of a block that meets it, read at block 0: no
candidate, the wipe epoch alone, a match of either candidate, of the wipe epoch beside another, then (c), (d) and (e). -/
theorem witness_StampedBlocksClassAsWritten :
    (1 ≤ 65534 ∧ Zone.blank.state = .blank ∧ (armed 1).state = .ordered ∧
      ({ armed 1 with state := .mixed } : Zone).state = .mixed) ∧
    (∀ cs ∈ [[], [65535], [2], [2, 1], [65535, 2]], ∀ c ∈ cs, 1 ≤ c ∧ c ≤ 65535) ∧
    (([2, 1] : List Nat) ≠ [] ∧ ([2, 1] : List Nat) ≠ [65535] ∧ ([65535, 2] : List Nat) ≠ [65535]) ∧
    (let claimed := fun b : Block => (b.getD 1 0).toNat / 65536 * 2 ^ 32 + (b.getD 0 0).toNat
     let field := fun b : Block => (b.getD 1 0).toNat % 65536
     (claimed [0, 2] = 0 ∧ field [0, 2] = 2) ∧ (∀ n < 1024, ([] : Block).getD n 0 = 0) ∧
       (claimed [0, 1] = 0 ∧ field [0, 1] = 1 ∧ 1 ∉ [2]) ∧ (claimed [5, 1] ≠ 0 ∧ field [5, 1] = 1) ∧
       field [0, 9] = 9) ∧
    let z : Zone := { state := .ordered, current := 2, previous := 1, wf := 4, rf := 0 }
    (0 < 2 ^ 48 ∧ 281474976710655 < 2 ^ 48 ∧ 281474976710655 ≠ 0) ∧ z.state = .ordered ∧ 3 < z.wf ∧ 1 ≤ z.current ∧
      z.current ≤ 65534 ∧ 1 ≤ z.previous ∧ z.previous ≤ 65534 ∧ z.previous ≠ z.current ∧
      ({ z with current := 65535 } : Zone).current = 65535 := by
  refine ⟨by decide, by decide, by decide, ⟨by decide, by simp, by decide⟩, by decide⟩

/-- An extent of one suspect run. -/
def extent (a n : Nat) : Extent :=
  { start := a, length := n, kind := .miscompare, status := .suspect, firstSerial := 1, firstTime := 0, lastSerial := 1
    lastTime := 0, hits := 1, worstB := 1, claimed := none }

/-- `n` extents of one block, one block apart, from block `a` on. -/
def row : Nat → Nat → List Extent
  | 0, _ => []
  | n + 1, a => extent a 1 :: row n (a + 2)

theorem row_length (n a : Nat) : (row n a).length = n := by
  induction n generalizing a with
  | zero => rfl
  | succ n ih => simp [row, ih]

theorem row_from (n a : Nat) : ∀ e ∈ row n a, a ≤ e.start ∧ e.length = 1 := by
  induction n generalizing a with
  | zero => simp [row]
  | succ n ih =>
    simp only [row, List.mem_cons, forall_eq_or_imp]
    exact ⟨⟨Nat.le_refl a, rfl⟩, fun e he => ⟨by have := (ih (a + 2) e he).1; omega, (ih (a + 2) e he).2⟩⟩

theorem row_ordered (n a : Nat) : orderedExtents (row n a) := by
  induction n generalizing a with
  | zero => trivial
  | succ n ih =>
    refine ⟨Nat.one_pos, fun e he => ?_, ih (a + 2)⟩
    have := (row_from n (a + 2) e he).1
    simp only [extent, Extent.stop]
    omega

/-- A run that reaches from inside one extent into the next; and for the gap part of block 514, each case of R72: between two
neighbours, beside one on either side up to the longest extent, beside neither, and beside neither in a full table. -/
theorem witness_RunInsertionKeepsTheTable :
    (ExtentsWF [extent 512 2, extent 515 1] ∧ (∀ e ∈ [extent 512 2, extent 515 1], e.length ≤ 65535) ∧
      (let r : Run := { first := 513, length := 3, kind := .miscompare, worstB := 1, claimed := none }
       1 ≤ r.length ∧ r.length ≤ 256)) ∧
    (live.sup.closed = false ∧ graded.sup.closed = true) ∧
    ((∀ e ∈ [extent 512 2, extent 515 1], e.start + e.length ≤ 514 ∨ 515 ≤ e.start) ∧
      (extent 512 2).start + (extent 512 2).length = 514 ∧ (extent 515 1).start = 515 ∧
      (extent 512 2).kind = .miscompare ∧ (extent 512 2).status ≠ .cleared ∧
      (extent 512 2).length + (515 - 514) + (extent 515 1).length ≤ 65535) ∧
    ((extent 0 65534).start + (extent 0 65534).length = 65534 ∧ (extent 0 65534).length + (65535 - 65534) ≤ 65535 ∧
      65535 < (extent 0 65535).length + 1) ∧
    (orderedExtents (row 512 0) ∧ (∀ e ∈ row 512 0, e.start + e.length ≤ 1025 ∨ 1026 ≤ e.start) ∧
      512 ≤ (row 512 0).length ∧ (row 511 0).length < 512 ∧
      (∀ l ∈ row 512 0, ¬(l.start + l.length = 1025)) ∧ (∀ e ∈ row 512 0, ¬(e.start = 1026))) := by
  have top : ∀ n a, ∀ e ∈ row n a, e.start + e.length < a + 2 * n := by
    intro n
    induction n with
    | zero => simp [row]
    | succ n ih =>
      intro a
      simp only [row, List.mem_cons, forall_eq_or_imp]
      exact ⟨by simp only [extent]; omega, fun e he => by have := ih (a + 2) e he; omega⟩
  refine ⟨⟨⟨by unfold orderedExtents orderedExtents orderedExtents; decide, by decide, by decide⟩, by decide, by decide⟩,
    by decide, by decide, by decide, row_ordered _ _, fun e he => .inl ?_, by rw [row_length],
    by rw [row_length]; decide, fun e he => ?_, fun e he => ?_⟩
  all_goals
    have := top 512 0 e he
    omega

/-- A write, a read and an endless read pass; a ship pass with the ship record still to write and with it written. -/
theorem witness_PassEndsWhenBothCountsAreZero :
    stamping.pass.remaining ≠ 0 ∧
    (let p := writePass .running 0 0
     p.state = .running ∧ p.remaining = 0 ∧ p.outstanding = 0 ∧ p.kind = .write ∧
       ({ p with kind := .read } : PassRecord).kind = .read ∧ p.endless = false ∧
       ({ p with kind := .read, endless := true } : PassRecord).endless = true) ∧
    (let wiped : Slot := { shipping with pass := { shipping.pass with remaining := 0, outstanding := 0 } }
     wiped.pass.state = .running ∧ wiped.pass.kind = .ship ∧ wiped.sup.phase = .shipping ∧ wiped.hasShipBlock = true ∧
       wiped.closing.shipWritten = false ∧
       ({ wiped with closing := { wiped.closing with shipWritten := true } } : Slot).closing.shipWritten = true) := by
  decide

/-! ## Witnesses: what every command keeps -/

/-- Slot 0 in the middle of a write pass, and a command for it in the queue. -/
def busy : State := { at0 working with pending := [.hold 0 3 0 0] }

/-- What slot 0 has and an EMPTY slot has, every slot of `busy` has. -/
theorem busy_slots {p : Slot → Prop} (h : p working) (h0 : p Slot.reset) (i : SlotId) : p (busy.slot i) := by
  match i with
  | 0 => exact h
  | 1 | 2 | 3 | 4 | 5 | 6 | 7 => exact h0

theorem busy_lifecycle : busy.Lifecycle :=
  ⟨busy_slots (by constructor <;> decide) (by constructor <;> decide), by constructor <;> decide⟩

theorem busy_steps : ∃ t, step busy = .next t := ⟨_, rfl⟩

theorem witness_MasksStayOn : busy.MasksOn ∧ ∃ t, step busy = .next t :=
  ⟨busy_slots (p := fun sl => sl.events.mask &&& alwaysOn = alwaysOn) (by decide) (by decide), busy_steps⟩

theorem witness_TablesStayOrdered : busy.TablesWF ∧ ∃ t, step busy = .next t :=
  ⟨busy_slots (p := fun sl => ExtentsWF sl.defects.extents ∧ (sl.sup.closed = false → sl.defects.postClose = 0))
    ⟨⟨trivial, by decide, by decide⟩, by decide⟩ ⟨⟨trivial, by decide, by decide⟩, by decide⟩, busy_steps⟩

theorem busy_traffic : busy.TrafficWF :=
  busy_slots (p := fun sl => sl.traffic.WF) working_traffic ⟨by decide, by decide, by decide, by decide, by decide⟩

theorem witness_OverlappingWritesNeverMeetAtTheDrive : busy.TrafficWF ∧ ∃ t, step busy = .next t :=
  ⟨busy_traffic, busy_steps⟩

theorem witness_LifecycleIsKept : busy.Lifecycle ∧ ∃ t, step busy = .next t := ⟨busy_lifecycle, busy_steps⟩

theorem witness_MapsAndRemainingAreKept :
    busy.Lifecycle ∧ busy.MapsWF ∧ busy.PassesCounted ∧ ∃ t, step busy = .next t :=
  ⟨busy_lifecycle,
    busy_slots ⟨by decide, by decide, by decide, fits_of (by decide)⟩ ⟨by decide, by decide, by decide, fits_of (by decide)⟩,
    busy_slots ⟨by decide, by decide⟩ ⟨by decide, by decide⟩, busy_steps⟩

theorem witness_OutstandingCountsThePassCommands :
    busy.Lifecycle ∧ busy.TrafficWF ∧ busy.PassCommandsCounted ∧ ∃ t, step busy = .next t :=
  ⟨busy_lifecycle, busy_traffic,
    busy_slots
      ⟨by decide, by decide, by
        intro c hc n hn
        obtain rfl := by simpa [working, withCmds] using hc
        simp [sent, posted, newEntry] at hn
        subst hn
        decide, by decide, by decide, by decide⟩
      ⟨by decide, by decide, by intro c hc; exact absurd hc (by simp [Slot.reset, Traffic.empty]), by decide, by decide,
        by decide⟩,
    busy_steps⟩

theorem witness_EngineWorksOneBurst : busy.OneBurst ∧ ∃ t, step busy = .next t :=
  ⟨⟨by decide, by decide, by decide⟩, busy_steps⟩

/-- A closed slot with its grade record, and a command for it. -/
theorem witness_ClosedSlotKeepsItsGrade :
    (at0 graded).Lifecycle ∧ ((at0 graded).slot 0).sup.closed = true ∧ (∃ t, exec (.ship 0 3 0 0) (at0 graded) = .next t) ∧
      ((at0 graded).slot 0).closing.grade = some record := by
  refine ⟨⟨?_, by constructor <;> decide⟩, by decide, ⟨_, rfl⟩, by decide⟩
  intro i
  match i with
  | 0 => exact (by constructor <;> decide : graded.Lifecycle)
  | 1 | 2 | 3 | 4 | 5 | 6 | 7 => exact (by constructor <;> decide : Slot.reset.Lifecycle)

end Sys2Proof.Tests
end

/-! PROOFS. The grant of the engine (R20): what the idle engine is, what the highest level is, and which slot wins. -/

namespace Sys2Proof.Machine

theorem mem_slotIds (i : SlotId) : i ∈ slotIds := by
  revert i; decide

/-! ## The engine queue -/

theorem Slot.hasJob_iff (sl : Slot) : sl.hasJob = true ↔ sl.traffic.jobs ≠ [] := by
  simp [Slot.hasJob]

theorem State.engineIdle_iff (s : State) :
    s.engineIdle = true ↔ ∀ i, ∀ j ∈ (s.slot i).traffic.jobs, j.granted = 0 := by
  simp [State.engineIdle, Slot.burst, mem_slotIds]

theorem Slot.modJobs_grantOldest {sl : Slot} {j : Job} {js : List Job} (h : sl.traffic.jobs = j :: js) :
    sl.modJobs grantOldest =
      { sl with traffic := { sl.traffic with jobs := { j with granted := min 16 (j.total - j.done) } :: js } } := by
  simp only [Slot.modJobs, Slot.modTraffic, h, grantOldest, Config.burstBlocks]

/-! ## The highest level -/

/-- The levels of the slots with queued jobs, of which `State.topLevel` is the highest. -/
def State.jobLevels (s : State) : List Nat :=
  (slotIds.filter fun i => (s.slot i).hasJob).map fun i => (s.slot i).level

theorem State.mem_jobLevels (s : State) (n : Nat) :
    n ∈ s.jobLevels ↔ ∃ i, (s.slot i).hasJob = true ∧ (s.slot i).level = n := by
  simp [State.jobLevels, mem_slotIds]

theorem State.topLevel_eq_max (s : State) : s.topLevel = s.jobLevels.max?.getD 0 := by
  simp only [State.topLevel, State.jobLevels, ← List.foldl_filter,
    ← List.foldl_map (f := fun i => (s.slot i).level), List.foldl_max, Nat.zero_max]

theorem State.max?_jobLevels {s : State} {i : SlotId} (h : (s.slot i).hasJob = true) :
    s.jobLevels.max? = some s.topLevel := by
  have hne : s.jobLevels ≠ [] := List.ne_nil_of_mem ((s.mem_jobLevels _).mpr ⟨i, h, rfl⟩)
  rw [s.topLevel_eq_max]
  cases hm : s.jobLevels.max? with
  | none => exact absurd (List.max?_eq_none_iff.mp hm) hne
  | some m => rfl

theorem State.level_le_topLevel {s : State} {i : SlotId} (h : (s.slot i).hasJob = true) :
    (s.slot i).level ≤ s.topLevel :=
  (List.max?_eq_some_iff.mp (State.max?_jobLevels h)).2 _ ((s.mem_jobLevels _).mpr ⟨i, h, rfl⟩)

theorem State.exists_level_eq_topLevel {s : State} {i : SlotId} (h : (s.slot i).hasJob = true) :
    ∃ k, (s.slot k).hasJob = true ∧ (s.slot k).level = s.topLevel :=
  (s.mem_jobLevels _).mp (List.max?_eq_some_iff.mp (State.max?_jobLevels h)).1

/-! ## The circular order -/

/-- The slot `k` places behind the one after the last-granted is at distance `k`. -/
theorem grantDistance_add (last k : SlotId) : grantDistance last (last + k + 1) = k.val := by
  have hplace : last + k + 1 - last - 1 = k := by abel
  rw [grantDistance, hplace]

theorem mem_circular (last i : SlotId) : i ∈ circular last :=
  List.mem_map.mpr ⟨i - last - 1, mem_slotIds _, by abel⟩

/-- The circular order lists the slots by their distance. -/
theorem circular_pairwise (last : SlotId) :
    (circular last).Pairwise fun a b => grantDistance last a < grantDistance last b := by
  simp only [circular, List.pairwise_map, grantDistance_add]
  decide

/-- A search of the circular order finds the nearest slot. -/
theorem grantDistance_le_of_find? {last i k : SlotId} {p : SlotId → Bool} (h : (circular last).find? p = some i)
    (hk : p k = true) : grantDistance last i ≤ grantDistance last k := by
  obtain ⟨-, before, after, hsplit, hbefore⟩ := List.find?_eq_some_iff_append.mp h
  have hsorted := circular_pairwise last
  have hmem := mem_circular last k
  rw [hsplit] at hsorted hmem
  obtain ⟨-, hfrom, -⟩ := List.pairwise_append.mp hsorted
  obtain hk' | rfl | hafter : k ∈ before ∨ k = i ∨ k ∈ after := by simpa using hmem
  · exact absurd hk (by simpa using hbefore k hk')
  · exact le_rfl
  · exact (List.rel_of_pairwise_cons hfrom hafter).le

/-! ## The winner -/

theorem State.winner_eq_none {s : State} (h : ∀ i, (s.slot i).hasJob = false) : s.winner = none := by
  simp [State.winner, h]

theorem State.exists_winner {s : State} {i : SlotId} (h : (s.slot i).hasJob = true) : ∃ w, s.winner = some w := by
  obtain ⟨k, hjob, hlevel⟩ := State.exists_level_eq_topLevel h
  exact Option.isSome_iff_exists.mp (List.find?_isSome.mpr ⟨k, mem_circular _ k, by simp [hjob, hlevel]⟩)

/-- The winner has a job and stands at the highest level. -/
theorem State.hasJob_level_of_winner {s : State} {w : SlotId} (h : s.winner = some w) :
    (s.slot w).hasJob = true ∧ (s.slot w).level = s.topLevel := by
  simpa using List.find?_some h

/-- Every other slot with a job is at a lower level, or at the same level and no nearer to the last-granted slot. -/
theorem State.winner_beats {s : State} {w k : SlotId} (h : s.winner = some w) (hk : (s.slot k).hasJob = true) :
    (s.slot k).level < (s.slot w).level ∨
      ((s.slot k).level = (s.slot w).level ∧ grantDistance s.engineLast w ≤ grantDistance s.engineLast k) := by
  rw [(State.hasJob_level_of_winner h).2]
  obtain hlt | heq := (State.level_le_topLevel hk).lt_or_eq
  · exact .inl hlt
  · exact .inr ⟨heq, grantDistance_le_of_find? h (by simp [hk, heq])⟩

/-! ## The grant -/

theorem exec_engineGrant (s : State) : exec .engineGrant s = .next s.grant := rfl

theorem State.grant_of_winner_none {s : State} (h : s.winner = none) : s.grant = s := by
  simp [State.grant, h]

theorem State.grant_of_winner {s : State} {w : SlotId} (hidle : s.engineIdle = true) (h : s.winner = some w) :
    s.grant = { s.modSlot w (Slot.modJobs grantOldest) with engineLast := w } := by
  simp [State.grant, hidle, h]

/-- Settles O35: the winner is what the search of the circular order finds at the highest level. -/
theorem engineGrantGoesToTheWinner : Obligations.EngineGrantGoesToTheWinner := by
  intro s hidle
  refine ⟨fun hnone => ?_, fun ⟨i, hi⟩ => ?_⟩
  · have hw : s.winner = none := State.winner_eq_none fun i => by simp [Slot.hasJob, hnone i]
    rw [exec_engineGrant, State.grant_of_winner_none hw]
  · obtain ⟨w, hw⟩ := State.exists_winner ((Slot.hasJob_iff _).mpr hi)
    have hjob := (Slot.hasJob_iff _).mp (State.hasJob_level_of_winner hw).1
    obtain ⟨j, js, hjs⟩ := List.exists_cons_of_ne_nil hjob
    refine ⟨w, j, js, hjs, fun k hk => State.winner_beats hw ((Slot.hasJob_iff _).mpr hk), ?_⟩
    rw [exec_engineGrant, State.grant_of_winner ((State.engineIdle_iff s).mpr hidle) hw, State.modSlot,
      Slot.modJobs_grantOldest hjs]

end Sys2Proof.Machine

/-! PROOFS. The rows of one zone (R29, R31 to R33, R36): one equation for each case of arming, of a stamped write and of
a read. -/

namespace Sys2Proof.Machine

section ZoneRows

variable {z : Zone} {e a b len : Nat} {held : Bool}

/-! ## Arming (R29) -/

theorem Zone.arm_of_current_eq (h : z.current = e) : z.arm e len = z := by
  simp [Zone.arm, h]

theorem Zone.arm_of_blank (he : z.current ≠ e) (hs : z.state = .blank) :
    z.arm e len = { z with state := .ordered, current := e, previous := 0, wf := 0 } := by
  simp [Zone.arm, he, hs]

/-- A complete ORDERED zone hands its epoch to P. -/
theorem Zone.arm_of_ordered_full (he : z.current ≠ e) (hs : z.state = .ordered) (hw : z.wf = len) :
    z.arm e len = { z with previous := z.current, current := e, wf := 0 } := by
  simp [Zone.arm, he, hs, hw]

/-- An ORDERED zone with nothing written keeps P: no block carries the epoch it had. -/
theorem Zone.arm_of_ordered_empty (he : z.current ≠ e) (hs : z.state = .ordered) (hw : z.wf ≠ len)
    (h0 : z.wf = 0) : z.arm e len = { z with current := e } := by
  have hlen : 0 ≠ len := h0 ▸ hw
  simp [Zone.arm, he, hs, h0, hlen]

theorem Zone.arm_of_ordered_partial (he : z.current ≠ e) (hs : z.state = .ordered) (hw : z.wf ≠ len)
    (h0 : z.wf ≠ 0) : z.arm e len = { z with state := .untracked, current := e, wf := 0 } := by
  simp [Zone.arm, he, hs, hw, h0]

theorem Zone.arm_of_disordered (he : z.current ≠ e) (hs : z.state = .mixed ∨ z.state = .untracked) :
    z.arm e len = { z with state := .untracked, current := e, wf := 0 } := by
  obtain hmixed | huntracked := hs
  · simp [Zone.arm, he, hmixed]
  · simp [Zone.arm, he, huntracked]

/-! ## Which rule a stamped write falls under (R31 to R33) -/

theorem Zone.stamp_of_blank (hs : z.state = .blank) : z.stamp e held a b len = z := by
  simp [Zone.stamp, hs]

theorem Zone.stamp_of_current_ne (hs : z.state ≠ .blank) (he : z.current ≠ e) :
    z.stamp e held a b len = z.outrun a := by
  simp [Zone.stamp, hs, he]

theorem Zone.stamp_running (hs : z.state ≠ .blank) (he : z.current = e) :
    z.stamp e false a b len = z.stampRunning a b len := by
  simp [Zone.stamp, hs, he]

theorem Zone.stamp_held (hs : z.state ≠ .blank) (he : z.current = e) :
    z.stamp e true a b len = z.stampHeld b := by
  simp [Zone.stamp, hs, he]

/-! ## A stamped write of the zone's own epoch (R31, R32) -/

/-- The write frontier reaches the zone's end: the zone is ORDERED whatever it was. -/
theorem Zone.stampRunning_of_completes (ha : a ≤ z.wf) (hb : max z.wf b = len) :
    z.stampRunning a b len = { z with state := .ordered, wf := len } := by
  simp [Zone.stampRunning, ha, hb]

theorem Zone.stampRunning_of_advances (ha : a ≤ z.wf) (hb : max z.wf b ≠ len) :
    z.stampRunning a b len = { z with wf := max z.wf b } := by
  simp [Zone.stampRunning, ha, hb]

theorem Zone.stampRunning_of_gap (ha : z.wf < a) :
    z.stampRunning a b len = { z with state := if z.state = .ordered then .mixed else z.state } := by
  simp [Zone.stampRunning, Nat.not_le.mpr ha]

theorem Zone.stampHeld_of_inside (hb : b ≤ z.wf) : z.stampHeld b = z := by
  simp [Zone.stampHeld, hb]

theorem Zone.stampHeld_of_above (hb : z.wf < b) :
    z.stampHeld b = { z with state := if z.state = .ordered then .mixed else z.state } := by
  simp [Zone.stampHeld, Nat.not_le.mpr hb]

theorem Zone.stampHeld_of_not_ordered (hs : z.state ≠ .ordered) : z.stampHeld b = z := by
  obtain hb | hb := le_or_gt b z.wf
  · exact Zone.stampHeld_of_inside hb
  · simp [Zone.stampHeld_of_above hb, hs]

/-! ## Reads (R36) -/

theorem Zone.readOver_held : z.readOver true a b len = z := rfl

theorem Zone.readOver_running :
    z.readOver false a b len = { z with rf := if a ≤ z.rf then max z.rf b else z.rf } := by
  obtain ha | ha := le_or_gt a z.rf
  · simp [Zone.readOver, ha]
  · simp [Zone.readOver, Nat.not_le.mpr ha]

end ZoneRows

/-- Settles O29: each row is a case of arming, of a stamped write under the rule that its epoch and the pass's hold
select, or of a read. -/
theorem zoneRows : Obligations.ZoneRows := by
  intro z e a b len
  refine ⟨Zone.arm_of_current_eq, fun he => ?arm, fun _ => Zone.stamp_of_blank, fun _ => Zone.stamp_of_current_ne,
    fun hs he => ?own, rfl, Zone.readOver_held, Zone.readOver_running⟩
  case arm =>
    exact ⟨Zone.arm_of_blank he, Zone.arm_of_ordered_full he, Zone.arm_of_ordered_empty he,
      Zone.arm_of_ordered_partial he, Zone.arm_of_disordered he⟩
  case own =>
    rw [Zone.stamp_running hs he, Zone.stamp_held hs he]
    refine ⟨Zone.stampRunning_of_completes, Zone.stampRunning_of_advances, fun ha ho => ?_, fun ha ho => ?_,
      Or.rec Zone.stampHeld_of_inside Zone.stampHeld_of_not_ordered, fun hb ho => ?_⟩
    · simp [Zone.stampRunning_of_gap ha, ho]
    · simp [Zone.stampRunning_of_gap ha, ho]
    · simp [Zone.stampHeld_of_above hb, ho]

end Sys2Proof.Machine

/-! PROOFS. ARM on a READY slot (R46 to R48): what the adoption of step 1 leaves of the counters, the pass that step 4
starts, and the COMMAND block write that carries them. -/

namespace Sys2Proof.Machine

section Arm

variable {s : State} {i : SlotId} {t : Tag} {a b : Word} {sl : Slot} {write endless : Bool}

/-! ## The adoption -/

/-- A rebuilt map clears the coverage flags, and no counter (R38). -/
theorem Slot.rederive_serials : sl.rederive.tally.serials = sl.tally.serials := by
  unfold Slot.rederive; dsimp only; split <;> rfl

theorem Slot.rederive_writeEpochs : sl.rederive.tally.writeEpochs = sl.tally.writeEpochs := by
  unfold Slot.rederive; dsimp only; split <;> rfl

theorem Slot.adopt_serials {r : Recipe} : (sl.adopt r).tally.serials = sl.tally.serials := Slot.rederive_serials

theorem Slot.adopt_writeEpochs {r : Recipe} : (sl.adopt r).tally.writeEpochs = sl.tally.writeEpochs :=
  Slot.rederive_writeEpochs

theorem Slot.adopt_pass {r : Recipe} : (sl.adopt r).pass = sl.pass := by
  simp

/-! ## The start of a pass -/

/-- Step 4 of ARM: the pass of the kind is armed and the phase becomes RUNNING (R46). -/
def Slot.startPass (write endless : Bool) (sl : Slot) : Slot :=
  (if write then sl.armWrite else sl.armRead endless).setPhase .running

/-- The counters of the slot allow one more pass of the kind (step 3 of R46). -/
def Slot.belowPassLimit (write : Bool) (sl : Slot) : Prop :=
  sl.tally.serials ≠ 65535 ∧ (write = true → sl.tally.writeEpochs ≠ 65534)

theorem Slot.belowPassLimit_adopt {r : Recipe} :
    (sl.adopt r).belowPassLimit write ↔ sl.belowPassLimit write := by
  rw [Slot.belowPassLimit, Slot.adopt_serials, Slot.adopt_writeEpochs, Slot.belowPassLimit]

/-- The write pass of R47, its serial and its epoch the raised counters. -/
theorem Slot.startPass_write : sl.startPass true endless =
    { sl with
      sup := { sl.sup with phase := .running }
      tally := { sl.tally with
        serials := sl.tally.serials + 1
        writeEpochs := sl.tally.writeEpochs + 1
        writeCovered := false
        verified := false }
      zmap := { sl.zmap with zones := sl.zmap.every (Zone.arm (sl.tally.writeEpochs + 1)) }
      pass := .armed .write false (sl.tally.serials + 1) (sl.tally.writeEpochs + 1) sl.zmap.region.blocks } := rfl

/-- The read pass of R48: the epoch of the record that it replaces is carried over. -/
theorem Slot.startPass_read : sl.startPass false endless =
    { sl with
      sup := { sl.sup with phase := .running }
      tally := { sl.tally with serials := sl.tally.serials + 1 }
      zmap := { sl.zmap with zones := sl.zmap.zones.map Zone.clearRF }
      pass := .armed .read endless (sl.tally.serials + 1) sl.pass.epoch sl.zmap.region.blocks } := rfl

theorem Slot.startPass_modCommand (g : CommandBlock → CommandBlock) :
    (sl.modCommand g).startPass write endless = (sl.startPass write endless).modCommand g := by
  cases write <;> rfl

/-! ## The command -/

theorem armAdopted_starts (he : (s.slot i).zmap.region.status = .enabled) (hl : (s.slot i).belowPassLimit write) :
    armAdopted i write endless s = doSlot i (Slot.startPass write endless) s := by
  obtain ⟨hserials, hepochs⟩ := hl
  have henabled : ¬(s.slot i).zmap.region.enabled = false := by simp [Region.enabled, he]
  have hbelow : ¬((s.slot i).tally.serials = Config.maxSerial ∨
      (write = true ∧ (s.slot i).tally.writeEpochs = Config.maxWriteEpoch)) :=
    not_or.mpr ⟨hserials, fun ⟨hw, hmax⟩ => hepochs hw hmax⟩
  simp only [armAdopted, if_neg henabled, if_neg hbelow]
  rfl

/-- ARM of a known kind on a READY slot passes its first two tests and adopts the pending recipe. -/
theorem runArm_of_ready (ha : a = 1 ∨ a = 2) (hp : (s.slot i).sup.phase = .ready) :
    runArm i a b s = armAdopted i (a == 1) (b.getLsbD 0) (s.modSlot i fun sl => sl.adopt sl.pending) := by
  have hkind : ¬(a ≠ 1 ∧ a ≠ 2) := by tauto
  rw [runArm, if_neg hkind, if_neg (not_not.mpr hp)]

/-- What ARM does when it is not refused: the slot adopts its pending recipe and starts the pass over the adopted
region. -/
theorem runArm_starts (ha : a = 1 ∨ a = 2) (hp : (s.slot i).sup.phase = .ready)
    (he : ((s.slot i).adopt (s.slot i).pending).zmap.region.status = .enabled)
    (hl : (s.slot i).belowPassLimit (a == 1)) :
    runArm i a b s =
      { state := s.setSlot i (((s.slot i).adopt (s.slot i).pending).startPass (a == 1) (b.getLsbD 0))
        outcome := .done } := by
  rw [runArm_of_ready ha hp, armAdopted_starts (by simpa using he) (by simpa [Slot.belowPassLimit_adopt] using hl)]
  simp [doSlot, State.modSlot]

theorem exec_arm (ht : (s.slot i).tagBusy t = false) :
    exec (.arm i t a b) s = .next ((s.portGivenUp.takeCommand i t 1 a b).say [reply i t .good]) := by
  rw [← State.writeCommand_eq s i t 1 a b ht]; rfl

/-- ARM that is not refused, with its record in the COMMAND block: the record and the pass stand apart. -/
theorem exec_arm_starts (ha : a = 1 ∨ a = 2) (ht : (s.slot i).tagBusy t = false)
    (hp : (s.slot i).sup.phase = .ready)
    (he : ((s.slot i).adopt (s.slot i).pending).zmap.region.status = .enabled)
    (hl : (s.slot i).belowPassLimit (a == 1)) :
    exec (.arm i t a b) s = .next ((s.portGivenUp.setSlot i
      (((s.slot i).adopt (s.slot i).pending).startPass (a == 1) (b.getLsbD 0))).answered i t 1 a b .done) := by
  have hrun : runCommand i t 1 a b (s.portGivenUp.modSlot i (Slot.modCommand (CommandBlock.taken 1 a b))) =
      { state := s.portGivenUp.setSlot i
          ((((s.slot i).adopt (s.slot i).pending).startPass (a == 1) (b.getLsbD 0)).modCommand
            (CommandBlock.taken 1 a b))
        outcome := .done } := by
    rw [runCommand, if_pos rfl, runArm_starts ha (by simpa using hp)
      (by simpa [Slot.adopt_modCommand] using he) (by simpa [Slot.belowPassLimit] using hl)]
    simp [State.modSlot, Slot.adopt_modCommand, Slot.startPass_modCommand]
  rw [exec_arm ht, State.takeCommand_of _ _ _ _ _ _ _ _ _ hrun]

end Arm

/-- Settles O11: kind 1 starts the write pass and kind 2 the read pass, each with the counters as the adoption left
them. -/
theorem armStartsAPass : Obligations.ArmStartsAPass := by
  intro s i t b sl ad ht hp he hserials
  refine ⟨fun hepochs => ?write, ?read⟩
  case write =>
    rw [exec_arm_starts (.inl rfl) ht hp he ⟨hserials, fun _ => hepochs⟩, beq_self_eq_true, Slot.startPass_write,
      Slot.adopt_serials, Slot.adopt_writeEpochs]
    rfl
  case read =>
    have hread : ((2 : Word) == 1) = false := by decide
    rw [exec_arm_starts (.inr rfl) ht hp he ⟨hserials, by simp⟩, hread, Slot.startPass_read, Slot.adopt_serials,
      Slot.adopt_pass]
    rfl

end Sys2Proof.Machine

/-! PROOFS. Admission (R89): the ten checks one by one, each the first to fail once those before it have passed; and the
commands that bring a whole record to its slot (R84). -/

namespace Sys2Proof.Machine

section Admission

variable {s : State} {i : SlotId} {sl : Slot} {r : Record} {k : CmdKind} {c : Condition}

/-! ## What a record is -/

theorem Record.hasRange_iff (hk : r.kind = some k) : r.hasRange = true ↔ k = .read ∨ k = .write := by
  simp [Record.hasRange, hk]

/-- A control command is a ranged one in the window (R87). -/
theorem Record.isControl_iff (hk : r.kind = some k) :
    r.isControl = true ↔ (k = .read ∨ k = .write) ∧ 281474976710592 ≤ r.start := by
  simp only [Record.isControl, Bool.and_eq_true, Record.hasRange_iff hk, decide_eq_true_eq]; rfl

/-- A record that has come whole without frames is the one that its other fields spell. -/
theorem Record.eq_bareRecord (hcomplete : r.complete = true) (hframes : r.frames = []) :
    bareRecord r.kind r.tag r.addr r.count r.omitted r.param = r := by
  cases r; cases hcomplete; cases hframes; rfl

/-- A whole WRITE with data is the record that the port makes of its frames. -/
theorem Collecting.record_eq (hk : r.kind = some .write) (hcomplete : r.complete = true) (homit : r.omitted = false)
    (hparam : r.param = 0) :
    Collecting.record { slot := i, tag := r.tag, addr := r.addr, count := r.count, frames := r.frames } true = r := by
  cases r; cases hk; cases hcomplete; cases homit; cases hparam; rfl

/-! ## The range check (check 4) -/

theorem Slot.rangeRefusal_rangeless (hr : r.hasRange = false) : sl.rangeRefusal r = none := by
  simp [Slot.rangeRefusal, hr]

/-- A range that runs from the drive into the window straddles. -/
theorem Slot.rangeRefusal_intoWindow (hr : r.hasRange = true) (hd : r.isControl = false)
    (hinto : ¬r.start + r.length ≤ 281474976710592) : sl.rangeRefusal r = some .straddle := by
  have : Config.controlBase < r.start + r.length := by simpa [Config.controlBase] using hinto
  simp [Slot.rangeRefusal, hr, hd, this]

section BelowWindow

variable (hr : r.hasRange = true) (hd : r.isControl = false) (hin : r.start + r.length ≤ 281474976710592)
include hr hd hin

/-- The range check of a range below the window, on the classes of its blocks. -/
theorem Slot.rangeRefusal_belowWindow :
    sl.rangeRefusal r =
      if ∃ n < r.length, sl.classOf (r.start + n) = .beyond then some .outOfRange
      else if ∃ n < r.length, sl.classOf (r.start + n) ≠ sl.classOf r.start then some .straddle
      else none := by
  have hbelow : ¬Config.controlBase < r.start + r.length := by simpa [Config.controlBase] using hin
  simp only [Slot.rangeRefusal, hr, hd, hbelow, Slot.classesOf_any, bne_iff_ne, beq_iff_eq]
  rfl

theorem Slot.rangeRefusal_beyond (hb : ¬∀ n < r.length, sl.classOf (r.start + n) ≠ .beyond) :
    sl.rangeRefusal r = some .outOfRange := by
  rw [Slot.rangeRefusal_belowWindow hr hd hin, if_pos (by simpa using hb)]

theorem Slot.rangeRefusal_mixed (ht : ∀ n < r.length, sl.classOf (r.start + n) ≠ .beyond)
    (hmixed : ¬∀ n < r.length, sl.classOf (r.start + n) = sl.classOf r.start) :
    sl.rangeRefusal r = some .straddle := by
  rw [Slot.rangeRefusal_belowWindow hr hd hin, if_neg (by simpa using ht), if_pos (by simpa using hmixed)]

theorem Slot.rangeRefusal_uniform (ht : ∀ n < r.length, sl.classOf (r.start + n) ≠ .beyond)
    (hsame : ∀ n < r.length, sl.classOf (r.start + n) = sl.classOf r.start) : sl.rangeRefusal r = none := by
  rw [Slot.rangeRefusal_belowWindow hr hd hin, if_neg (by simpa using ht), if_neg (by simpa using hsame)]

end BelowWindow

/-! ## The checks in order -/

/-- Checks 1 to 3 of R89 pass a data command. -/
structure Slot.PassesPresence (sl : Slot) (r : Record) : Prop where
  wellFormed : r.malformed = false
  tagFree    : sl.tagBusy r.tag = false
  data       : r.isControl = false
  up         : sl.sup.phase.down = false

/-- Checks 1 to 4 of R89 pass a data command. -/
structure Slot.PassesRange (sl : Slot) (r : Record) : Prop extends sl.PassesPresence r where
  range : sl.rangeRefusal r = none

/-- Check 2. -/
theorem Slot.refusal_tagBusy (hm : r.malformed = false) (ht : sl.tagBusy r.tag = true) :
    sl.refusal r = some .tagBusy := by
  simp [Slot.refusal, hm, ht]

/-- Check 3. -/
theorem Slot.refusal_slotDown (hm : r.malformed = false) (ht : sl.tagBusy r.tag = false) (hd : r.isControl = false)
    (hdown : sl.sup.phase.down = true) : sl.refusal r = some .slotDown := by
  simp [Slot.refusal, hm, ht, hd, hdown]

/-- Check 4. -/
theorem Slot.PassesPresence.refusal_range (h : sl.PassesPresence r) (hc : sl.rangeRefusal r = some c) :
    sl.refusal r = some c := by
  simp [Slot.refusal, h.wellFormed, h.tagFree, h.up, hc]

/-- Check 5. -/
theorem Slot.PassesRange.refusal_leaving (h : sl.PassesRange r) (hp : sl.sup.power = true)
    (hl : sl.sup.latch = false) : sl.refusal r = some .slotLeaving := by
  simp [Slot.refusal, h.wellFormed, h.tagFree, h.data, h.up, h.range, hp, hl]

/-- Check 6. -/
theorem Slot.PassesRange.refusal_wrongPhase (h : sl.PassesRange r) (hl : (sl.sup.power && !sl.sup.latch) = false)
    (ht : sl.phaseTakes r = false) : sl.refusal r = some .wrongPhase := by
  simp [Slot.refusal, h.wellFormed, h.tagFree, h.data, h.up, h.range, hl, ht]

/-! ## The checks of a write's class (checks 7 to 10) -/

/-- A WRITE that checks 1 to 6 of R89 pass, its blocks in class `cls`. -/
structure Slot.TakesWrite (sl : Slot) (r : Record) (cls : AddrClass) : Prop where
  kind     : r.kind = some .write
  complete : r.complete = true
  free     : sl.takesData r.tag
  phase    : sl.sup.phase.takes .write r.omitted = true
  range    : sl.rangeIn r.addr r.count cls

/-- A well-formed record that names blocks names 1 to 256 of them and has come whole (R90). -/
theorem Record.counts_of_wellFormed (hk : r.kind = some .read ∨ r.kind = some .write) (hm : r.malformed = false) :
    r.complete = true ∧ 1 ≤ r.count.toNat ∧ r.count.toNat ≤ 256 := by
  have hcases := (Record.malformed_iff r hk).not.mp (by simp [hm])
  push Not at hcases
  obtain ⟨hzero, hmany, -, -, hcomplete, -⟩ := hcases
  exact ⟨by simpa using hcomplete, Nat.one_le_iff_ne_zero.mpr hzero, hmany⟩

theorem Slot.isShipWrite_iff (hk : r.kind = some k) :
    sl.isShipWrite r = true ↔ k = .write ∧ sl.shipWriteNow r.omitted r.start r.length = true := by
  simp [Slot.isShipWrite, hk]

/-- The ship record write is of the last block of the guard, which is not of class CLEAR (R87, R92). -/
theorem Slot.isShipWrite_eq_false_of_clear (hcls : sl.classOf r.start = .clear) : sl.isShipWrite r = false := by
  have hout : ¬r.start + 1 = sl.active.guardSize := fun hlast => by
    have hguard : r.start < sl.active.guardSize := by omega
    unfold Slot.classOf at hcls
    split_ifs at hcls
    split at hcls
    · cases hcls
    · split_ifs at hcls
  simp [Slot.isShipWrite, Slot.shipWriteNow, hout]

theorem Slot.armedForWrites_iff :
    sl.armedForWrites = true ↔
      (sl.pass.kind = .write ∨ sl.pass.kind = .ship) ∧ (sl.pass.state = .running ∨ sl.pass.state = .held) := by
  simp [Slot.armedForWrites, PassRecord.active]

/-- The four checks, in order, of a WRITE that the others pass. -/
theorem Slot.TakesWrite.refusal_eq {cls : AddrClass} (h : sl.TakesWrite r cls)
    (hc : cls = .guarded ∨ cls = .stamp ∨ cls = .clear) :
    sl.refusal r =
      if cls = .guarded ∧ sl.isShipWrite r = false then some .guarded
      else if r.omitted = true ∧ cls ≠ .stamp ∧ sl.isShipWrite r = false then some .noData
      else if r.omitted = true ∧ cls = .stamp ∧ sl.armedForWrites = false then some .notArmed
      else if r.omitted = true ∧ cls = .stamp ∧ sl.pass.state = .held then some .held
      else none := by
  obtain ⟨-, -, hchecks⟩ :=
    sl.refusal_ranged r .write cls h.kind (.inr rfl) nofun h.complete hc h.range h.free h.phase
  simpa using hchecks

/-- Check 7. -/
theorem Slot.TakesWrite.refusal_guarded (h : sl.TakesWrite r .guarded) (hship : sl.isShipWrite r = false) :
    sl.refusal r = some .guarded := by
  rw [h.refusal_eq (by simp)]
  simp [hship]

/-- Check 8. -/
theorem Slot.TakesWrite.refusal_noData (h : sl.TakesWrite r .clear) (homit : r.omitted = true) :
    sl.refusal r = some .noData := by
  have hclear := (sl.rangeIn_data r.addr r.count .clear (by simp) h.range).2
  rw [h.refusal_eq (by simp)]
  simp [homit, Slot.isShipWrite_eq_false_of_clear hclear]

/-- Checks 9 and 10. -/
theorem Slot.TakesWrite.refusal_stamp (h : sl.TakesWrite r .stamp) (homit : r.omitted = true) :
    sl.refusal r =
      if sl.armedForWrites = false then some .notArmed else if sl.pass.state = .held then some .held else none := by
  rw [h.refusal_eq (by simp)]
  simp [homit]

/-! ## The commands that bring a record -/

/-- A record that carries no data is delivered as it arrives. -/
theorem exec_bareRecord (hk : r.kind = some k) (hcomplete : r.complete = true) (hframes : r.frames = []) :
    (k = .other → exec (.other i r.tag r.addr r.count r.omitted r.param) s = .next (s.portGivenUp.deliver i r)) ∧
    (r.param = 0 →
      (k = .read → exec (.read i r.tag r.addr r.count r.omitted) s = .next (s.portGivenUp.deliver i r)) ∧
      (k = .write → r.omitted = true →
        exec (.dataOmittedWrite i r.tag r.addr r.count) s = .next (s.portGivenUp.deliver i r)) ∧
      (k = .flush → exec (.flush i r.tag r.addr r.count r.omitted) s = .next (s.portGivenUp.deliver i r)) ∧
      (k = .identify → exec (.identify i r.tag r.addr r.count r.omitted) s = .next (s.portGivenUp.deliver i r))) := by
  have hbare := Record.eq_bareRecord hcomplete hframes
  rw [← State.arrive_eq]
  refine ⟨?other, fun hparam => ⟨?read, ?write, ?flush, ?identify⟩⟩
  case other => rintro rfl; rw [hk] at hbare; rw [← hbare]; rfl
  case read => rintro rfl; rw [hk, hparam] at hbare; rw [← hbare]; rfl
  case write => rintro rfl homit; rw [hk, hparam, homit] at hbare; rw [← hbare]; rfl
  case flush => rintro rfl; rw [hk, hparam] at hbare; rw [← hbare]; rfl
  case identify => rintro rfl; rw [hk, hparam] at hbare; rw [← hbare]; rfl

theorem exec_dataFrame {data : Block} : exec (.dataFrame data) s = .next (s.takeFrame data) := rfl

/-- The last frame of a WRITE delivers its record. -/
theorem exec_lastFrame {frames : List Block} {data : Block} (hk : r.kind = some .write) (hcomplete : r.complete = true)
    (homit : r.omitted = false) (hparam : r.param = 0) (hframes : r.frames = frames ++ [data])
    (hlast : frames.length + 1 = r.count.toNat)
    (hport : s.port = some { slot := i, tag := r.tag, addr := r.addr, count := r.count, frames := frames }) :
    exec (.dataFrame data) s = .next (State.deliver i r { s with port := none }) := by
  have hrec := Collecting.record_eq (i := i) hk hcomplete homit hparam
  rw [hframes] at hrec
  rw [exec_dataFrame, State.takeFrame_last s data _ hport hlast, hrec]

end Admission

/-- Settles O6: the checks come in the order in which `Slot.refusal` makes them, and each is the first to fail once
those before it have passed. -/
theorem admissionChecksInOrder : Obligations.AdmissionChecksInOrder := by
  intro s i r k hk sl u arrives refused ranged data inside same there leaving taken ship armed
  have refuse {c : Condition} (hc : sl.refusal r = some c) : refused c := s.deliver_refused i r c hc
  have hcontrol : r.isControl = true ↔ ¬data := (Record.isControl_iff hk).trans not_not.symm
  have hrange : r.hasRange = true ↔ ranged := Record.hasRange_iff hk
  refine ⟨exec_bareRecord hk, ?lastFrame, fun hm => refuse (sl.refusal_malformed r hm),
    fun hm ht => refuse (Slot.refusal_tagBusy hm ht), ?control, fun hm ht hdata => ?dataCommand⟩
  case lastFrame =>
    rintro rfl hcomplete homit hparam frames block hframes hlast hport
    exact exec_lastFrame hk hcomplete homit hparam hframes hlast hport
  case control =>
    intro hm ht hdata
    have hdeliver := s.deliver_control i r k hk hm (hcontrol.mpr hdata) ht
    exact ⟨fun hread => by rw [hdeliver, if_pos hread], fun hwrite => by rw [hdeliver, hwrite, if_neg (by decide)]⟩
  case dataCommand =>
    have hd : r.isControl = false := by simpa using hcontrol.not.mpr (not_not.mpr hdata)
    refine ⟨fun hdown => refuse (Slot.refusal_slotDown hm ht hd hdown), fun hup => ?_⟩
    have present : sl.PassesPresence r := ⟨hm, ht, hd, hup⟩
    refine ⟨fun hr hinto => refuse (present.refusal_range (Slot.rangeRefusal_intoWindow (hrange.mpr hr) hd hinto)),
      fun hr hin hb => refuse (present.refusal_range (Slot.rangeRefusal_beyond (hrange.mpr hr) hd hin hb)),
      fun hr hin hth hmixed =>
        refuse (present.refusal_range (Slot.rangeRefusal_mixed (hrange.mpr hr) hd hin hth hmixed)),
      fun hone => ?_⟩
    have inRange : sl.PassesRange r := by
      refine ⟨present, ?_⟩
      by_cases hr : ranged
      · obtain ⟨hin, hth, hsame⟩ := hone hr
        exact Slot.rangeRefusal_uniform (hrange.mpr hr) hd hin hth hsame
      · exact Slot.rangeRefusal_rangeless (by simpa using hrange.not.mpr hr)
    have hlatch (hstays : ¬leaving) : sl.sup.power = true → sl.sup.latch = true := by
      simpa [leaving] using hstays
    have htakes : sl.phaseTakes r = true ↔ taken := by simp [Slot.phaseTakes, hk, taken]
    refine ⟨fun ⟨hpower, hopen⟩ => refuse (inRange.refusal_leaving hpower hopen),
      fun hstays hnot => refuse (inRange.refusal_wrongPhase (by simpa using hlatch hstays)
        (by simpa using htakes.not.mpr hnot)), fun hstays ⟨hrelease, hphase⟩ => ?_⟩
    have takesWrite {cls : AddrClass} (hw : k = .write) (hcls : sl.classOf r.start = cls) : sl.TakesWrite r cls := by
      subst hw
      obtain ⟨hcomplete, hfew, hmany⟩ := Record.counts_of_wellFormed (.inr hk) hm
      obtain ⟨-, -, hsame⟩ := hone (.inr rfl)
      exact ⟨hk, hcomplete, ⟨ht, hlatch hstays, hrelease⟩, hphase, hfew, hmany,
        fun n hn => (hsame n hn).trans hcls⟩
    refine ⟨fun hw hcls hship => refuse ((takesWrite hw hcls).refusal_guarded
        (by simpa using (Slot.isShipWrite_iff hk).not.mpr hship)),
      fun hw homit hcls => refuse ((takesWrite hw hcls).refusal_noData homit), fun hw homit hcls hnot => ?notArmed,
      fun hw homit hcls harmed hheld => ?held⟩
    case notArmed =>
      have hunarmed : sl.armedForWrites = false := by simpa using Slot.armedForWrites_iff.not.mpr hnot
      exact refuse (by rw [(takesWrite hw hcls).refusal_stamp homit, if_pos hunarmed])
    case held =>
      have harm : ¬sl.armedForWrites = false := by simpa using Slot.armedForWrites_iff.mpr harmed
      exact refuse (by rw [(takesWrite hw hcls).refusal_stamp homit, if_neg harm, if_pos hheld])

end Sys2Proof.Machine


/-! PROOFS. What one command can do, said once: a command opens the port (`State.Opens`), and then the part goes through
moves of one slot and of the grading unit (`State.Move`), each of which does to the slot one of the operations of
`Slot.Op`. What a step keeps is then proved operation by operation. -/

namespace Sys2Proof.Machine

open Relation

/-! ## The first and the last command -/

/-- Settles O1. -/
theorem stepRunsTheFrontCommand : Obligations.StepRunsTheFrontCommand := by
  intro c rest s h
  rw [step, h]

/-- Settles O2. -/
theorem emptyQueueStepIsOneMillisecond : Obligations.EmptyQueueStepIsOneMillisecond := by
  intro s h
  simp [step, h, State.tick, Config.max48]

/-! ## The operations of one slot -/

/-- The records that stand beside the life of a slot may change: monitors, pending recipe, COMMAND block, timing, flags,
times and lines; the carrier does not go, and the mask bits of TRIP and FAULT do not fall. -/
structure Slot.Touches (a b : Slot) : Prop where
  ident   : b.ident = a.ident
  key     : b.key = a.key
  active  : b.active = a.active
  zmap    : b.zmap = a.zmap
  pass    : b.pass = a.pass
  tally   : b.tally = a.tally
  defects : b.defects = a.defects
  traffic : b.traffic = a.traffic
  link    : b.link = a.link
  closing : b.closing = a.closing
  phase   : b.sup.phase = a.sup.phase
  cause   : b.sup.cause = a.sup.cause
  closed  : b.sup.closed = a.sup.closed
  power   : b.sup.power = a.sup.power
  carrier : a.sup.carrier = true → b.sup.carrier = true
  mask    : b.events.mask = a.events.mask ∨ ∃ m, b.events.mask = storedMask m

/-- The release of a slot: pending, and complete at once when the slot is quiet (R165, R166). -/
def Slot.release (bins : List BinEntry) (sl : Slot) : Slot :=
  let pending := sl.modClosing fun c => { c with releasePending := true }
  if pending.quiet then pending.completeRelease bins else pending

/-- The slot after its entry to FAULTED, a pending release completed (R126, R167). -/
def Slot.faulted (i : SlotId) (now : Nat) (bins : List BinEntry) (cause : FaultCause) (sl : Slot) : Slot :=
  let down := ((Act.start sl).fault i now cause).sl
  if down.closing.releasePending then down.completeRelease bins else down

/-- The slot after a trip (R141). -/
def Slot.tripped (i : SlotId) (now : Nat) (bins : List BinEntry) (sl : Slot) : Slot :=
  (if sl.sup.phase = .faulted then sl.tripPower.modSup fun u => { u with cause := some .trip }
    else sl.tripPower.faulted i now bins .trip).raise .trip

/-- The operations that one command applies to a slot without the grading unit's part. -/
inductive Slot.Op : Slot → Slot → Prop
  | touch {a b : Slot} (h : a.Touches b) : Slot.Op a b
  | accept {sl : Slot} (i : SlotId) {r : Record} {k : CmdKind} (hk : r.kind = some k) (hc : r.isControl = false)
      (h : sl.refusal r = none) : Slot.Op sl ((Act.start sl).accept i (r.toCmd k (sl.classFor r))).sl
  | holdRead {sl : Slot} {r : Record} (hb : sl.tagBusy r.tag = false) (h : sl.holdsGradeRead = true) :
      Slot.Op sl (sl.modCmds fun cs => cs ++ [r.toControl .read])
  | adopt {sl : Slot} (h : sl.sup.phase = .ready ∨ sl.sup.phase = .soak ∨ sl.sup.phase = .attaching) :
      Slot.Op sl (sl.adopt sl.pending)
  | startPass {sl : Slot} (write endless : Bool) (hp : sl.sup.phase = .ready) (he : sl.zmap.region.enabled = true)
      (hl : sl.belowPassLimit write) : Slot.Op sl (sl.startPass write endless)
  | hold {sl : Slot} (h : sl.sup.phase = .running) :
      Slot.Op sl ((sl.modPass fun p => { p with state := .held, holdHost := true }).setPhase .held)
  | resume {sl : Slot} (h : sl.sup.phase = .held) :
      Slot.Op sl ((sl.modPass fun p => { p with state := .running, holdHost := false, holdThermal := false }).setPhase
        .running).testPass
  | abort {sl : Slot} (h : sl.sup.phase = .running ∨ sl.sup.phase = .held) :
      Slot.Op sl ((sl.modPass PassRecord.abort).setPhase .ready)
  | endSoak {sl : Slot} (h : sl.sup.phase = .soak) : Slot.Op sl (sl.setPhase .ready)
  | abortShip {sl : Slot} (h : sl.sup.phase = .shipping) : Slot.Op sl (sl.abortPass.setPhase .graded)
  | soak {sl : Slot} (a : Word) (h : sl.sup.phase = .ready) :
      Slot.Op sl ((sl.modTally fun t => { t with soakTarget := soakMinutes a, soakGained := 0 }).setPhase .soak)
  | close {sl : Slot} (hc : sl.sup.closed = false) (h : sl.sup.phase = .ready ∨ sl.sup.phase = .soak) :
      Slot.Op sl ((sl.setPhase .grading).setStep .draining)
  | ship {sl : Slot} (h : sl.sup.phase = .graded) (hr : sl.closing.releasePending = false) :
      Slot.Op sl (sl.armShip.setPhase .shipping).testPass
  | release {sl : Slot} (bins : List BinEntry)
      (h : sl.sup.phase = .graded ∨ sl.sup.phase = .shipped ∨ sl.sup.phase = .faulted) :
      Slot.Op sl (sl.release bins)
  | completeRelease {sl : Slot} (bins : List BinEntry) (h : sl.closing.releasePending = true) (hq : sl.quiet = true) :
      Slot.Op sl (sl.completeRelease bins)
  | resetSlot {sl : Slot} (i : SlotId) (t : Tag) (now : Nat) (default : Recipe) (hc : sl.sup.closed = false)
      (h : sl.resettable = true) : Slot.Op sl ((Act.start sl).resetSlot i t now default).sl
  | issue {sl : Slot} (now : Nat) (number : BitVec 8) (i : SlotId) {d : DriveTag} {before : List Cmd} {c : Cmd}
      {after : List Cmd} (hu : sl.link.state = .up) (hd : sl.tagFree d = true)
      (hs : sl.traffic.cmds = before ++ c :: after) (hw : c.state = .waiting) (hb : blocked before c after = false) :
      Slot.Op sl (sl.issueCmd now number i d before c after)
  | guardFail {sl : Slot} (i : SlotId) (now : Nat) {before : List Cmd} {c : Cmd} {after : List Cmd}
      (hs : sl.traffic.cmds = before ++ c :: after) (hw : c.state = .waiting) :
      Slot.Op sl ((Act.start sl).guardFail i now c (before ++ after)).sl
  | complete {sl : Slot} (i : SlotId) (now : Nat) {d : DriveTag} {c : Cmd} (status : DriveStatus) (data : List Block)
      (ident : Identification) (hf : sl.traffic.cmds.find? (Cmd.atTag d) = some c) :
      Slot.Op sl ((Act.start sl).completion i now d c status data ident).sl
  | generated {sl : Slot} {j : Job} (d : DriveTag) (g : Generation) :
      Slot.Op sl ((sl.modJobs advanceJobs).generateBurst d g j)
  | checked {sl : Slot} (i : SlotId) (now : Nat) (t : Tag) (j : Job) :
      Slot.Op sl (((Act.start sl).mod (Slot.modJobs advanceJobs)).checkBurst i now t j).sl
  | expire {sl : Slot} (i : SlotId) (now : Nat) {d : DriveTag} {c : Cmd}
      (hf : sl.traffic.cmds.find? (Cmd.atTag d) = some c) : Slot.Op sl ((Act.start sl).expire i now d c).sl
  | loseLink {sl : Slot} (i : SlotId) (now : Nat) (hp : sl.sup.power = true) (hf : sl.sup.phase ≠ .faulted) :
      Slot.Op sl ((Act.start sl).linkReset i now).sl
  | dropLink {sl : Slot} (hf : sl.sup.phase = .faulted) (hu : sl.link.state = .up) :
      Slot.Op sl (sl.modLink fun l => { l with state := .down })
  | resetDone {sl : Slot} (hp : sl.sup.power = true) (hl : sl.link.state = .resetting) : Slot.Op sl sl.resetDone
  | requeue {sl : Slot} : Slot.Op sl sl.requeue
  | cameUp {sl : Slot} (hp : sl.sup.power = true) (hl : sl.link.state = .down) :
      Slot.Op sl ((sl.modLink fun l => { l with state := .up }).modSup fun u => { u with attachDeadline := none })
  | attach {sl : Slot} (now : Nat) (default : Recipe) (hp : sl.sup.phase = .empty) (hc : sl.sup.carrier = true)
      (hl : sl.sup.latch = true) : Slot.Op sl (sl.attach now default)
  | afterSample {sl : Slot} : Slot.Op sl sl.afterSample

/-- The operations of a slot that the grading unit sees: the end of the drain, the entry to FAULTED, the trip and the end
of the computation. -/
inductive Slot.GradeOp : Slot → Slot → Prop
  | queued {sl : Slot} (h : sl.closing.step = .draining) (hd : sl.drained = true) :
      Slot.GradeOp sl (sl.setStep .queued)
  | faulted {sl : Slot} (i : SlotId) (now : Nat) (bins : List BinEntry) {cause : FaultCause} (hc : cause ≠ .trip)
      (h : sl.sup.power = true ∨ sl.link.state = .resetting ∨ sl.sup.phase = .attaching) :
      Slot.GradeOp sl (sl.faulted i now bins cause)
  | tripped {sl : Slot} (i : SlotId) (now : Nat) (bins : List BinEntry) (h : sl.sup.power = true) :
      Slot.GradeOp sl (sl.tripped i now bins)
  | graded {sl : Slot} (i : SlotId) (g : GradeRecord) : Slot.GradeOp sl ((Act.start sl).graded i g).sl

/-! ## The moves of the part -/

/-- One move of the part in an event of slot `i`. -/
inductive State.Move (i : SlotId) : State → State → Prop
  | op {s : State} {sl : Slot} (out : List Upstream) (h : (s.slot i).Op sl) : State.Move i s ((s.setSlot i sl).say out)
  | advance {s : State} (due : Option Nat) : State.Move i s (s.advanceTo due)
  | drain {s : State} : State.Move i s (s.testDrain i)
  | start {s : State} : State.Move i s s.startNext
  | fault {s : State} {cause : FaultCause} (hc : cause ≠ .trip)
      (h : (s.slot i).sup.power = true ∨ (s.slot i).link.state = .resetting ∨ (s.slot i).sup.phase = .attaching) :
      State.Move i s (s.faultSlot i cause)
  | trip {s : State} (h : (s.slot i).sup.power = true) : State.Move i s (s.trip i)
  | complete {s : State} {c : Computation} (h : s.grader.current = some c) (hi : c.slot = i) :
      State.Move i s s.completeComputation

/-- The moves of an event of slot `i`, one after the other. -/
abbrev State.Moves (i : SlotId) : State → State → Prop := ReflTransGen (State.Move i)

section Moves

variable {s t u : State} {i : SlotId} {sl : Slot}

theorem State.Move.one (h : State.Move i s t) : State.Moves i s t := ReflTransGen.single h

/-- A part in which only slot `i` changed, by an operation. -/
theorem State.moves_set (h : (s.slot i).Op sl) : State.Moves i s (s.setSlot i sl) := by
  simpa using (State.Move.op [] h).one

theorem State.moves_mod {f : Slot → Slot} (h : (s.slot i).Op (f (s.slot i))) : State.Moves i s (s.modSlot i f) :=
  State.moves_set h

theorem State.moves_doSlot {f : Slot → Slot} (h : (s.slot i).Op (f (s.slot i))) :
    State.Moves i s (doSlot i f s).state := State.moves_set h

theorem State.moves_commit {x : Act} (h : (s.slot i).Op x.sl) : State.Moves i s (s.commit i x) :=
  (State.Move.op x.out h).one

theorem State.moves_touch {f : Slot → Slot} (h : (s.slot i).Touches (f (s.slot i))) : State.Moves i s (s.modSlot i f) :=
  State.moves_mod (.touch h)

theorem Slot.Touches.refl (sl : Slot) : sl.Touches sl :=
  ⟨rfl, rfl, rfl, rfl, rfl, rfl, rfl, rfl, rfl, rfl, rfl, rfl, rfl, rfl, id, .inl rfl⟩

theorem State.moves_say (out : List Upstream) : State.Moves i s (s.say out) := by
  have h := State.Move.op (s := s) (i := i) out (.touch (.refl (s.slot i)))
  rw [State.setSlot_self] at h
  exact h.one

/-! ## The tests at the end of an event -/

theorem State.moves_testRelease : State.Moves i s (s.testRelease i) := by
  unfold State.testRelease
  split
  · rename_i h
    exact State.moves_mod (.completeRelease _ h.1 h.2)
  · exact .refl

theorem State.moves_settle : State.Moves i s (s.settle i) :=
  (State.Move.drain.one).trans State.moves_testRelease

/-! ## Control-window commands -/

/-- What a control-window command does is moves of its slot. -/
theorem armAdopted_moves (write endless : Bool) (hp : (s.slot i).sup.phase = .ready) :
    State.Moves i s (armAdopted i write endless s).state := by
  unfold armAdopted
  dsimp only
  split
  · exact .refl
  · split
    · exact .refl
    · rename_i he hl
      rw [not_or, not_and] at hl
      exact State.moves_doSlot (.startPass write endless hp (by simpa using he) hl)

theorem runArm_moves (a b : Word) : State.Moves i s (runArm i a b s).state := by
  unfold runArm
  split
  · exact .refl
  · split
    · exact .refl
    · rename_i hp
      rw [not_not] at hp
      exact (State.moves_mod (.adopt (.inl hp))).trans (armAdopted_moves _ _ (by simpa using hp))

theorem runResume_moves : State.Moves i s (runResume i s).state := by
  unfold runResume
  split
  · exact .refl
  · split
    · exact .refl
    · rename_i hp _
      exact State.moves_doSlot (.resume (not_not.mp hp))

theorem runAbort_moves : State.Moves i s (runAbort i s).state := by
  unfold runAbort
  split
  case h_1 h => exact State.moves_doSlot (.abort (.inl h))
  case h_2 h => exact State.moves_doSlot (.abort (.inr h))
  case h_3 h => exact State.moves_doSlot (.endSoak h)
  case h_4 h => exact State.moves_doSlot (.abortShip h)
  case h_5 => exact .refl

theorem runAdopt_moves : State.Moves i s (runAdopt i s).state := by
  unfold runAdopt
  split
  case h_1 h => exact State.moves_doSlot (.adopt (.inl h))
  case h_2 h => exact State.moves_doSlot (.adopt (.inr (.inl h)))
  case h_3 h => exact State.moves_doSlot (.adopt (.inr (.inr h)))
  case h_4 => exact .refl

theorem runClose_moves : State.Moves i s (runClose i s).state := by
  unfold runClose
  split
  · exact .refl
  · rename_i hc
    split
    case h_1 h => exact (State.moves_mod (.close (by simpa using hc) (.inl h))).trans State.Move.drain.one
    case h_2 h => exact (State.moves_mod (.close (by simpa using hc) (.inr h))).trans State.Move.drain.one
    case h_3 => exact .refl

theorem runShip_moves : State.Moves i s (runShip i s).state := by
  unfold runShip
  dsimp only
  split
  · exact .refl
  · split
    · exact .refl
    · rename_i h _
      rw [not_or, not_not, Bool.not_eq_true] at h
      exact State.moves_doSlot (.ship h.1 h.2)

/-- A release asked for and tested at once is one operation. -/
theorem State.testRelease_pending (s : State) (i : SlotId) :
    (s.modSlot i fun sl => sl.modClosing fun c => { c with releasePending := true }).testRelease i =
      s.setSlot i ((s.slot i).release s.shelf.bins) := by
  simp only [State.testRelease, State.slot_modSlot, Slot.modClosing_closing, true_and, Slot.release]
  rw [apply_ite (s.setSlot i)]
  simp only [State.modSlot, State.slot_setSlot, State.setSlot_setSlot, State.setSlot_shelf]

theorem runRelease_moves : State.Moves i s (runRelease i s).state := by
  unfold runRelease
  rw [State.testRelease_pending]
  split
  case h_1 h => split; exacts [.refl, State.moves_set (.release _ (.inl h))]
  case h_2 h => split; exacts [.refl, State.moves_set (.release _ (.inr (.inl h)))]
  case h_3 h => split; exacts [.refl, State.moves_set (.release _ (.inr (.inr h)))]
  case h_4 => exact .refl

theorem runResetSlot_moves (t : Tag) : State.Moves i s (runResetSlot i t s).state := by
  unfold runResetSlot
  split
  · exact .refl
  · split
    · rename_i hc hr
      exact State.moves_commit (.resetSlot i t _ _ (by simpa using hc) hr)
    · exact .refl

theorem Slot.touches_clearFlags (m : BitVec 16) (sl : Slot) : sl.Touches (sl.clearFlags m) := by
  unfold Slot.clearFlags
  dsimp only
  split
  all_goals exact ⟨rfl, rfl, rfl, rfl, rfl, rfl, rfl, rfl, rfl, rfl, rfl, rfl, rfl, rfl, id, .inl rfl⟩

theorem moves_ite {p : Prop} [Decidable p] {d e : Done} (hd : State.Moves i s d.state) (he : State.Moves i s e.state) :
    State.Moves i s (if p then d else e).state := by
  split
  · exact hd
  · exact he

theorem runCommand_moves (t : Tag) (code a b : Word) : State.Moves i s (runCommand i t code a b s).state := by
  have hold : State.Moves i s (runHold i s).state := by
    unfold runHold
    split
    · exact .refl
    · rename_i h
      exact State.moves_doSlot (.hold (not_not.mp h))
  have soak : State.Moves i s (runSoak i a s).state := by
    unfold runSoak
    split
    · exact .refl
    · rename_i h
      exact State.moves_doSlot (.soak a (not_not.mp h))
  have clear : State.Moves i s (runClearEvents i a s).state :=
    State.moves_doSlot <| .touch (Slot.touches_clearFlags _ _)
  have mask : State.Moves i s (runSetMask i a s).state :=
    State.moves_doSlot <| .touch ⟨rfl, rfl, rfl, rfl, rfl, rfl, rfl, rfl, rfl, rfl, rfl, rfl, rfl, rfl, id, .inr ⟨_, rfl⟩⟩
  exact moves_ite (runArm_moves a b) <| moves_ite hold <| moves_ite runResume_moves <| moves_ite runAbort_moves <|
    moves_ite soak <| moves_ite runAdopt_moves <| moves_ite runClose_moves <| moves_ite runShip_moves <|
    moves_ite runRelease_moves <| moves_ite (runResetSlot_moves t) <| moves_ite clear <| moves_ite mask .refl

theorem Slot.touches_modCommand (f : CommandBlock → CommandBlock) (sl : Slot) : sl.Touches (sl.modCommand f) :=
  ⟨rfl, rfl, rfl, rfl, rfl, rfl, rfl, rfl, rfl, rfl, rfl, rfl, rfl, rfl, id, .inl rfl⟩

theorem State.moves_takeCommand (t : Tag) (code a b : Word) : State.Moves i s (s.takeCommand i t code a b) :=
  ((State.moves_touch (Slot.touches_modCommand _ _)).trans (runCommand_moves t code a b)).trans
    (State.moves_touch (Slot.touches_modCommand _ _))

end Moves

end Sys2Proof.Machine


/-! PROOFS. Every command as moves: records and window accesses (R84 to R95), issue and completions, the engine, the drive
link, lines and sensing (chapters 5 to 8). -/

namespace Sys2Proof.Machine

open Relation

section Events

variable {s t : State} {i : SlotId} {r : Record} {k : CmdKind}

/-! ## Records -/

theorem Slot.wellFormed_of_admitted {sl : Slot} (h : sl.refusal r = none) : r.malformed = false := by
  cases hm : r.malformed with
  | false => rfl
  | true => rw [Slot.refusal_malformed sl r hm] at h; cases h

theorem Slot.tagFree_of_admitted {sl : Slot} (h : sl.refusal r = none) : sl.tagBusy r.tag = false := by
  cases ht : sl.tagBusy r.tag with
  | false => rfl
  | true => rw [Slot.refusal_tagBusy (Slot.wellFormed_of_admitted h) ht] at h; cases h

/-- A control read is held or answered. -/
theorem State.moves_controlRead (ht : (s.slot i).tagBusy r.tag = false) : State.Moves i s (s.controlRead i r) := by
  rw [State.controlRead_eq s i r ht]
  dsimp only
  split
  · rename_i h
    exact State.moves_mod (.holdRead ht h.2)
  · exact State.moves_say _

theorem Slot.touches_pending (r : Recipe) (sl : Slot) : sl.Touches { sl with pending := r } :=
  ⟨rfl, rfl, rfl, rfl, rfl, rfl, rfl, rfl, rfl, rfl, rfl, rfl, rfl, rfl, id, .inl rfl⟩

/-- The part with the shelf block that a record writes, if it writes it, and otherwise the part as it is (R179). -/
def State.ShelfTaken (r : Record) (s s0 : State) : Prop :=
  s0 = s ∨ r.kind = some .write ∧ r.omitted = false ∧ r.start = Config.controlBase + 32 ∧
    ∃ data, s0 = { s with shelf := s.shelf.written data }

theorem State.moves_windowTake (t : Tag) (offset : Nat) (data : Block) (h : offset ≠ 32) :
    State.Moves i s (s.windowTake i t offset data) := by
  unfold State.windowTake
  split
  · exact (State.moves_takeCommand t _ _ _).trans (State.moves_say _)
  · split
    · exact (State.moves_touch (f := fun sl => { sl with pending := Recipe.ofBlock data 0 })
        (Slot.touches_pending _ _)).trans (State.moves_say _)
    · exact State.moves_say _

theorem State.windowTake_shelf (s : State) (i : SlotId) (t : Tag) (data : Block) :
    s.windowTake i t 32 data = ({ s with shelf := s.shelf.written data } : State).say [reply i t .good] := rfl

/-- A delivered record is moves of its slot, after the shelf block if it writes that. -/
theorem State.moves_deliver (s : State) (i : SlotId) (r : Record) :
    ∃ s0, State.ShelfTaken r s s0 ∧ State.Moves i s0 (s.deliver i r) := by
  cases hr : (s.slot i).refusal r with
  | some c => exact ⟨s, .inl rfl, by rw [State.deliver_refused s i r c hr]; exact State.moves_say _⟩
  | none =>
    have hm := Slot.wellFormed_of_admitted hr
    have ht := Slot.tagFree_of_admitted hr
    obtain ⟨k, hk⟩ : ∃ k, r.kind = some k := by
      cases hk : r.kind with
      | some k => exact ⟨k, rfl⟩
      | none => simp [Record.malformed, hk] at hm
    cases hc : r.isControl with
    | false =>
      refine ⟨s, .inl rfl, ?_⟩
      rw [State.deliver_taken s i r k hk hc hr]
      exact State.moves_commit (.accept i hk hc hr)
    | true =>
      rw [State.deliver_control s i r k hk hm hc ht]
      split
      · exact ⟨s, .inl rfl, State.moves_controlRead ht⟩
      · rename_i hnr
        rw [State.controlWrite_eq s i r ht]
        obtain ⟨hrange, hstart⟩ : r.hasRange = true ∧ Config.controlBase ≤ r.start := by
          simpa [Record.isControl] using hc
        have hw : r.kind = some .write := by
          rw [hk]; cases k <;> simp_all [Record.hasRange]
        by_cases ho : r.start - Config.controlBase = 32
        · rw [ho]
          have hom : r.omitted = false := by
            cases hom : r.omitted with
            | false => rfl
            | true => simp [Record.malformed, Record.omits, hw, hom, hstart] at hm
          exact ⟨_, .inr ⟨hw, hom, by omega, _, rfl⟩, State.moves_say _⟩
        · exact ⟨s, .inl rfl, State.moves_windowTake _ _ _ ho⟩

/-! ## The issue queue and drive completions -/

theorem State.moves_issueSlot (s : State) (i : SlotId) (d : DriveTag) : State.Moves i s (s.issueSlot i d) := by
  unfold State.issueSlot
  dsimp only
  split
  · exact .refl
  · rename_i hu
    rw [not_not] at hu
    split
    case h_1 e before c after he hr =>
      obtain ⟨hs, hw, hb⟩ := firstReady_spec _ _ _ _ _ hr
      split
      · exact State.moves_mod (.issue _ _ i hu (Slot.issueTag_free _ _ _ he) hs hw hb)
      · exact (State.moves_commit (.guardFail i _ hs hw)).trans State.moves_settle
    case h_2 => exact .refl

theorem State.moves_driveCompletion (s : State) (i : SlotId) (d : DriveTag) (status : DriveStatus) (data : List Block)
    (ident : Identification) : State.Moves i s (s.driveCompletion i d status data ident) := by
  unfold State.driveCompletion
  dsimp only
  split
  case h_1 =>
    exact State.moves_touch (f := Slot.modTiming fun q => { q with late := satAdd Config.max32 q.late 1 })
      ⟨rfl, rfl, rfl, rfl, rfl, rfl, rfl, rfl, rfl, rfl, rfl, rfl, rfl, rfl, id, .inl rfl⟩
  case h_2 c hc =>
    split
    · exact .refl
    · exact (State.moves_commit (.complete i _ status data ident hc)).trans State.moves_settle

/-! ## The engine -/

theorem State.moves_burstDone (s : State) : ∃ i, State.Moves i s s.burstDone := by
  unfold State.burstDone
  split
  case h_1 => exact ⟨0, .refl⟩
  case h_2 i _ =>
    refine ⟨i, ?_⟩
    split
    case h_1 => exact .refl
    case h_2 j _ =>
      refine ReflTransGen.trans (State.moves_commit ?_) State.moves_settle
      cases j.owner with
      | generate d g => exact .generated d g
      | check t => exact .checked i _ t j

/-! ## Deadlines and the drive link -/

theorem State.moves_deadlineExpiry (s : State) (i : SlotId) (d : DriveTag) :
    State.Moves i s (s.deadlineExpiry i d) := by
  unfold State.deadlineExpiry
  split
  case h_1 => exact .refl
  case h_2 c hc =>
    have hx : ((s.advanceTo c.deadline).slot i).traffic.cmds.find? (Cmd.atTag d) = some c := by simpa using hc
    exact (State.Move.advance _).one.trans ((State.moves_commit (.expire i _ hx)).trans State.moves_settle)

theorem State.moves_linkLost (s : State) (i : SlotId) : State.Moves i s (s.linkLost i) := by
  unfold State.linkLost
  dsimp only
  split
  · rename_i h
    split
    · rename_i hf
      exact State.moves_mod (.dropLink hf h.2)
    · rename_i hf
      exact (State.moves_commit (.loseLink i _ h.1 hf)).trans State.moves_settle
  · exact .refl

theorem State.moves_linkUp (s : State) (i : SlotId) : State.Moves i s (s.linkUp i) := by
  unfold State.linkUp
  dsimp only
  split
  · exact .refl
  · rename_i hp
    rw [Bool.not_eq_false] at hp
    split
    case h_1 hl =>
      refine (State.moves_mod (f := Slot.resetDone) (.resetDone hp hl)).trans ?_
      split
      · exact (State.Move.fault (by decide) (.inl (by simpa using hp))).one
      · exact State.moves_mod (f := Slot.requeue) .requeue
    case h_2 hl => exact State.moves_mod (.cameUp hp hl)
    case h_3 => exact .refl

theorem State.moves_linkUpExpiry (s : State) (i : SlotId) : State.Moves i s (s.linkUpExpiry i) := by
  unfold State.linkUpExpiry
  split
  · rename_i h
    exact (State.Move.advance _).one.trans
      (State.Move.fault (by decide) (.inr (.inl (by rwa [State.advanceTo_slot])))).one
  · exact .refl

theorem State.moves_attachExpiry (s : State) (i : SlotId) : State.Moves i s (s.attachExpiry i) := by
  unfold State.attachExpiry
  split
  · rename_i h
    exact (State.Move.advance _).one.trans
      (State.Move.fault (by decide) (.inr (.inr (by rw [State.advanceTo_slot]; exact h.1)))).one
  · exact .refl

/-! ## Lines and sensing -/

theorem State.moves_tryAttach : State.Moves i s (s.tryAttach i) := by
  unfold State.tryAttach
  dsimp only
  split
  · rename_i h
    exact State.moves_mod (.attach _ _ h.1 h.2.1 h.2.2)
  · exact .refl

theorem State.moves_insertCarrier (s : State) (i : SlotId) : State.Moves i s (s.insertCarrier i) := by
  unfold State.insertCarrier
  split
  · exact .refl
  · exact (State.moves_touch (f := fun sl => sl.modSup fun u => { u with carrier := true })
      ⟨rfl, rfl, rfl, rfl, rfl, rfl, rfl, rfl, rfl, rfl, rfl, rfl, rfl, rfl, fun _ => rfl, .inl rfl⟩).trans
      State.moves_tryAttach

theorem State.moves_closeLatch (s : State) (i : SlotId) : State.Moves i s (s.closeLatch i) := by
  unfold State.closeLatch
  split
  · exact .refl
  · exact (State.moves_touch (f := fun sl => sl.modSup fun u => { u with latch := true, warning := false })
      ⟨rfl, rfl, rfl, rfl, rfl, rfl, rfl, rfl, rfl, rfl, rfl, rfl, rfl, rfl, id, .inl rfl⟩).trans
      State.moves_tryAttach

theorem State.moves_openLatch (s : State) (i : SlotId) : State.Moves i s (s.openLatch i) := by
  unfold State.openLatch
  split
  · exact State.moves_touch (f := fun sl => sl.modSup fun u => { u with latch := false, warning := u.warning || u.power })
      ⟨rfl, rfl, rfl, rfl, rfl, rfl, rfl, rfl, rfl, rfl, rfl, rfl, rfl, rfl, id, .inl rfl⟩
  · exact .refl

theorem State.moves_graceEnd (s : State) (i : SlotId) : State.Moves i s (s.graceEnd i) :=
  (State.Move.advance _).one.trans <| State.moves_touch (f := fun sl => sl.modSup fun u => { u with graceEnd := none })
    ⟨rfl, rfl, rfl, rfl, rfl, rfl, rfl, rfl, rfl, rfl, rfl, rfl, rfl, rfl, id, .inl rfl⟩

@[simp] theorem Slot.raiseIf_mask (p : Bool) (f : EventFlag) (sl : Slot) :
    (sl.raiseIf p f).events.mask = sl.events.mask := by
  cases p <;> rfl

theorem Slot.touches_sample (current : BitVec 32) (temp : BitVec 16) (sl : Slot) :
    sl.Touches (sl.scheduleSample.sample current temp) := by
  refine ⟨by simp, by simp, by simp, by simp, by simp, by simp, by simp, by simp, by simp, by simp, ?_, ?_, ?_, ?_,
    ?_, .inl ?_⟩
  all_goals simp [Slot.scheduleSample]
  simp [Slot.sample]

theorem State.moves_sampleSlot (s : State) (i : SlotId) (current : BitVec 32) (temp : BitVec 16) :
    State.Moves i s (s.sampleSlot i current temp) := by
  unfold State.sampleSlot
  split
  · rename_i hp
    dsimp only
    refine (State.Move.advance (s.slot i).sup.nextSample).one.trans ?_
    refine (State.moves_touch (f := fun sl => sl.scheduleSample.sample current temp) (Slot.touches_sample _ _ _)).trans ?_
    split
    · exact (State.Move.trip (by simpa [Slot.scheduleSample] using hp)).one
    · exact State.moves_mod (f := Slot.afterSample) .afterSample
  · exact .refl

theorem State.moves_completeComputation (s : State) : ∃ i, State.Moves i s s.completeComputation := by
  cases h : s.grader.current with
  | none => exact ⟨0, by unfold State.completeComputation; rw [h]⟩
  | some c => exact ⟨c.slot, (State.Move.complete h rfl).one⟩

end Events

/-! ## What a command does before its moves -/

/-- What a command that arrives does to the shared records before its slot sees it: the port takes or gives up a WRITE,
and a write to the shelf block replaces the recipe and the bins there (R84, R179). -/
structure State.Opens (c : Instr) (s s0 : State) : Prop where
  slots      : s0.slots = s.slots
  grader     : s0.grader = s.grader
  pending    : s0.pending = s.pending
  engineLast : s0.engineLast = s.engineLast
  clock      : s0.shelf.clock = s.shelf.clock
  upstream   : ∃ out, s0.upstream = s.upstream ++ out
  port       : fromHost c = false → s0.port = s.port
  shelf      : c.wellFormed = true → (¬∃ data, c = .dataFrame data) → (¬∃ i t data, c = .shelfBlockWrite i t data) →
    s0.shelf = s.shelf

/-- What a command can do: moves of one slot, which is the slot it names; the engine's grant; a carrier's removal; or the
shelf reset. -/
inductive State.Follows (c : Instr) (s t : State) : Prop
  | moves {i : SlotId} {s0 : State} (hn : ∀ k, namedSlot c = some k → k = i) (ho : State.Opens c s s0)
      (hm : State.Moves i s0 t)
  | grant (hc : c = .engineGrant) (ht : t = s.grant)
  | remove {i : SlotId} (hc : c = .carrierRemoved i) (hl : (s.slot i).sup.carrier = true) (ht : t = s.removeCarrier i)
  | reset {lines : List Lines} {memory : Option Block} (hc : c = .shelfReset lines memory)
      (ht : t = s.shelfReset lines memory)

section Follows

variable {s t : State} {i : SlotId} {c : Instr}

theorem State.Opens.refl (c : Instr) (s : State) : State.Opens c s s :=
  ⟨rfl, rfl, rfl, rfl, rfl, ⟨[], by simp⟩, fun _ => rfl, fun _ _ _ => rfl⟩

/-- A command that arrives on the shelf link gives up a write under way. -/
theorem State.opens_portGivenUp (s : State) (h : fromHost c = true) : State.Opens c s s.portGivenUp := by
  refine ⟨by simp, by simp, by simp, by simp, by simp, ?_, fun hf => (by rw [h] at hf; cases hf), fun _ _ _ => by simp⟩
  unfold State.portGivenUp
  split
  · exact ⟨[], by simp⟩
  · exact ⟨_, rfl⟩

theorem State.Opens.withPort {s0 : State} (h : State.Opens c s s0) (hf : fromHost c = true) (p : Option Collecting) :
    State.Opens c s { s0 with port := p } :=
  ⟨h.slots, h.grader, h.pending, h.engineLast, h.clock, h.upstream, fun hn => (by rw [hf] at hn; cases hn), h.shelf⟩

/-- A record delivered after the port was opened, by a command that may write the shelf block if the record does. -/
theorem State.follows_deliver {s1 : State} {r : Record} (ho : State.Opens c s s1)
    (hn : ∀ k, namedSlot c = some k → k = i)
    (hw : r.kind = some .write → r.omitted = false → r.start = Config.controlBase + 32 → c.wellFormed = true →
      (∃ data, c = .dataFrame data) ∨ ∃ i t data, c = .shelfBlockWrite i t data) :
    State.Follows c s (s1.deliver i r) := by
  obtain ⟨s0, hs, hm⟩ := s1.moves_deliver i r
  obtain rfl | ⟨hk, homit, hst, data, rfl⟩ := hs
  · exact .moves hn ho hm
  · refine .moves (s0 := { s1 with shelf := s1.shelf.written data }) hn
      ⟨ho.slots, ho.grader, ho.pending, ho.engineLast, ho.clock, ho.upstream, ho.port, ?_⟩ hm
    intro hwf hf hb
    exact absurd (hw hk homit hst hwf) (not_or.mpr ⟨hf, hb⟩)

/-- A record without data arrives. -/
theorem State.follows_arrive {r : Record} (hf : fromHost c = true) (hn : ∀ k, namedSlot c = some k → k = i)
    (hw : r.kind = some .write → r.omitted = true) : State.Follows c s (s.arrive i r) := by
  rw [State.arrive_eq]
  exact State.follows_deliver (s.opens_portGivenUp hf) hn fun hk homit => by simp [hw hk] at homit

/-- A one-block write of the window arrives. -/
theorem State.follows_windowWrite {u : Tag} {offset : Nat} {data : Block} (hf : fromHost c = true)
    (hn : ∀ k, namedSlot c = some k → k = i) (ho : offset < 64)
    (hw : offset = 32 → c.wellFormed = true → ∃ i t data, c = .shelfBlockWrite i t data) :
    State.Follows c s (s.windowWrite i u offset data) := by
  rw [State.windowWrite_deliver]
  refine State.follows_deliver (s.opens_portGivenUp hf) hn fun _ _ hst hwf => .inr (hw ?_ hwf)
  rw [windowRecord_start i u offset data ho] at hst
  omega

theorem State.follows_openPort {u : Tag} {addr : BitVec 48} {count : BitVec 16} :
    State.Follows (.write i u addr count) s (s.closePort.openPort i u addr count) := by
  have ho := s.opens_portGivenUp (c := .write i u addr count) rfl
  have hn : ∀ k, namedSlot (.write i u addr count) = some k → k = i := fun k h => by cases h; rfl
  rw [State.closePort_eq, State.openPort]
  split
  · rename_i hcount
    refine .moves hn ho ?_
    rw [State.deliver_malformed]
    · exact State.moves_say _
    · rw [Record.malformed_iff _ (.inr rfl)]
      exact hcount.elim .inl fun h => .inr (.inl h)
  · exact .moves hn (ho.withPort rfl _) .refl

theorem State.follows_takeFrame (data : Block) : State.Follows (.dataFrame data) s (s.takeFrame data) := by
  have ho := State.Opens.refl (.dataFrame data) s
  have hn (i : SlotId) : ∀ k, namedSlot (.dataFrame data) = some k → k = i := fun k h => by cases h
  cases hp : s.port with
  | none => exact .moves (hn 0) ho (by rw [State.takeFrame, hp])
  | some c =>
    by_cases hlast : c.frames.length + 1 = c.count.toNat
    · rw [State.takeFrame_last s data c hp hlast]
      exact State.follows_deliver (ho.withPort rfl _) (hn _) fun _ _ _ _ => .inl ⟨data, rfl⟩
    · rw [State.takeFrame_more s data c hp hlast]
      exact .moves (hn 0) (ho.withPort rfl _) .refl

/-- Moves of the slot that a command names. -/
theorem State.follows_moves (hn : ∀ k, namedSlot c = some k → k = i) (hm : State.Moves i s t) : State.Follows c s t :=
  .moves hn (.refl c s) hm

theorem State.follows_writeCommand {u : Tag} {code a b : Word} (hf : fromHost c = true)
    (hn : ∀ k, namedSlot c = some k → k = i) : State.Follows c s (s.writeCommand i u code a b) :=
  State.follows_windowWrite hf hn (by decide) (fun h => absurd h (by decide))

end Follows

/-- What any command does (the one inversion of `exec`). -/
theorem exec_follows {c : Instr} {s t : State} (h : exec c s = .next t) : State.Follows c s t := by
  have named {i k : SlotId} (h : some i = some k) : k = i := (Option.some.inj h).symm
  cases c with
  | read i u addr count o => cases h; exact State.follows_arrive rfl (fun _ => named) (by simp [bareRecord])
  | write i u addr count => cases h; exact State.follows_openPort
  | dataOmittedWrite i u addr count => cases h; exact State.follows_arrive rfl (fun _ => named) (by simp [bareRecord])
  | flush i u addr count o => cases h; exact State.follows_arrive rfl (fun _ => named) (by simp [bareRecord])
  | identify i u addr count o => cases h; exact State.follows_arrive rfl (fun _ => named) (by simp [bareRecord])
  | other i u addr count o p => cases h; exact State.follows_arrive rfl (fun _ => named) (by simp [bareRecord])
  | dataFrame data => cases h; exact State.follows_takeFrame data
  | arm i u a b => cases h; exact State.follows_writeCommand rfl fun _ => named
  | hold i u a b => cases h; exact State.follows_writeCommand rfl fun _ => named
  | resume i u a b => cases h; exact State.follows_writeCommand rfl fun _ => named
  | abort i u a b => cases h; exact State.follows_writeCommand rfl fun _ => named
  | soak i u a b => cases h; exact State.follows_writeCommand rfl fun _ => named
  | adopt i u a b => cases h; exact State.follows_writeCommand rfl fun _ => named
  | close i u a b => cases h; exact State.follows_writeCommand rfl fun _ => named
  | ship i u a b => cases h; exact State.follows_writeCommand rfl fun _ => named
  | release i u a b => cases h; exact State.follows_writeCommand rfl fun _ => named
  | resetSlot i u a b => cases h; exact State.follows_writeCommand rfl fun _ => named
  | clearEvents i u a b => cases h; exact State.follows_writeCommand rfl fun _ => named
  | setMask i u a b => cases h; exact State.follows_writeCommand rfl fun _ => named
  | unknownCommand i u code a b => cases h; exact State.follows_writeCommand rfl fun _ => named
  | pendingRecipeWrite i u data =>
    cases h
    exact State.follows_windowWrite rfl (fun _ => named) (by decide) fun h => absurd h (by decide)
  | shelfBlockWrite i u data =>
    cases h
    exact State.follows_windowWrite rfl (fun _ => named) (by decide) fun _ _ => ⟨i, u, data, rfl⟩
  | readOnlyBlockWrite i u offset data =>
    cases h
    refine State.follows_windowWrite rfl (fun _ => named) offset.isLt fun h hwf => ?_
    have ho : offset = 32 := Fin.ext h
    simp [Instr.wellFormed, writableOffset, ho] at hwf
  | gradeRecordRead i u => cases h; exact State.follows_arrive rfl (fun _ => named) (by simp [gradeReadRecord])
  | issue i d => cases h; exact State.follows_moves (fun _ => named) (s.moves_issueSlot i d)
  | driveCompletion i d status data ident =>
    cases h; exact State.follows_moves (fun _ => named) (s.moves_driveCompletion i d status data ident)
  | engineGrant => cases h; exact .grant rfl rfl
  | engineBurstDone =>
    cases h
    obtain ⟨i, hi⟩ := s.moves_burstDone
    exact State.follows_moves (fun _ hk => nomatch hk) hi
  | deadlineExpiry i d => cases h; exact State.follows_moves (fun _ => named) (s.moves_deadlineExpiry i d)
  | linkUp i => cases h; exact State.follows_moves (fun _ => named) (s.moves_linkUp i)
  | linkLost i => cases h; exact State.follows_moves (fun _ => named) (s.moves_linkLost i)
  | linkUpDeadlineExpiry i => cases h; exact State.follows_moves (fun _ => named) (s.moves_linkUpExpiry i)
  | attachLinkDeadlineExpiry i => cases h; exact State.follows_moves (fun _ => named) (s.moves_attachExpiry i)
  | carrierInserted i => cases h; exact State.follows_moves (fun _ => named) (s.moves_insertCarrier i)
  | carrierRemoved i =>
    cases h
    split
    · rename_i hl
      exact .remove rfl hl rfl
    · exact State.follows_moves (fun _ => named) .refl
  | latchClosed i => cases h; exact State.follows_moves (fun _ => named) (s.moves_closeLatch i)
  | latchOpened i => cases h; exact State.follows_moves (fun _ => named) (s.moves_openLatch i)
  | spinUpGraceEnd i => cases h; exact State.follows_moves (fun _ => named) (s.moves_graceEnd i)
  | sampleEvent i current temp =>
    cases h; exact State.follows_moves (fun _ => named) (s.moves_sampleSlot i current temp)
  | drainEnd i => cases h; exact State.follows_moves (fun _ => named) State.Move.drain.one
  | computationStart => cases h; exact State.follows_moves (i := 0) (fun _ hk => nomatch hk) State.Move.start.one
  | computationComplete =>
    cases h
    obtain ⟨i, hi⟩ := s.moves_completeComputation
    exact State.follows_moves (fun _ hk => nomatch hk) hi
  | releaseCompletion i => cases h; exact State.follows_moves (fun _ => named) State.moves_testRelease
  | shelfReset lines memory => cases h; exact .reset rfl rfl
  | unknownKindRecord i u kind addr count o =>
    cases h; exact State.follows_arrive rfl (fun _ => named) (by simp [bareRecord])

end Sys2Proof.Machine


/-! PROOFS. What no command touches (R20, R84, R86, R173, R180, R183): the shared records through every move, and the slots
that a command does not name. -/

namespace Sys2Proof.Machine

open Relation

/-! ## The start of a computation -/

/-- The start of the next computation: nothing, or the head of the list of an idle unit. -/
theorem State.startNext_cases (s : State) :
    s.startNext = s ∨ ∃ i rest, s.grader = { queue := i :: rest, current := none } ∧
      s.startNext =
        ({ s with grader := { queue := rest, current := some (s.computationOf i) } } : State).setSlot i
          (s.slot i).computing := by
  by_cases h : s.grader.current.isSome = true ∨ s.grader.queue = []
  · exact .inl (s.startNext_id h)
  · obtain ⟨hc, hq⟩ := not_or.mp h
    obtain ⟨i, rest, hq⟩ := List.exists_cons_of_ne_nil hq
    have hg : s.grader = { queue := i :: rest, current := none } := by
      cases hgr : s.grader
      simp_all
    exact .inr ⟨i, rest, hg, s.startNext_starts i rest hg⟩

/-- The end of the drain: nothing, or the request at the tail of the list and the next computation. -/
theorem State.testDrain_cases (s : State) (i : SlotId) :
    s.testDrain i = s ∨ ((s.slot i).closing.step = .draining ∧ (s.slot i).drained = true ∧
      s.testDrain i =
        State.startNext (({ s with grader := { s.grader with queue := s.grader.queue ++ [i] } } : State).setSlot i
          ((s.slot i).setStep .queued))) := by
  unfold State.testDrain
  split
  · rename_i h
    exact .inr ⟨h.1, h.2, rfl⟩
  · exact .inl rfl

/-- The part with the grading unit idle. -/
def State.unitIdle (s : State) : State := { s with grader := { s.grader with current := none } }

/-- The end of a computation: the slot takes its record, and the unit starts the next one (R155). -/
theorem State.completeComputation_of {s : State} {c : Computation} (h : s.grader.current = some c) :
    s.completeComputation =
      (s.unitIdle.commit c.slot ((Act.start (s.slot c.slot)).graded c.slot c.record)).startNext := by
  unfold State.completeComputation
  rw [h]
  rfl

theorem State.abandon_cases (s : State) (i : SlotId) :
    (∀ c, s.grader.current = some c → c.slot ≠ i) ∧ s.abandon i = s ∨
      (∃ c, s.grader.current = some c ∧ c.slot = i) ∧ s.abandon i = s.unitIdle.startNext := by
  unfold State.abandon
  cases h : s.grader.current with
  | none => exact .inl ⟨nofun, rfl⟩
  | some c =>
    by_cases hc : c.slot = i
    · exact .inr ⟨⟨c, rfl, hc⟩, if_pos hc⟩
    · exact .inl ⟨fun d hd => by cases hd; exact hc, if_neg hc⟩

/-- A trip after its first step: the entry to FAULTED, or only the new cause (R141). -/
def State.tripFault (i : SlotId) (s : State) : State :=
  if (s.slot i).sup.phase = .faulted then s.modSlot i fun sl => sl.modSup fun u => { u with cause := some .trip }
  else s.faultSlot i .trip

theorem State.trip_eq (s : State) (i : SlotId) :
    s.trip i = ((s.modSlot i Slot.tripPower).tripFault i).modSlot i (Slot.raise .trip) := rfl

/-- A removal up to the computation that it abandons (R133). -/
def State.emptySlot (i : SlotId) (s : State) : State :=
  ((s.setSlot i ((s.slot i).emptied { carrier := false, latch := (s.slot i).sup.latch } s.shelf.recipe)).say
    (endAll i .slotDown none (s.slot i).traffic.cmds)).withdraw i

theorem State.removeCarrier_eq (s : State) (i : SlotId) : s.removeCarrier i = (s.emptySlot i).abandon i := rfl

/-! ## The shared records -/

/-- The records that the slots share go on: only the clock moves, and forward, and the history grows. -/
structure State.Keeps (s t : State) : Prop where
  pending    : t.pending = s.pending
  port       : t.port = s.port
  engineLast : t.engineLast = s.engineLast
  shelf      : t.shelf = { s.shelf with clock := t.shelf.clock }
  clock      : s.shelf.clock ≤ Config.max48 → s.shelf.clock ≤ t.shelf.clock ∧ t.shelf.clock ≤ Config.max48
  upstream   : ∃ out, t.upstream = s.upstream ++ out

/-- What leaves the shared records alone, or only sends, keeps them. -/
theorem State.Keeps.of_eq {s t : State} (hp : t.pending = s.pending) (ho : t.port = s.port)
    (he : t.engineLast = s.engineLast) (hs : t.shelf = s.shelf) (out : List Upstream)
    (hu : t.upstream = s.upstream ++ out) : s.Keeps t :=
  ⟨hp, ho, he, by rw [hs], fun h => by rw [hs]; exact ⟨le_rfl, h⟩, ⟨out, hu⟩⟩

theorem State.Keeps.trans {s t u : State} (h : s.Keeps t) (g : t.Keeps u) : s.Keeps u := by
  obtain ⟨a, ha⟩ := h.upstream
  obtain ⟨b, hb⟩ := g.upstream
  refine ⟨g.pending.trans h.pending, g.port.trans h.port, g.engineLast.trans h.engineLast, ?_, fun hc => ?_,
    ⟨a ++ b, by rw [hb, ha, List.append_assoc]⟩⟩
  · rw [g.shelf, h.shelf]
  · obtain ⟨h1, h2⟩ := h.clock hc
    obtain ⟨g1, g2⟩ := g.clock h2
    exact ⟨h1.trans g1, g2⟩

theorem State.Keeps.refl (s : State) : s.Keeps s := .of_eq rfl rfl rfl rfl [] (by simp)

section Keeps

variable {s t : State} {i : SlotId}

theorem State.keeps_setSlot (sl : Slot) : s.Keeps (s.setSlot i sl) := .of_eq rfl rfl rfl rfl [] (by simp)

theorem State.keeps_modSlot (f : Slot → Slot) : s.Keeps (s.modSlot i f) := State.keeps_setSlot _

theorem State.keeps_say (out : List Upstream) : s.Keeps (s.say out) := .of_eq rfl rfl rfl rfl out rfl

theorem State.keeps_commit (x : Act) : s.Keeps (s.commit i x) := (State.keeps_setSlot _).trans (State.keeps_say _)

theorem State.keeps_grader (g : Grader) : s.Keeps { s with grader := g } := .of_eq rfl rfl rfl rfl [] (by simp)

theorem State.keeps_advanceTo (due : Option Nat) : s.Keeps (s.advanceTo due) := by
  cases due with
  | none => exact .refl s
  | some n =>
    refine ⟨rfl, rfl, rfl, rfl, fun h => ?_, ⟨[], by simp⟩⟩
    simp only [State.advanceTo, Option.map_some, Option.getD_some, State.advance]
    omega

theorem State.keeps_startNext : s.Keeps s.startNext := by
  obtain h | ⟨i, rest, -, h⟩ := s.startNext_cases
  · rw [h]; exact .refl s
  · rw [h]; exact (State.keeps_grader _).trans (State.keeps_setSlot _)

theorem State.keeps_testDrain : s.Keeps (s.testDrain i) := by
  obtain h | ⟨-, -, h⟩ := s.testDrain_cases i
  · rw [h]; exact .refl s
  · rw [h]; exact ((State.keeps_grader _).trans (State.keeps_setSlot _)).trans State.keeps_startNext

theorem State.keeps_testRelease : s.Keeps (s.testRelease i) := by
  unfold State.testRelease
  split
  · exact State.keeps_modSlot _
  · exact .refl s

theorem State.keeps_faultSlot (cause : FaultCause) : s.Keeps (s.faultSlot i cause) :=
  ((State.keeps_commit _).trans (State.keeps_grader _)).trans State.keeps_testRelease

theorem State.keeps_trip : s.Keeps (s.trip i) := by
  have hf : (s.modSlot i Slot.tripPower).Keeps ((s.modSlot i Slot.tripPower).tripFault i) := by
    unfold State.tripFault
    split
    · exact State.keeps_modSlot _
    · exact State.keeps_faultSlot _
  rw [State.trip_eq]
  exact ((State.keeps_modSlot _).trans hf).trans (State.keeps_modSlot _)

theorem State.keeps_completeComputation : s.Keeps s.completeComputation := by
  cases h : s.grader.current with
  | none => rw [State.completeComputation, h]; exact .refl s
  | some c =>
    rw [State.completeComputation_of h]
    exact ((State.keeps_grader _).trans (State.keeps_commit _)).trans State.keeps_startNext

theorem State.keeps_abandon : s.Keeps (s.abandon i) := by
  obtain ⟨-, h⟩ | ⟨-, h⟩ := s.abandon_cases i
  · rw [h]; exact .refl s
  · rw [h]; exact (State.keeps_grader _).trans State.keeps_startNext

theorem State.keeps_removeCarrier : s.Keeps (s.removeCarrier i) :=
  (((State.keeps_setSlot _).trans (State.keeps_say _)).trans (State.keeps_grader _)).trans State.keeps_abandon

theorem State.Move.keeps (h : State.Move i s t) : s.Keeps t := by
  cases h with
  | op out _ => exact (State.keeps_setSlot _).trans (State.keeps_say _)
  | advance due => exact State.keeps_advanceTo due
  | drain => exact State.keeps_testDrain
  | start => exact State.keeps_startNext
  | fault _ _ => exact State.keeps_faultSlot _
  | trip _ => exact State.keeps_trip
  | complete _ _ => exact State.keeps_completeComputation

theorem State.Moves.keeps (h : State.Moves i s t) : s.Keeps t := by
  induction h with
  | refl => exact .refl s
  | tail _ hm ih => exact ih.trans hm.keeps

end Keeps

theorem State.grant_cases (s : State) :
    s.grant = s ∨ ∃ i, s.engineIdle = true ∧ s.winner = some i ∧
      s.grant = { s.modSlot i (Slot.modJobs grantOldest) with engineLast := i } := by
  unfold State.grant
  split
  · rename_i hi
    cases hw : s.winner with
    | none => exact .inl rfl
    | some i => exact .inr ⟨i, hi, rfl, rfl⟩
  · exact .inl rfl

/-- Settles O4: the moves of a command, its grant and a removal keep the shared records. -/
theorem sharedRecordsHaveFewWriters : Obligations.SharedRecordsHaveFewWriters := by
  intro c s t h reset frame shelfWrite
  cases exec_follows h with
  | moves _ ho hm =>
    obtain ⟨a, ha⟩ := ho.upstream
    obtain ⟨b, hb⟩ := hm.keeps.upstream
    refine ⟨⟨a ++ b, by rw [hb, ha, List.append_assoc]⟩, fun hwf _ hf hw => ?_, fun _ hc => ?_, fun _ _ => ?_,
      fun hn _ => ?_⟩
    · rw [hm.keeps.shelf, ho.shelf hwf hf hw]
    · rw [← ho.clock] at hc ⊢
      exact hm.keeps.clock hc
    · exact hm.keeps.engineLast.trans ho.engineLast
    · exact hm.keeps.port.trans (ho.port hn)
  | grant hc ht =>
    subst ht
    have same : s.grant.upstream = s.upstream ∧ s.grant.shelf = s.shelf ∧ s.grant.port = s.port := by
      obtain hg | ⟨i, -, -, hg⟩ := s.grant_cases
      · rw [hg]; exact ⟨rfl, rfl, rfl⟩
      · rw [hg]; exact ⟨rfl, rfl, rfl⟩
    obtain ⟨hu, hs, hp⟩ := same
    refine ⟨⟨[], by simp [hu]⟩, fun _ _ _ _ => by rw [hs], fun _ hcl => ?_, fun _ hne => absurd hc hne, fun _ _ => hp⟩
    rw [hs]
    exact ⟨le_rfl, hcl⟩
  | @remove i _ _ ht =>
    subst ht
    have hk := State.keeps_removeCarrier (s := s) (i := i)
    exact ⟨hk.upstream, fun _ _ _ _ => hk.shelf, fun _ => hk.clock, fun _ _ => hk.engineLast, fun _ _ => hk.port⟩
  | @reset lines memory hc ht =>
    subst ht
    have hr : reset := ⟨lines, memory, hc⟩
    exact ⟨⟨[], by simp [State.shelfReset]⟩, fun _ hn => absurd hr hn, fun hn => absurd hr hn, fun hn => absurd hr hn,
      fun _ hn => absurd hr hn⟩

/-! ## The other slots -/

/-- Beside slot `i` nothing changes but that a slot of the grading unit's list may start its computation. -/
structure State.Beside (i : SlotId) (s t : State) : Prop where
  slots : ∀ j ≠ i, t.slot j = s.slot j ∨ j ∈ s.grader.queue ∧ t.slot j = (s.slot j).computing
  queue : ∀ j ≠ i, j ∈ t.grader.queue → j ∈ s.grader.queue

section Beside

variable {s t u : State} {i : SlotId}

theorem Slot.computing_computing (sl : Slot) : sl.computing.computing = sl.computing := rfl

theorem State.Beside.refl (i : SlotId) (s : State) : s.Beside i s := ⟨fun _ _ => .inl rfl, fun _ _ => id⟩

theorem State.Beside.trans (h : s.Beside i t) (g : t.Beside i u) : s.Beside i u := by
  refine ⟨fun j hj => ?_, fun j hj hq => h.queue j hj (g.queue j hj hq)⟩
  obtain h1 | ⟨h1, h2⟩ := h.slots j hj
  · obtain g1 | ⟨g1, g2⟩ := g.slots j hj
    · exact .inl (g1.trans h1)
    · exact .inr ⟨h.queue j hj g1, by rw [g2, h1]⟩
  · refine .inr ⟨h1, ?_⟩
    obtain g1 | ⟨-, g2⟩ := g.slots j hj
    · exact g1.trans h2
    · rw [g2, h2, Slot.computing_computing]

/-- A change of slot `i` and of what no other slot's place in the list depends on. -/
theorem State.Beside.of_eq (hs : ∀ j ≠ i, t.slot j = s.slot j) (hq : ∀ j ≠ i, j ∈ t.grader.queue → j ∈ s.grader.queue) :
    s.Beside i t := ⟨fun j hj => .inl (hs j hj), hq⟩

theorem State.beside_setSlot (sl : Slot) : s.Beside i (s.setSlot i sl) :=
  .of_eq (fun _ hj => s.slot_setSlot_ne sl hj) fun _ _ => id

theorem State.beside_modSlot (f : Slot → Slot) : s.Beside i (s.modSlot i f) := State.beside_setSlot _

theorem State.beside_say (out : List Upstream) : s.Beside i (s.say out) := .of_eq (fun _ _ => rfl) fun _ _ => id

theorem State.beside_commit (x : Act) : s.Beside i (s.commit i x) := (State.beside_setSlot _).trans (State.beside_say _)

theorem State.beside_grader {g : Grader} (h : ∀ j ≠ i, j ∈ g.queue → j ∈ s.grader.queue) :
    s.Beside i { s with grader := g } := .of_eq (fun _ _ => rfl) h

theorem State.beside_unitIdle : s.Beside i s.unitIdle := State.beside_grader fun _ _ => id

theorem State.beside_startNext : s.Beside i s.startNext := by
  obtain h | ⟨k, rest, hg, h⟩ := s.startNext_cases
  · rw [h]; exact .refl i s
  · rw [h]
    refine ⟨fun j _ => ?_, fun j _ hj => by rw [hg]; exact List.mem_cons_of_mem _ hj⟩
    rw [State.slot_setSlot_eq]
    split
    · rename_i hj
      subst hj
      exact .inr ⟨by simp [hg], rfl⟩
    · exact .inl rfl

theorem State.beside_testDrain : s.Beside i (s.testDrain i) := by
  obtain h | ⟨-, -, h⟩ := s.testDrain_cases i
  · rw [h]; exact .refl i s
  · rw [h]
    refine (State.Beside.trans ?_ (State.beside_setSlot _)).trans State.beside_startNext
    exact State.beside_grader fun j hj hm => by simpa [hj] using hm

theorem State.beside_testRelease : s.Beside i (s.testRelease i) := by
  unfold State.testRelease
  split
  · exact State.beside_modSlot _
  · exact .refl i s

theorem State.beside_withdraw : s.Beside i (s.withdraw i) :=
  State.beside_grader fun _ _ hm => (List.mem_filter.mp hm).1

theorem State.beside_faultSlot (cause : FaultCause) : s.Beside i (s.faultSlot i cause) :=
  ((State.beside_commit _).trans State.beside_withdraw).trans State.beside_testRelease

theorem State.beside_trip : s.Beside i (s.trip i) := by
  have hf : (s.modSlot i Slot.tripPower).Beside i ((s.modSlot i Slot.tripPower).tripFault i) := by
    unfold State.tripFault
    split
    · exact State.beside_modSlot _
    · exact State.beside_faultSlot _
  rw [State.trip_eq]
  exact ((State.beside_modSlot _).trans hf).trans (State.beside_modSlot _)

theorem State.beside_abandon : s.Beside i (s.abandon i) := by
  obtain ⟨-, h⟩ | ⟨-, h⟩ := s.abandon_cases i
  · rw [h]; exact .refl i s
  · rw [h]; exact State.beside_unitIdle.trans State.beside_startNext

theorem State.beside_removeCarrier : s.Beside i (s.removeCarrier i) :=
  (((State.beside_setSlot _).trans (State.beside_say _)).trans State.beside_withdraw).trans State.beside_abandon

theorem State.Move.beside (h : State.Move i s t) : s.Beside i t := by
  cases h with
  | op out _ => exact (State.beside_setSlot _).trans (State.beside_say _)
  | advance due => exact .of_eq (fun _ _ => State.advanceTo_slot _ _ _) (by simp)
  | drain => exact State.beside_testDrain
  | start => exact State.beside_startNext
  | fault _ _ => exact State.beside_faultSlot _
  | trip _ => exact State.beside_trip
  | complete hc hi =>
    subst hi
    rw [State.completeComputation_of hc]
    exact (State.beside_unitIdle.trans (State.beside_commit _)).trans State.beside_startNext

theorem State.Moves.beside (h : State.Moves i s t) : s.Beside i t := by
  induction h with
  | refl => exact .refl i s
  | tail _ hm ih => exact ih.trans hm.beside

end Beside

/-- What leaves the slots alone leaves each slot alone. -/
theorem State.slot_congr {s t : State} (h : t.slots = s.slots) (i : SlotId) : t.slot i = s.slot i := by
  simp only [State.slot, h]

/-- Settles O3: every move of a command is a move of the slot it names, and beside that slot only the grading unit
starts what waits in its list. -/
theorem queueAndOtherSlotsAreUntouched : Obligations.QueueAndOtherSlotsAreUntouched := by
  intro c s t h
  cases exec_follows h with
  | @moves k s0 hn ho hm =>
    refine ⟨hm.keeps.pending.trans ho.pending, fun i j hi hj => ?_⟩
    have hb := hm.beside.slots j (hn i hi ▸ hj)
    rwa [State.slot_congr ho.slots, ho.grader] at hb
  | grant hc ht =>
    subst hc ht
    refine ⟨?_, fun i j hi => nomatch hi⟩
    obtain hg | ⟨i, -, -, hg⟩ := s.grant_cases
    · rw [hg]
    · rw [hg]; rfl
  | @remove k hc _ ht =>
    subst hc ht
    refine ⟨State.keeps_removeCarrier.pending, fun i j hi hj => ?_⟩
    cases hi
    exact State.beside_removeCarrier.slots j hj
  | reset hc ht =>
    subst hc ht
    exact ⟨rfl, fun i j hi => nomatch hi⟩

end Sys2Proof.Machine


/-! PROOFS. What a step does to one slot: one change after the other (`Slot.Change`). What every change keeps, every step
keeps. First the event masks (R177, R178). -/

namespace Sys2Proof.Machine

open Relation

/-- One change of a slot within a step: an operation of its own event, the start of its computation, a grant of the
engine, its carrier's removal or the shelf reset. -/
inductive Slot.Change : Slot → Slot → Prop
  | op {a b : Slot} (h : a.Op b) : Slot.Change a b
  | grade {a b : Slot} (h : a.GradeOp b) : Slot.Change a b
  | computing {sl : Slot} : Slot.Change sl sl.computing
  | granted {sl : Slot} : Slot.Change sl (sl.modJobs grantOldest)
  | emptied {sl : Slot} (lines : Lines) (default : Recipe) : Slot.Change sl (sl.emptied lines default)
  | reset {sl : Slot} (default : Recipe) (lines : Lines) : Slot.Change sl (sl.shelfReset default lines)

section Change

variable {s t : State} {i : SlotId}

/-- What one change of slot `i` and no change of the others makes of a slot. -/
theorem State.setSlot_changes {sl : Slot} (h : (s.slot i).Change sl) (j : SlotId) :
    ReflTransGen Slot.Change (s.slot j) ((s.setSlot i sl).slot j) := by
  rw [State.slot_setSlot_eq]
  split
  · rename_i hj
    subst hj
    exact .single h
  · exact .refl

theorem State.startNext_changes (s : State) (j : SlotId) : ReflTransGen Slot.Change (s.slot j) (s.startNext.slot j) := by
  obtain h | ⟨i, rest, -, h⟩ := s.startNext_cases
  · rw [h]
  · rw [h]
    exact State.setSlot_changes (s := { s with grader := { queue := rest, current := some (s.computationOf i) } })
      .computing j

theorem State.faultSlot_slot (s : State) (i : SlotId) (cause : FaultCause) :
    (s.faultSlot i cause).slot i = (s.slot i).faulted i s.now s.shelf.bins cause := by
  have hq : ((Act.start (s.slot i)).fault i s.now cause).sl.quiet = true := by simp [Slot.quiet]
  have hs : ((s.commit i ((Act.start (s.slot i)).fault i s.now cause)).withdraw i).slot i =
      ((Act.start (s.slot i)).fault i s.now cause).sl := State.commit_slot _ _ _
  unfold State.faultSlot State.testRelease Slot.faulted
  dsimp only
  rw [hs, hq, apply_ite (fun s : State => s.slot i), State.slot_modSlot, hs]
  simp only [and_true]
  rfl

theorem State.trip_slot (s : State) (i : SlotId) : (s.trip i).slot i = (s.slot i).tripped i s.now s.shelf.bins := by
  have hp : (s.slot i).tripPower.sup.phase = (s.slot i).sup.phase := rfl
  rw [State.trip_eq, State.slot_modSlot, State.tripFault, Slot.tripped, State.slot_modSlot, hp]
  split
  · rw [State.slot_modSlot, State.slot_modSlot]
  · rw [State.faultSlot_slot, State.slot_modSlot]
    rfl

/-- Beside slot `i` a move only starts computations. -/
theorem State.Beside.changes (h : s.Beside i t) {j : SlotId} (hj : j ≠ i) :
    ReflTransGen Slot.Change (s.slot j) (t.slot j) := by
  obtain h | ⟨-, h⟩ := h.slots j hj
  · rw [h]
  · rw [h]; exact .single .computing

/-- What a move makes of a slot: at most one operation, then at most the start of its computation. -/
theorem State.Move.slot_cases (h : State.Move i s t) (j : SlotId) :
    ∃ m, (m = s.slot j ∨ (s.slot j).Op m ∨ (s.slot j).GradeOp m) ∧ (t.slot j = m ∨ t.slot j = m.computing) := by
  by_cases hj : j = i
  · subst hj
    have start (u : State) : u.startNext.slot j = u.slot j ∨ u.startNext.slot j = (u.slot j).computing := by
      obtain h | ⟨i, rest, -, h⟩ := u.startNext_cases
      · exact .inl (by rw [h])
      · rw [h, State.slot_setSlot_eq]
        split
        · rename_i hij
          subst hij
          exact .inr rfl
        · exact .inl rfl
    cases h with
    | @op sl out h => exact ⟨sl, .inr (.inl h), .inl (by simp)⟩
    | advance due => exact ⟨_, .inl rfl, .inl (by simp)⟩
    | drain =>
      obtain h | ⟨hs, hd, h⟩ := s.testDrain_cases j
      · exact ⟨_, .inl rfl, .inl (by rw [h])⟩
      · rw [h]
        refine ⟨_, .inr (.inr (.queued hs hd)), ?_⟩
        have := start (State.setSlot { s with grader := { s.grader with queue := s.grader.queue ++ [j] } } j
          ((s.slot j).setStep .queued))
        rwa [State.slot_setSlot] at this
    | start => exact ⟨_, .inl rfl, start s⟩
    | fault hc hp => exact ⟨_, .inr (.inr (.faulted j s.now s.shelf.bins hc hp)), .inl (State.faultSlot_slot s j _)⟩
    | trip hp => exact ⟨_, .inr (.inr (.tripped j s.now s.shelf.bins hp)), .inl (State.trip_slot s j)⟩
    | @complete c hc hi =>
      subst hi
      rw [State.completeComputation_of hc]
      refine ⟨_, .inr (.inr (.graded c.slot c.record)), ?_⟩
      have := start (s.unitIdle.commit c.slot ((Act.start (s.slot c.slot)).graded c.slot c.record))
      rwa [State.commit_slot] at this
  · obtain hs | ⟨-, hs⟩ := h.beside.slots j hj
    · exact ⟨_, .inl rfl, .inl hs⟩
    · exact ⟨_, .inl rfl, .inr hs⟩

theorem State.Move.changes (h : State.Move i s t) (j : SlotId) : ReflTransGen Slot.Change (s.slot j) (t.slot j) := by
  obtain ⟨m, hm, ht⟩ := h.slot_cases j
  have hm' : ReflTransGen Slot.Change (s.slot j) m := by
    obtain rfl | h | h := hm
    · exact .refl
    · exact .single (.op h)
    · exact .single (.grade h)
  obtain ht | ht := ht
  · rw [ht]; exact hm'
  · rw [ht]; exact hm'.tail .computing

theorem State.Moves.changes (h : State.Moves i s t) (j : SlotId) : ReflTransGen Slot.Change (s.slot j) (t.slot j) := by
  induction h with
  | refl => exact .refl
  | tail _ hm ih => exact ih.trans (hm.changes j)

theorem State.removeCarrier_changes (s : State) (i j : SlotId) :
    ReflTransGen Slot.Change (s.slot j) ((s.removeCarrier i).slot j) := by
  by_cases hj : j = i
  · subst hj
    have he : (s.emptySlot j).slot j =
        (s.slot j).emptied { carrier := false, latch := (s.slot j).sup.latch } s.shelf.recipe := State.slot_setSlot _ _ _
    rw [State.removeCarrier_eq]
    obtain ⟨-, h⟩ | ⟨-, h⟩ := (s.emptySlot j).abandon_cases j
    · rw [h, he]; exact .single (.emptied _ _)
    · rw [h]
      refine ReflTransGen.trans ?_ ((s.emptySlot j).unitIdle.startNext_changes j)
      have hi : (s.emptySlot j).unitIdle.slot j = (s.emptySlot j).slot j := rfl
      rw [hi, he]
      exact .single (.emptied _ _)
  · exact State.beside_removeCarrier.changes hj

theorem State.shelfReset_slot (s : State) (lines : List Lines) (memory : Option Block) (j : SlotId) :
    (s.shelfReset lines memory).slot j = (s.slot j).shelfReset (Shelf.loadOption memory).recipe (linesOf lines j) := by
  fin_cases j <;> rfl

theorem State.grant_changes (s : State) (j : SlotId) : ReflTransGen Slot.Change (s.slot j) (s.grant.slot j) := by
  obtain h | ⟨i, -, -, h⟩ := s.grant_cases
  · rw [h]
  · rw [h]; exact State.setSlot_changes .granted j

/-- What a step makes of a slot. -/
theorem step_changes (h : step s = .next t) (j : SlotId) : ReflTransGen Slot.Change (s.slot j) (t.slot j) := by
  unfold step at h
  split at h
  · cases h; exact .refl
  · rename_i c rest _
    have hs : ({ s with pending := rest } : State).slot j = s.slot j := rfl
    rw [← hs]
    cases exec_follows h with
    | moves _ ho hm => rw [← State.slot_congr ho.slots j]; exact hm.changes j
    | grant _ ht => rw [ht]; exact State.grant_changes _ j
    | remove _ _ ht => rw [ht]; exact State.removeCarrier_changes _ _ j
    | reset _ ht => rw [ht, State.shelfReset_slot]; exact .single (.reset _ _)

/-- What every change of a slot keeps, every step keeps of every slot. -/
theorem step_keeps_slots {P : Slot → Prop} (hP : ∀ {a b : Slot}, a.Change b → P a → P b) (h : step s = .next t)
    (hs : ∀ j, P (s.slot j)) (j : SlotId) : P (t.slot j) := by
  have keeps {b : Slot} (hc : ReflTransGen Slot.Change (s.slot j) b) : P b := by
    induction hc with
    | refl => exact hs j
    | tail _ hc ih => exact hP hc ih
  exact keeps (step_changes h j)

end Change

/-! ## The event mask -/

section Mask

variable (sl : Slot) (now : Nat)

@[simp] theorem Slot.raise_mask (f : EventFlag) : (sl.raise f).events.mask = sl.events.mask := rfl

@[simp] theorem Slot.takeRun_mask (r : Run) : (sl.takeRun now r).events.mask = sl.events.mask := by
  obtain ⟨m, hm⟩ := Slot.takeRun_keeps now r sl
  rw [hm]

@[simp] theorem Slot.takeRuns_mask (rs : List Run) : (sl.takeRuns now rs).events.mask = sl.events.mask := by
  induction rs generalizing sl with
  | nil => rfl
  | cons r rs ih => exact (ih _).trans (Slot.takeRun_mask sl now r)

@[simp] theorem Slot.testShipped_mask : sl.testShipped.events.mask = sl.events.mask := by
  unfold Slot.testShipped
  split <;> rfl

@[simp] theorem Slot.completePass_mask : sl.completePass.events.mask = sl.events.mask := by
  unfold Slot.completePass
  split
  case h_3 => exact Slot.testShipped_mask _
  all_goals rfl

@[simp] theorem Slot.testPass_mask : sl.testPass.events.mask = sl.events.mask := by
  unfold Slot.testPass
  split
  · split
    · rfl
    · exact Slot.completePass_mask sl
  · rfl

@[simp] theorem Slot.finish_mask (n : Option Nat) : (sl.finish n).events.mask = sl.events.mask := by
  unfold Slot.finish
  dsimp only
  split
  · exact Slot.testPass_mask _
  · rfl

@[simp] theorem Slot.finishes_mask (cs : List Cmd) :
    (cs.foldl (fun x c => x.finish c.serial) sl).events.mask = sl.events.mask := by
  induction cs generalizing sl with
  | nil => rfl
  | cons c cs ih => exact (ih _).trans (Slot.finish_mask _ _)

@[simp] theorem Slot.moveZones_mask (zs : List Zone) : (sl.moveZones zs).events.mask = sl.events.mask := by
  unfold Slot.moveZones
  dsimp only
  repeat' split
  all_goals rfl

@[simp] theorem Slot.issueCmd_mask (n : BitVec 8) (i : SlotId) (d : DriveTag) (before : List Cmd) (c : Cmd)
    (after : List Cmd) : (sl.issueCmd now n i d before c after).events.mask = sl.events.mask := by
  simp only [Slot.issueCmd, Slot.toDrive]
  repeat' split
  all_goals simp

@[simp] theorem Slot.cancelPosted_mask (c : Cmd) : (Slot.cancelPosted now sl c).events.mask = sl.events.mask := by
  unfold Slot.cancelPosted
  dsimp only
  split
  · rfl
  · simp

@[simp] theorem Slot.cancelAll_mask (cs : List Cmd) :
    (cs.foldl (Slot.cancelPosted now) sl).events.mask = sl.events.mask := by
  induction cs generalizing sl with
  | nil => rfl
  | cons c cs ih => exact (ih _).trans (Slot.cancelPosted_mask _ _ _)

@[simp] theorem Act.linkReset_mask (i : SlotId) (x : Act) :
    (x.linkReset i now).sl.events.mask = x.sl.events.mask := by
  simp [Act.linkReset]

@[simp] theorem Act.expire_mask (i : SlotId) (d : DriveTag) (c : Cmd) (x : Act) :
    (x.expire i now d c).sl.events.mask = x.sl.events.mask := by
  unfold Act.expire
  cases c.tag <;> simp [apply_ite Slot.events, apply_ite Events.mask]

@[simp] theorem Slot.dropPosted_mask : (sl.dropPosted now).events.mask = sl.events.mask := by
  unfold Slot.dropPosted
  rw [Slot.modCmds_events]
  generalize sl.traffic.cmds.filter Cmd.posted = cs
  induction cs generalizing sl with
  | nil => rfl
  | cons c cs ih => rw [List.foldl_cons, ih]; simp

@[simp] theorem Act.fault_mask (i : SlotId) (cause : FaultCause) (x : Act) :
    (x.fault i now cause).sl.events.mask = x.sl.events.mask := by
  simp [Act.fault]

@[simp] theorem Slot.completeRelease_mask (bins : List BinEntry) :
    (sl.completeRelease bins).events.mask = sl.events.mask := rfl

@[simp] theorem Act.completeRead_mask (i : SlotId) (t : Tag) (c : Cmd) (x : Act) :
    (x.completeRead i now t c).sl.events.mask = x.sl.events.mask := by
  simp [Act.completeRead]

@[simp] theorem Slot.completionEffect_mask (c : Cmd) (status : DriveStatus) (ident : Identification) :
    (sl.completionEffect c status ident).events.mask = sl.events.mask := by
  unfold Slot.completionEffect
  repeat' split
  all_goals simp [Slot.identify]

@[simp] theorem Act.completion_mask (i : SlotId) (d : DriveTag) (c : Cmd) (status : DriveStatus) (data : List Block)
    (ident : Identification) (x : Act) :
    (x.completion i now d c status data ident).sl.events.mask = x.sl.events.mask := by
  unfold Act.completion
  cases c.tag with
  | none => cases status <;> simp [Slot.postReturned]
  | some t =>
    dsimp only
    split
    · simp only [Act.readReturned]
      split <;> simp
    · simp [Act.cmdReturned]

@[simp] theorem Slot.thermalHold_mask : sl.thermalHold.events.mask = sl.events.mask := by
  unfold Slot.thermalHold
  repeat' split
  all_goals rfl

@[simp] theorem Slot.soakSample_mask : sl.soakSample.events.mask = sl.events.mask := by
  unfold Slot.soakSample
  dsimp only
  repeat' split
  all_goals rfl

end Mask

/-- The mask bits of TRIP and FAULT are 1 on the slot (R178). -/
def Slot.MaskOn (sl : Slot) : Prop := sl.events.mask &&& alwaysOn = alwaysOn

/-- A mask as it is stored has TRIP and FAULT at 1 (R177). -/
theorem storedMask_on (m : BitVec 16) : storedMask m &&& alwaysOn = alwaysOn := by
  unfold storedMask
  rw [BitVec.and_comm, BitVec.and_or_distrib_left]
  apply BitVec.eq_of_getLsbD_eq
  intro n hn
  simp
  tauto

theorem Slot.MaskOn.of_eq {a b : Slot} (h : a.MaskOn) (hm : b.events.mask = a.events.mask) : b.MaskOn := by
  rw [Slot.MaskOn, hm]
  exact h

theorem Slot.Op.maskOn {a b : Slot} (h : a.Op b) (ha : a.MaskOn) : b.MaskOn := by
  cases h with
  | touch h =>
    obtain hm | ⟨m, hm⟩ := h.mask
    · exact ha.of_eq hm
    · rw [Slot.MaskOn, hm]; exact storedMask_on m
  | accept i hk hc h => exact ha.of_eq (by unfold Act.accept; split <;> simp)
  | holdRead _ _ => exact ha
  | adopt _ => exact ha.of_eq (by simp)
  | startPass write endless _ _ _ => exact ha.of_eq (by cases write <;> rfl)
  | hold _ => exact ha
  | resume _ => exact ha.of_eq (by simp [Slot.setPhase])
  | abort _ => exact ha
  | endSoak _ => exact ha
  | abortShip _ => exact ha.of_eq (by simp [Slot.setPhase])
  | soak a _ => exact ha
  | close _ _ => exact ha
  | ship _ _ => exact ha.of_eq (by simp [Slot.setPhase, Slot.armShip, Slot.armZones])
  | release bins _ => exact ha.of_eq (by unfold Slot.release; dsimp only; split <;> simp)
  | completeRelease bins _ _ => exact ha
  | resetSlot i t now default _ _ => exact storedMask_on _
  | issue now number i _ _ _ _ _ => exact ha.of_eq (by simp)
  | guardFail i now _ _ => exact ha.of_eq (by unfold Act.guardFail; split <;> simp)
  | complete i now status data ident _ => exact ha.of_eq (by simp)
  | generated d g => exact ha
  | checked i now t j => exact ha.of_eq (by unfold Act.checkBurst; repeat' split; all_goals simp)
  | expire i now _ => exact ha.of_eq (by simp)
  | loseLink i now _ _ => exact ha.of_eq (by simp)
  | dropLink _ _ => exact ha
  | resetDone _ _ => exact ha
  | requeue => exact ha
  | cameUp _ _ => exact ha
  | attach now default _ _ _ => exact ha.of_eq (by simp [Slot.attach, Slot.clearRecords])
  | afterSample => exact ha.of_eq (by unfold Slot.afterSample; split <;> simp)

theorem Slot.faulted_mask (i : SlotId) (now : Nat) (bins : List BinEntry) (cause : FaultCause) (sl : Slot) :
    (sl.faulted i now bins cause).events.mask = sl.events.mask := by
  unfold Slot.faulted
  dsimp only
  split <;> simp

theorem Slot.GradeOp.maskOn {a b : Slot} (h : a.GradeOp b) (ha : a.MaskOn) : b.MaskOn := by
  cases h with
  | queued _ _ => exact ha
  | faulted i now bins _ _ => exact ha.of_eq (Slot.faulted_mask _ _ _ _ _)
  | tripped i now bins _ =>
    refine ha.of_eq ?_
    unfold Slot.tripped
    split
    · rfl
    · exact Slot.faulted_mask _ _ _ _ _
  | graded i g => exact ha

theorem Slot.Change.maskOn {a b : Slot} (h : a.Change b) (ha : a.MaskOn) : b.MaskOn := by
  cases h with
  | op h => exact h.maskOn ha
  | grade h => exact h.maskOn ha
  | computing => exact ha
  | granted => exact ha
  | emptied lines default => exact storedMask_on _
  | reset default lines =>
    unfold Slot.shelfReset
    dsimp only
    split
    · exact Slot.MaskOn.of_eq (a := a.emptied lines default) (storedMask_on default.mask)
        (by simp [Slot.attach, Slot.clearRecords])
    · exact storedMask_on _

/-- Settles O53: every change of a slot keeps the two bits, or stores a mask with them. -/
theorem masksStayOn : Obligations.MasksStayOn := by
  intro s t hs h
  exact step_keeps_slots Slot.Change.maskOn h hs

end Sys2Proof.Machine


/-! PROOFS. The defect table (chapter 4): the gap parts of a run, the record of one gap part, and the table after a run,
which stays in order, disjoint and within its room. -/

namespace Sys2Proof.Machine

/-! ## Extents that keep their place -/

/-- What leaves every extent where it is leaves a table in order. -/
theorem orderedExtents_map {f : Extent → Extent} (hs : ∀ e, (f e).start = e.start) (hl : ∀ e, (f e).length = e.length)
    (es : List Extent) : orderedExtents (es.map f) ↔ orderedExtents es := by
  induction es with
  | nil => rfl
  | cons e es ih => simp [orderedExtents, ih, Extent.stop, hs, hl]

@[simp] theorem Extent.hit_start (r : Run) (serial t : Nat) (e : Extent) : (e.hit r serial t).start = e.start := rfl
@[simp] theorem Extent.hit_length (r : Run) (serial t : Nat) (e : Extent) : (e.hit r serial t).length = e.length := rfl

/-- A kind whose extents are CONFIRMED from their start (R71). -/
def FailKind.severe (k : FailKind) : Prop := k = .media ∨ k = .misplaced ∨ k = .writeFail

theorem Run.immediate_of_severe {r : Run} (h : r.kind.severe) : r.immediate = true := by
  obtain h | h | h := h
  all_goals simp [Run.immediate, h]

theorem FailKind.worse_cases (k l : FailKind) : k.worse l = k ∨ k.worse l = l := by
  unfold FailKind.worse
  split
  · exact .inr rfl
  · exact .inl rfl

/-- A hit keeps a severe extent CONFIRMED, and makes it so when the run is the severe one. -/
theorem Extent.hit_confirmed {r : Run} {serial t : Nat} {e : Extent} (he : e.kind.severe → e.status = .confirmed)
    (h : (e.hit r serial t).kind.severe) : (e.hit r serial t).status = .confirmed := by
  have hor : e.status = .confirmed ∨ r.immediate = true := by
    obtain hw | hw := e.kind.worse_cases r.kind
    · exact .inl (he (hw ▸ h))
    · exact .inr (Run.immediate_of_severe (hw ▸ h))
  simp only [Extent.hit, Extent.statusAfter]
  obtain hc | hi := hor
  · rw [hc]
  · rw [hi]
    cases e.status <;> simp

theorem hitExtents_wf {r : Run} {serial t : Nat} {es : List Extent} (h : ExtentsWF es) :
    ExtentsWF (hitExtents r serial t es) := by
  refine ⟨?_, by simpa [hitExtents] using h.room, ?_⟩
  · rw [hitExtents, orderedExtents_map]
    · exact h.ordered
    · intro e; split <;> rfl
    · intro e; split <;> rfl
  · intro e he hk
    obtain ⟨d, hd, rfl⟩ := List.mem_map.mp he
    split
    · rename_i hm
      rw [if_pos hm] at hk
      exact Extent.hit_confirmed (h.confirmed d hd) hk
    · rename_i hm
      rw [if_neg hm] at hk
      exact h.confirmed d hd hk

/-! ## Blocks that a table holds -/

/-- The block is recorded in the table. -/
def holdsBlock (es : List Extent) (b : Nat) : Prop := ∃ e ∈ es, e.start ≤ b ∧ b < e.stop

theorem holdsBlock_append (xs ys : List Extent) (b : Nat) :
    holdsBlock (xs ++ ys) b ↔ holdsBlock xs b ∨ holdsBlock ys b := by
  simp [holdsBlock, or_and_right, exists_or]

theorem holdsBlock_cons (x : Extent) (xs : List Extent) (b : Nat) :
    holdsBlock (x :: xs) b ↔ (x.start ≤ b ∧ b < x.stop) ∨ holdsBlock xs b := by
  simp [holdsBlock]

theorem holdsBlock_nil (b : Nat) : ¬holdsBlock [] b := by simp [holdsBlock]

theorem holdsBlock_hitExtents (r : Run) (serial t : Nat) (es : List Extent) (b : Nat) :
    holdsBlock (hitExtents r serial t es) b ↔ holdsBlock es b := by
  have key (e : Extent) : (if e.meets r then e.hit r serial t else e).start = e.start ∧
      (if e.meets r then e.hit r serial t else e).stop = e.stop := by
    split <;> exact ⟨rfl, rfl⟩
  simp [holdsBlock, hitExtents, key]

/-! ## The gap parts of a range -/

/-- Every gap part lies inside the range, and none is empty. -/
theorem gapParts_bounds (lo hi : Nat) (es : List Extent) (h : orderedExtents es) :
    ∀ p ∈ gapParts lo hi es, lo ≤ p.1 ∧ p.1 < p.2 ∧ p.2 ≤ hi := by
  induction es generalizing lo with
  | nil =>
    intro p hp
    simp only [gapParts] at hp
    split at hp
    · simp only [List.mem_singleton] at hp; subst hp; simp_all
    · simp at hp
  | cons e es ih =>
    have hpos := h.1
    intro p hp
    simp only [gapParts] at hp
    split at hp
    · split at hp
      · simp only [List.mem_singleton] at hp; subst hp; simp_all
      · simp at hp
    · split at hp
      · exact ih lo h.2.2 p hp
      · rename_i h1 h2
        simp only [List.mem_append] at hp
        obtain hp | hp := hp
        · split at hp
          · simp only [List.mem_singleton] at hp; subst hp; dsimp only; omega
          · simp at hp
        · have := ih e.stop h.2.2 p hp
          simp only [Extent.stop] at *; omega

/-- The gap parts are maximal: between two of them lies an extent. -/
theorem gapParts_pairwise (lo hi : Nat) (es : List Extent) (h : orderedExtents es) :
    (gapParts lo hi es).Pairwise fun p q => p.2 < q.1 := by
  induction es generalizing lo with
  | nil => simp only [gapParts]; split <;> simp
  | cons e es ih =>
    simp only [gapParts]
    split
    · split <;> simp
    · split
      · exact ih lo h.2.2
      · rw [List.pairwise_append]
        refine ⟨by split <;> simp, ih _ h.2.2, fun p hp q hq => ?_⟩
        have hpos := h.1
        have hb := gapParts_bounds _ _ _ h.2.2 q hq
        split at hp
        · simp only [List.mem_singleton] at hp; subst hp; simp only [Extent.stop] at *; omega
        · simp at hp

/-- The gap parts cover exactly the blocks of the range that no extent holds. -/
theorem gapParts_cover (lo hi : Nat) (es : List Extent) (h : orderedExtents es) (b : Nat) :
    (∃ p ∈ gapParts lo hi es, p.1 ≤ b ∧ b < p.2) ↔ lo ≤ b ∧ b < hi ∧ ¬holdsBlock es b := by
  induction es generalizing lo with
  | nil =>
    simp only [gapParts, holdsBlock_nil]
    split
    · simp
    · simp; omega
  | cons e es ih =>
    obtain ⟨hpos, hafter, hes⟩ := h
    have hlater (hb : b < e.stop) : ¬holdsBlock es b := by
      rintro ⟨x, hx, h1, -⟩
      have := hafter x hx
      omega
    rw [holdsBlock_cons]
    simp only [gapParts]
    split
    · rename_i h1
      have hstop : e.start < e.stop := by simp only [Extent.stop]; omega
      split
      · simp only [List.mem_singleton, exists_eq_left]
        refine ⟨fun hb => ⟨hb.1, hb.2, ?_⟩, fun hb => ⟨hb.1, hb.2.1⟩⟩
        rw [not_or]
        exact ⟨by omega, hlater (by omega)⟩
      · simp only [List.not_mem_nil, false_and, exists_false, false_iff]
        omega
    · split
      · rename_i h1 h2
        rw [ih lo hes]
        refine and_congr_right fun hlo => and_congr_right fun _ => ?_
        rw [not_or]
        exact ⟨fun h => ⟨by omega, h⟩, fun h => h.2⟩
      · rename_i h1 h2
        simp only [List.mem_append, or_and_right, exists_or, ih e.stop hes]
        have hstop : e.start < e.stop := by simp only [Extent.stop]; omega
        have hfirst : (∃ p ∈ if lo < e.start then [(lo, e.start)] else [], p.1 ≤ b ∧ b < p.2) ↔ lo ≤ b ∧ b < e.start := by
          split
          · simp
          · simp; omega
        rw [hfirst, not_or]
        constructor
        · rintro (hb | hb)
          · exact ⟨hb.1, by omega, by omega, hlater (by omega)⟩
          · exact ⟨by omega, hb.2.1, by omega, hb.2.2⟩
        · rintro ⟨h3, h4, h5, h6⟩
          by_cases hlt : b < e.start
          · exact .inl ⟨h3, hlt⟩
          · exact .inr ⟨by omega, h4, h6⟩

/-- The lengths of ordered ranges inside a range add up to no more than its length. -/
theorem sum_lengths_le (lo hi : Nat) (ps : List (Nat × Nat)) (hlo : lo ≤ hi) (hp : ps.Pairwise fun p q => p.2 < q.1)
    (hb : ∀ p ∈ ps, lo ≤ p.1 ∧ p.1 < p.2 ∧ p.2 ≤ hi) : (ps.map fun p => p.2 - p.1).sum ≤ hi - lo := by
  induction ps generalizing lo with
  | nil => simp
  | cons p ps ih =>
    rw [List.pairwise_cons] at hp
    have hp0 := hb p (by simp)
    have := ih p.2 (by omega) hp.2 fun q hq => by
      have := hp.1 q hq
      have := hb q (by simp [hq])
      omega
    simp only [List.map_cons, List.sum_cons]
    omega

/-! ## One gap part -/

section Gap

variable {x : Taking} {r : Run} {s t g h : Nat} {pre post : List Extent} {l e : Extent}

/-- A range that no extent meets parts a table in two. -/
theorem exists_split_of_free {es : List Extent} (ho : orderedExtents es)
    (hf : ∀ e ∈ es, e.stop ≤ g ∨ h ≤ e.start) :
    ∃ pre post, es = pre ++ post ∧ (∀ e ∈ pre, e.stop ≤ g) ∧ ∀ e ∈ post, h ≤ e.start := by
  induction es with
  | nil => exact ⟨[], [], rfl, by simp, by simp⟩
  | cons e es ih =>
    obtain ⟨hpos, hafter, hes⟩ := ho
    obtain hl | hr := hf e (by simp)
    · obtain ⟨pre, post, rfl, h1, h2⟩ := ih hes fun y hy => hf y (by simp [hy])
      exact ⟨e :: pre, post, rfl, by simpa using ⟨hl, h1⟩, h2⟩
    · refine ⟨[], e :: es, rfl, by simp, ?_⟩
      intro y hy
      obtain rfl | hy := List.mem_cons.mp hy
      · exact hr
      · have := hafter y hy
        simp only [Extent.stop] at this
        omega

/-- The extent that ends where the range begins is the last before it. -/
theorem eq_append_of_stop_eq (ho : orderedExtents pre) (hp : ∀ e ∈ pre, e.stop ≤ g) (hl : l ∈ pre) (hg : l.stop = g) :
    ∃ pre', pre = pre' ++ [l] := by
  obtain ⟨a, b, rfl⟩ := List.append_of_mem hl
  cases b with
  | nil => exact ⟨a, rfl⟩
  | cons y ys =>
    obtain ⟨-, ⟨-, hy, -⟩, -⟩ := (orderedExtents_append _ _).mp ho
    have h1 := hy y (by simp)
    have h2 := hp y (by simp)
    have h3 := orderedExtents_pos _ ho y (by simp)
    simp only [Extent.stop] at *
    omega

/-- The extent that begins where the range ends is the first behind it. -/
theorem eq_cons_of_start_eq (ho : orderedExtents post) (hp : ∀ e ∈ post, h ≤ e.start) (he : e ∈ post)
    (hh : e.start = h) : ∃ post', post = e :: post' := by
  cases post with
  | nil => simp at he
  | cons y ys =>
    obtain rfl | he' := List.mem_cons.mp he
    · exact ⟨ys, rfl⟩
    · have h1 := ho.2.1 e he'
      have h2 := hp y (by simp)
      have h3 := ho.1
      simp only [Extent.stop] at *
      omega

theorem leftNeighbour_eq_none (k : FailKind) (g : Nat) (es : List Extent)
    (hn : ∀ l ∈ es, ¬(l.stop = g ∧ l.kind = k ∧ l.status ≠ .cleared)) : leftNeighbour k g es = none := by
  rw [leftNeighbour, List.find?_eq_none]
  intro l hl hq
  exact hn l hl (by simpa [Extent.qualifies] using hq)

theorem rightNeighbour_eq_none (k : FailKind) (h : Nat) (es : List Extent)
    (hn : ∀ e ∈ es, ¬(e.start = h ∧ e.kind = k ∧ e.status ≠ .cleared)) : rightNeighbour k h es = none := by
  rw [rightNeighbour, List.find?_eq_none]
  intro e he hq
  exact hn e he (by simpa [Extent.qualifies] using hq)

/-- A left neighbour of the gap part from `g` (R72). -/
def Extent.isLeft (r : Run) (g : Nat) (l : Extent) : Prop := l.stop = g ∧ l.kind = r.kind ∧ l.status ≠ .cleared

/-- A right neighbour of the gap part up to `h` (R72). -/
def Extent.isRight (r : Run) (h : Nat) (e : Extent) : Prop := e.start = h ∧ e.kind = r.kind ∧ e.status ≠ .cleared

/-- The gap part joined with its left neighbour, and with both (R73). -/
def Run.joinLeft (r : Run) (s t g h : Nat) (l : Extent) : Extent := Extent.join s t true l (r.part s t g h)
def Run.joinBoth (r : Run) (s t g h : Nat) (l e : Extent) : Extent := Extent.join s t true (r.joinLeft s t g h l) e
def Run.joinRight (r : Run) (s t g h : Nat) (e : Extent) : Extent := Extent.join s t false (r.part s t g h) e

@[simp] theorem Run.part_length (r : Run) (s t g h : Nat) : (r.part s t g h).length = h - g := rfl
@[simp] theorem Run.part_start (r : Run) (s t g h : Nat) : (r.part s t g h).start = g := rfl

/-- Both neighbours joined: the first case of R72. -/
theorem recordGap_both (hx : x.extents = pre ++ l :: e :: post) (ho : orderedExtents x.extents)
    (hl : l.isLeft r g) (he : e.isRight r h) (hn : l.length + (h - g) + e.length ≤ 65535) :
    recordGap r s t x (g, h) =
      { extents := pre ++ r.joinBoth s t g h l e :: post, lost := x.lost, recorded := true } := by
  have hL := (leftNeighbour_eq_some r.kind g x.extents ho l).mpr ⟨by simp [hx], hl⟩
  have hR := (rightNeighbour_eq_some r.kind h x.extents ho e).mpr ⟨by simp [hx], he⟩
  have hd1 : dropExtent l.start x.extents = pre ++ e :: post := by
    rw [hx] at ho ⊢
    exact dropExtent_middle _ _ _ ho
  obtain ⟨hop, ⟨hlpos, hlafter, hepos, heafter, hopost⟩, hbefore⟩ := (orderedExtents_append _ _).mp (hx ▸ ho)
  have ho' : orderedExtents (pre ++ e :: post) :=
    (orderedExtents_append _ _).mpr ⟨hop, ⟨hepos, heafter, hopost⟩, fun a ha b hb => hbefore a ha b (by simp [hb])⟩
  have hins : insertExtent (r.joinBoth s t g h l e) (pre ++ post) = pre ++ r.joinBoth s t g h l e :: post := by
    refine insertExtent_between _ _ _ (fun y hy => ?_) fun y hy => ?_
    · have := hbefore y hy l (by simp)
      have := orderedExtents_pos _ hop y hy
      simp only [Run.joinBoth, Run.joinLeft, Extent.join, Extent.stop] at *
      omega
    · have := hlafter y (by simp [hy])
      simp only [Run.joinBoth, Run.joinLeft, Extent.join, Extent.stop] at *
      omega
  simp only [recordGap, hL, hR, Run.part_length, Config.maxExtentLength, if_pos hn, hd1,
    dropExtent_middle _ _ _ ho']
  exact congrArg (fun es => Taking.mk es x.lost true) hins

/-- The left neighbour joined: the second case of R72. -/
theorem recordGap_left (hx : x.extents = pre ++ l :: post) (ho : orderedExtents x.extents) (hgh : g < h)
    (hl : l.isLeft r g) (hn : l.length + (h - g) ≤ 65535)
    (hr : ∀ e ∈ post, e.isRight r h → 65535 < l.length + (h - g) + e.length) :
    recordGap r s t x (g, h) =
      { extents := pre ++ r.joinLeft s t g h l :: post, lost := x.lost, recorded := true } := by
  have hL := (leftNeighbour_eq_some r.kind g x.extents ho l).mpr ⟨by simp [hx], hl⟩
  have hd1 : dropExtent l.start x.extents = pre ++ post := by
    rw [hx] at ho ⊢
    exact dropExtent_middle _ _ _ ho
  obtain ⟨hop, ⟨hlpos, hlafter, hopost⟩, hbefore⟩ := (orderedExtents_append _ _).mp (hx ▸ ho)
  have hins : insertExtent (r.joinLeft s t g h l) (pre ++ post) = pre ++ r.joinLeft s t g h l :: post := by
    refine insertExtent_between _ _ _ (fun y hy => ?_) fun y hy => ?_
    · have := hbefore y hy l (by simp)
      have := orderedExtents_pos _ hop y hy
      simp only [Run.joinLeft, Extent.join, Extent.stop] at *
      omega
    · have := hlafter y hy
      simp only [Run.joinLeft, Extent.join, Extent.stop] at *
      omega
  have hjoin : (insertExtent (Extent.join s t true l (r.part s t g h)) (dropExtent l.start x.extents)) =
      pre ++ r.joinLeft s t g h l :: post := by rw [hd1]; exact hins
  cases hR : rightNeighbour r.kind h x.extents with
  | none => simp only [recordGap, hL, hR, Run.part_length, Config.maxExtentLength, if_pos hn, hjoin]
  | some e =>
    obtain ⟨hm, hright⟩ := (rightNeighbour_eq_some r.kind h x.extents ho e).mp hR
    have hmem : e ∈ post := by
      rw [hx] at hm
      obtain hm | hm := List.mem_append.mp hm
      · have h1 := hbefore e hm l (by simp)
        have h2 := orderedExtents_pos _ hop e hm
        have h3 := hl.1
        have h4 := hright.1
        simp only [Extent.stop] at *
        omega
      · obtain rfl | hm := List.mem_cons.mp hm
        · have h3 := hl.1
          have h4 := hright.1
          simp only [Extent.stop] at *
          omega
        · exact hm
    have hbig : ¬l.length + (h - g) + e.length ≤ 65535 := Nat.not_le.mpr (hr e hmem hright)
    simp only [recordGap, hL, hR, Run.part_length, Config.maxExtentLength, if_neg hbig, if_pos hn, hjoin]

/-- The right neighbour joined: the third case of R72. -/
theorem recordGap_right (hx : x.extents = pre ++ e :: post) (ho : orderedExtents x.extents) (hgh : g < h)
    (hfree : ∀ l ∈ pre, l.stop ≤ g) (he : e.isRight r h) (hn : (h - g) + e.length ≤ 65535)
    (hl : ∀ l ∈ pre, l.isLeft r g → 65535 < l.length + (h - g)) :
    recordGap r s t x (g, h) =
      { extents := pre ++ r.joinRight s t g h e :: post, lost := x.lost, recorded := true } := by
  have hR := (rightNeighbour_eq_some r.kind h x.extents ho e).mpr ⟨by simp [hx], he⟩
  have hd1 : dropExtent e.start x.extents = pre ++ post := by
    rw [hx] at ho ⊢
    exact dropExtent_middle _ _ _ ho
  obtain ⟨hop, ⟨hepos, heafter, hopost⟩, hbefore⟩ := (orderedExtents_append _ _).mp (hx ▸ ho)
  have hstart := he.1
  have hins : insertExtent (r.joinRight s t g h e) (pre ++ post) = pre ++ r.joinRight s t g h e :: post := by
    refine insertExtent_between _ _ _ (fun y hy => ?_) fun y hy => ?_
    · have := hfree y hy
      simp only [Run.joinRight, Extent.join, Run.part_start, Extent.stop] at *
      omega
    · have := heafter y hy
      simp only [Run.joinRight, Extent.join, Run.part_start, Extent.stop] at *
      omega
  have hjoin : (insertExtent (Extent.join s t false (r.part s t g h) e) (dropExtent e.start x.extents)) =
      pre ++ r.joinRight s t g h e :: post := by rw [hd1]; exact hins
  cases hL : leftNeighbour r.kind g x.extents with
  | none => simp only [recordGap, hL, hR, Run.part_length, Config.maxExtentLength, if_pos hn, hjoin]
  | some l =>
    obtain ⟨hm, hleft⟩ := (leftNeighbour_eq_some r.kind g x.extents ho l).mp hL
    have hmem : l ∈ pre := by
      rw [hx] at hm
      obtain hm | hm := List.mem_append.mp hm
      · exact hm
      · have hge : e.start ≤ l.start := by
          obtain rfl | hm := List.mem_cons.mp hm
          · exact le_rfl
          · have := heafter l hm
            simp only [Extent.stop] at this
            omega
        have := hleft.1
        simp only [Extent.stop] at *
        omega
    have hbig : ¬l.length + (h - g) ≤ 65535 := Nat.not_le.mpr (hl l hmem hleft)
    have hbig' : ¬l.length + (h - g) + e.length ≤ 65535 := by omega
    simp only [recordGap, hL, hR, Run.part_length, Config.maxExtentLength, if_neg hbig', if_neg hbig, if_pos hn, hjoin]

/-- No neighbour joined: a new extent where there is room, and otherwise the blocks are lost (R72, R74, R76). -/
theorem recordGap_fresh (ho : orderedExtents x.extents)
    (hl : ∀ l ∈ x.extents, l.isLeft r g → 65535 < l.length + (h - g))
    (hr : ∀ e ∈ x.extents, e.isRight r h → 65535 < (h - g) + e.length) :
    recordGap r s t x (g, h) =
      if x.extents.length < 512 then
        { extents := insertExtent (r.part s t g h) x.extents, lost := x.lost, recorded := true }
      else { x with lost := x.lost + (h - g) } := by
  have noL {l : Extent} (hL : leftNeighbour r.kind g x.extents = some l) : ¬l.length + (h - g) ≤ 65535 := by
    obtain ⟨hm, hleft⟩ := (leftNeighbour_eq_some r.kind g x.extents ho l).mp hL
    exact Nat.not_le.mpr (hl l hm hleft)
  have noR {e : Extent} (hR : rightNeighbour r.kind h x.extents = some e) : ¬(h - g) + e.length ≤ 65535 := by
    obtain ⟨hm, hright⟩ := (rightNeighbour_eq_some r.kind h x.extents ho e).mp hR
    exact Nat.not_le.mpr (hr e hm hright)
  cases hL : leftNeighbour r.kind g x.extents with
  | none =>
    cases hR : rightNeighbour r.kind h x.extents with
    | none =>
      simp only [recordGap, hL, hR]
      rfl
    | some e =>
      simp only [recordGap, hL, hR]
      exact if_neg (noR hR)
  | some l =>
    cases hR : rightNeighbour r.kind h x.extents with
    | none =>
      simp only [recordGap, hL, hR]
      exact if_neg (noL hL)
    | some e =>
      have hboth : ¬l.length + (h - g) + e.length ≤ 65535 := by have := noL hL; omega
      simp only [recordGap, hL, hR]
      exact (if_neg hboth).trans ((if_neg (noL hL)).trans (if_neg (noR hR)))

/-! ## What one gap part does to the table -/

/-- The table `es` has become `es'` by recording the blocks from `g` up to `h`. -/
structure Records (r : Run) (es es' : List Extent) (g h : Nat) : Prop where
  wf      : ExtentsWF es'
  holds   : ∀ b, holdsBlock es' b ↔ holdsBlock es b ∨ (g ≤ b ∧ b < h)
  grows   : es'.length ≤ es.length + 1
  lengths : (∀ e ∈ es, e.length ≤ 65535) → h - g ≤ 65535 → ∀ e ∈ es', e.length ≤ 65535

/-- An extent in the place of those it joins, with the range from `g` up to `h`. -/
theorem Records.of_replace {old : List Extent} {y : Extent} (hwf : ExtentsWF (pre ++ old ++ post))
    (hpre : ∀ e ∈ pre, e.stop ≤ y.start) (hpost : ∀ e ∈ post, y.stop ≤ e.start) (hy : 0 < y.length)
    (hb : ∀ b, (y.start ≤ b ∧ b < y.stop) ↔ holdsBlock old b ∨ (g ≤ b ∧ b < h))
    (hroom : old = [] → (pre ++ old ++ post).length < 512) (hk : y.kind.severe → y.status = .confirmed)
    (hlen : h - g ≤ 65535 → y.length ≤ 65535) : Records r (pre ++ old ++ post) (pre ++ y :: post) g h := by
  obtain ⟨ho, hrm, hcf⟩ := hwf
  have hgrow : (pre ++ y :: post).length ≤ (pre ++ old ++ post).length + 1 := by simp; omega
  obtain ⟨hol, hopost, -⟩ := (orderedExtents_append _ _).mp ho
  obtain ⟨hopre, -, -⟩ := (orderedExtents_append _ _).mp hol
  refine ⟨⟨?_, ?_, ?_⟩, fun b => ?_, hgrow, fun hes hgh e he => ?_⟩
  · rw [orderedExtents_append]
    refine ⟨hopre, ⟨hy, hpost, hopost⟩, fun a ha b hb' => ?_⟩
    obtain rfl | hb' := List.mem_cons.mp hb'
    · exact hpre a ha
    · have h1 := hpre a ha
      have h2 := hpost b hb'
      simp only [Extent.stop] at *
      omega
  · cases old with
    | nil =>
      have := hroom rfl
      simp only [Config.maxExtents, List.length_append, List.length_cons, List.length_nil] at *
      omega
    | cons o os =>
      simp only [Config.maxExtents, List.length_append, List.length_cons] at *
      omega
  · intro e he hsev
    simp only [List.mem_append, List.mem_cons] at he
    obtain he | rfl | he := he
    · exact hcf e (by simp [he]) hsev
    · exact hk hsev
    · exact hcf e (by simp [he]) hsev
  · simp only [holdsBlock_append, holdsBlock_cons, hb b]
    tauto
  · simp only [List.mem_append, List.mem_cons] at he
    obtain he | rfl | he := he
    · exact hes e (by simp [he])
    · exact hlen hgh
    · exact hes e (by simp [he])

/-- A part of a severe run, alone or joined, is CONFIRMED (R71, R73). -/
theorem Run.part_status {k : FailKind} (hk : k = r.kind) (h' : k.severe) : (r.part s t g h).status = .confirmed := by
  subst hk
  simp [Run.part, Run.immediate_of_severe h']

/-- One gap part is recorded in the table, or its blocks are lost because the table is full. -/
theorem recordGap_cases (hwf : ExtentsWF x.extents) (hgh : g < h) (hf : ∀ e ∈ x.extents, e.stop ≤ g ∨ h ≤ e.start) :
    (∃ es, recordGap r s t x (g, h) = { extents := es, lost := x.lost, recorded := true } ∧
        Records r x.extents es g h) ∨
      512 ≤ x.extents.length ∧ recordGap r s t x (g, h) = { x with lost := x.lost + (h - g) } := by
  obtain ⟨pre, post, hx, hpre, hpost⟩ := exists_split_of_free hwf.ordered hf
  have ho := hwf.ordered
  have hwf' := hwf
  rw [hx] at hwf'
  obtain ⟨hopre, hopost, -⟩ := (orderedExtents_append _ _).mp hwf'.ordered
  by_cases hleft : ∃ l ∈ x.extents, l.isLeft r g ∧ l.length + (h - g) ≤ 65535
  · -- the part joins its left neighbour, and perhaps the right one too
    obtain ⟨l, hl, hlL, hln⟩ := hleft
    have hstop := hlL.1
    have hmem : l ∈ pre := by
      rw [hx] at hl
      obtain hl | hl := List.mem_append.mp hl
      · exact hl
      · have := hpost l hl
        simp only [Extent.stop] at *
        omega
    obtain ⟨pre, rfl⟩ := eq_append_of_stop_eq hopre hpre hmem hstop
    obtain ⟨-, -, hbefore⟩ := (orderedExtents_append _ _).mp hopre
    have hlpos := orderedExtents_pos _ hopre l hmem
    have hsev : (r.joinLeft s t g h l).kind.severe → (r.joinLeft s t g h l).status = .confirmed := fun hs => by
      simp [Run.joinLeft, Extent.join, Run.part_status (s := s) (t := t) (g := g) (h := h) hlL.2.1 hs]
    by_cases hright : ∃ e ∈ post, e.isRight r h ∧ l.length + (h - g) + e.length ≤ 65535
    · obtain ⟨e, he, heR, hen⟩ := hright
      obtain ⟨post, rfl⟩ := eq_cons_of_start_eq hopost hpost he heR.1
      have hx' : x.extents = pre ++ [l, e] ++ post := by simp [hx]
      have heq := recordGap_both (s := s) (t := t) (by simpa using hx') ho hlL heR hen
      refine .inl ⟨_, heq, ?_⟩
      have hstart := heR.1
      rw [hx'] at hwf ⊢
      refine .of_replace hwf (fun y hy => hbefore y hy l (by simp)) (fun y hy => ?_) ?_ (fun b => ?_) (by simp) ?_
        fun _ => ?_
      · have := hopost.2.1 y hy
        simp only [Run.joinBoth, Run.joinLeft, Extent.join, Run.part_length, Extent.stop] at *
        omega
      · simp only [Run.joinBoth, Run.joinLeft, Extent.join]
        omega
      · simp only [holdsBlock_cons, holdsBlock_nil, or_false, Run.joinBoth, Run.joinLeft, Extent.join, Run.part_length,
          Extent.stop] at *
        omega
      · intro hs
        simp [Run.joinBoth, Extent.join, hsev hs]
      · simpa [Run.joinBoth, Run.joinLeft, Extent.join] using hen
    · have hx' : x.extents = pre ++ [l] ++ post := by simp [hx]
      have hbig : ∀ e ∈ post, e.isRight r h → 65535 < l.length + (h - g) + e.length := fun e he heR =>
        Nat.lt_of_not_le fun hle => hright ⟨e, he, heR, hle⟩
      have heq := recordGap_left (s := s) (t := t) (by simpa using hx') ho hgh hlL hln hbig
      refine .inl ⟨_, heq, ?_⟩
      rw [hx'] at hwf ⊢
      refine .of_replace hwf (fun y hy => hbefore y hy l (by simp)) (fun y hy => ?_) ?_ (fun b => ?_) (by simp) hsev
        fun _ => ?_
      · have := hpost y hy
        simp only [Run.joinLeft, Extent.join, Run.part_length, Extent.stop] at *
        omega
      · simp only [Run.joinLeft, Extent.join]
        omega
      · simp only [holdsBlock_cons, holdsBlock_nil, or_false, Run.joinLeft, Extent.join, Run.part_length,
          Extent.stop] at *
        omega
      · simpa [Run.joinLeft, Extent.join] using hln
  · have hnoL : ∀ l ∈ x.extents, l.isLeft r g → 65535 < l.length + (h - g) := fun l hl hlL =>
      Nat.lt_of_not_le fun hle => hleft ⟨l, hl, hlL, hle⟩
    by_cases hright : ∃ e ∈ post, e.isRight r h ∧ (h - g) + e.length ≤ 65535
    · -- the part joins its right neighbour
      obtain ⟨e, he, heR, hen⟩ := hright
      obtain ⟨post, rfl⟩ := eq_cons_of_start_eq hopost hpost he heR.1
      have hx' : x.extents = pre ++ [e] ++ post := by simp [hx]
      have heq := recordGap_right (s := s) (t := t) (by simpa using hx') ho hgh hpre heR hen
        fun l hl => hnoL l (by simp [hx, hl])
      refine .inl ⟨_, heq, ?_⟩
      have hstart := heR.1
      rw [hx'] at hwf ⊢
      refine .of_replace hwf (fun y hy => ?_) (fun y hy => ?_) ?_ (fun b => ?_) (by simp) ?_ fun _ => ?_
      · have := hpre y hy
        simpa [Run.joinRight, Extent.join] using this
      · have := hopost.2.1 y hy
        simp only [Run.joinRight, Extent.join, Run.part_length, Run.part_start, Extent.stop] at *
        omega
      · simp only [Run.joinRight, Extent.join, Run.part_length]
        omega
      · simp only [holdsBlock_cons, holdsBlock_nil, or_false, Run.joinRight, Extent.join, Run.part_length,
          Run.part_start, Extent.stop] at *
        omega
      · intro hs
        simp [Run.joinRight, Extent.join, Run.part_status (s := s) (t := t) (g := g) (h := h) rfl hs]
      · simpa [Run.joinRight, Extent.join] using hen
    · -- the part stands alone
      have hnoR : ∀ e ∈ x.extents, e.isRight r h → 65535 < (h - g) + e.length := by
        intro e he heR
        refine Nat.lt_of_not_le fun hle => hright ⟨e, ?_, heR, hle⟩
        rw [hx] at he
        obtain he | he := List.mem_append.mp he
        · have h1 := hpre e he
          have h2 := heR.1
          simp only [Extent.stop] at *
          omega
        · exact he
      have heq := recordGap_fresh (s := s) (t := t) ho hnoL hnoR
      by_cases hroom : x.extents.length < 512
      · rw [if_pos hroom] at heq
        have hins : insertExtent (r.part s t g h) x.extents = pre ++ r.part s t g h :: post := by
          rw [hx]
          refine insertExtent_between _ _ _ (fun y hy => ?_) fun y hy => ?_
          · have := hpre y hy
            simp only [Run.part_start, Extent.stop] at *
            omega
          · have := hpost y hy
            simp only [Run.part_start]
            omega
        rw [hins] at heq
        refine .inl ⟨_, heq, ?_⟩
        have hx' : x.extents = pre ++ [] ++ post := by simp [hx]
        rw [hx'] at hwf ⊢
        rw [hx'] at hroom
        refine .of_replace hwf (fun y hy => hpre y hy) (fun y hy => ?_) ?_ (fun b => ?_) (fun _ => hroom)
          (fun hs => Run.part_status rfl hs) fun hle => hle
        · have := hpost y hy
          simp only [Extent.stop, Run.part_start, Run.part_length]
          omega
        · simp only [Run.part_length]
          omega
        · simp only [holdsBlock_nil, false_or, Extent.stop, Run.part_start, Run.part_length]
          omega
      · rw [if_neg hroom] at heq
        exact .inr ⟨Nat.not_lt.mp hroom, heq⟩

end Gap

/-! ## A whole run -/

/-- What recording the ranges `ps` one after the other makes of a table. -/
structure Taken (r : Run) (x y : Taking) (ps : List (Nat × Nat)) : Prop where
  wf      : ExtentsWF y.extents
  keeps   : ∀ b, holdsBlock x.extents b → holdsBlock y.extents b
  only    : ∀ b, holdsBlock y.extents b → holdsBlock x.extents b ∨ ∃ p ∈ ps, p.1 ≤ b ∧ b < p.2
  covers  : y.lost = x.lost → ∀ p ∈ ps, ∀ b, p.1 ≤ b → b < p.2 → holdsBlock y.extents b
  mono    : x.lost ≤ y.lost
  bound   : y.lost ≤ x.lost + (ps.map fun p => p.2 - p.1).sum
  full    : y.lost ≠ x.lost → 512 ≤ x.extents.length + (ps.map fun p => p.2 - p.1).sum
  lengths : (∀ e ∈ x.extents, e.length ≤ 65535) → (∀ p ∈ ps, p.2 - p.1 ≤ 65535) → ∀ e ∈ y.extents, e.length ≤ 65535

/-- Ranges that stand apart, and meet no extent, are recorded one after the other. -/
theorem foldl_recordGap {r : Run} {s t : Nat} (ps : List (Nat × Nat)) (x : Taking) (hwf : ExtentsWF x.extents)
    (hp : ps.Pairwise fun p q => p.2 < q.1) (hlt : ∀ p ∈ ps, p.1 < p.2)
    (hf : ∀ p ∈ ps, ∀ b, p.1 ≤ b → b < p.2 → ¬holdsBlock x.extents b) : Taken r x (ps.foldl (recordGap r s t) x) ps := by
  induction ps generalizing x with
  | nil => exact ⟨hwf, fun _ => id, fun _ => .inl, fun _ _ h => absurd h (by simp), le_rfl, by simp, fun h => absurd rfl h,
      fun h _ => h⟩
  | cons p ps ih =>
    obtain ⟨g, h⟩ := p
    rw [List.pairwise_cons] at hp
    have hgh : g < h := hlt (g, h) (by simp)
    have hfree : ∀ e ∈ x.extents, e.stop ≤ g ∨ h ≤ e.start := by
      intro e he
      by_contra hne
      rw [not_or, Nat.not_le, Nat.not_le] at hne
      have hpos := orderedExtents_pos _ hwf.ordered e he
      exact hf (g, h) (by simp) (max g e.start) (by simp) (by simp; omega)
        ⟨e, he, by simp, by simp only [Extent.stop] at *; omega⟩
    have hsum : (((g, h) :: ps).map fun p => p.2 - p.1).sum = h - g + (ps.map fun p => p.2 - p.1).sum := by simp
    rw [List.foldl_cons]
    obtain ⟨es, heq, hrec⟩ | ⟨hfull, heq⟩ := recordGap_cases (r := r) (s := s) (t := t) hwf hgh hfree
    · rw [heq]
      have hnext := ih { extents := es, lost := x.lost, recorded := true } hrec.wf hp.2
        (fun q hq => hlt q (by simp [hq])) fun q hq b h1 h2 hb => by
          obtain hb | hb := (hrec.holds b).mp hb
          · exact hf q (by simp [hq]) b h1 h2 hb
          · have := hp.1 q hq
            simp only at this
            omega
      have hgrow := hrec.grows
      refine ⟨hnext.wf, fun b hb => hnext.keeps b ((hrec.holds b).mpr (.inl hb)), fun b hb => ?_, fun hl q hq b h1 h2 => ?_,
        hnext.mono, ?_, fun hl => ?_, fun h1 h2 => ?_⟩
      · obtain hb | ⟨q, hq, hqb⟩ := hnext.only b hb
        · obtain hb | hb := (hrec.holds b).mp hb
          · exact .inl hb
          · exact .inr ⟨(g, h), by simp, hb⟩
        · exact .inr ⟨q, by simp [hq], hqb⟩
      · obtain rfl | hq := List.mem_cons.mp hq
        · exact hnext.keeps b ((hrec.holds b).mpr (.inr ⟨h1, h2⟩))
        · exact hnext.covers hl q hq b h1 h2
      · have := hnext.bound
        simp only at this
        omega
      · have := hnext.full hl
        simp only at this
        omega
      · exact hnext.lengths (hrec.lengths h1 (h2 (g, h) (by simp))) fun q hq => h2 q (by simp [hq])
    · rw [heq]
      have hnext := ih { x with lost := x.lost + (h - g) } hwf hp.2 (fun q hq => hlt q (by simp [hq]))
        fun q hq => hf q (by simp [hq])
      have hmono := hnext.mono
      simp only at hmono
      refine ⟨hnext.wf, hnext.keeps, fun b hb => ?_, fun hl => by omega, by omega, ?_, fun _ => by omega, fun h1 h2 => ?_⟩
      · obtain hb | ⟨q, hq, hqb⟩ := hnext.only b hb
        · exact .inl hb
        · exact .inr ⟨q, by simp [hq], hqb⟩
      · have := hnext.bound
        simp only at this
        omega
      · exact hnext.lengths h1 fun q hq => h2 q (by simp [hq])

/-- A run taken by a table records its gap parts. -/
theorem insertRun_taken {r : Run} {serial t : Nat} {es : List Extent} (hwf : ExtentsWF es) :
    Taken r { extents := hitExtents r serial t es, lost := 0, recorded := false } (insertRun r serial t es)
      (gapParts r.first r.stop es) := by
  refine foldl_recordGap _ _ (hitExtents_wf hwf) (gapParts_pairwise _ _ _ hwf.ordered)
    (fun p hp => (gapParts_bounds _ _ _ hwf.ordered p hp).2.1) fun p hp b h1 h2 => ?_
  rw [holdsBlock_hitExtents]
  exact ((gapParts_cover _ _ _ hwf.ordered b).mp ⟨p, hp, h1, h2⟩).2.2

theorem insertRun_wf {r : Run} {serial t : Nat} {es : List Extent} (hwf : ExtentsWF es) :
    ExtentsWF (insertRun r serial t es).extents := (insertRun_taken hwf).wf

end Sys2Proof.Machine


/-! PROOFS. What the end of a command does to the life of a slot (`Slot.Continues`): the supervisor's record stands but for
the phase, and a running pass may have ended (R53, R56, R57, R163). -/

namespace Sys2Proof.Machine

/-! ## How a pass ends by itself -/

/-- How phase and pass state go on while commands end: not at all; a running write or read pass completes in READY; a ship
pass completes; and a ship pass, complete, leaves the slot SHIPPED (R56, R159, R163). -/
inductive PassEnd (kind : PassKind) : PassState → Phase → PassState → Phase → Prop
  | same {st : PassState} {ph : Phase} : PassEnd kind st ph st ph
  | done {ph : Phase} (hk : kind = .write ∨ kind = .read) : PassEnd kind .running ph .complete .ready
  | wiped {ph : Phase} (hk : kind = .ship ∨ kind = .none) : PassEnd kind .running ph .complete ph
  | shipped {st : PassState} (hk : kind = .ship) (hs : st = .running ∨ st = .complete) :
      PassEnd kind st .shipping .complete .shipped

theorem PassEnd.trans {k : PassKind} {s1 s2 s3 : PassState} {p1 p2 p3 : Phase} (h : PassEnd k s1 p1 s2 p2)
    (g : PassEnd k s2 p2 s3 p3) : PassEnd k s1 p1 s3 p3 := by
  cases h with
  | same => exact g
  | done hk =>
    cases g with
    | same => exact .done hk
  | wiped hk =>
    cases g with
    | same => exact .wiped hk
    | shipped hk hs => exact .shipped hk (.inl rfl)
  | shipped hk hs =>
    cases g with
    | same => exact .shipped hk hs

/-- What still runs ran before. -/
theorem PassEnd.running {k : PassKind} {s1 s2 : PassState} {p1 p2 : Phase} (h : PassEnd k s1 p1 s2 p2)
    (hr : s2 = .running) : s1 = .running := by
  cases h with
  | same => exact hr
  | done _ => rfl
  | wiped _ => rfl
  | shipped _ _ => cases hr

/-- Slot `b` is slot `a` gone on: commands have ended or moved, and with them the pass may have ended. -/
structure Slot.Continues (a b : Slot) : Prop where
  sup     : b.sup = { a.sup with phase := b.sup.phase }
  ident   : b.ident = a.ident
  key     : b.key = a.key
  active  : b.active = a.active
  kind    : b.pass.kind = a.pass.kind
  serial  : b.pass.serial = a.pass.serial
  closing : b.closing = { a.closing with shipWritten := b.closing.shipWritten }
  serials : b.tally.serials = a.tally.serials
  epochs  : b.tally.writeEpochs = a.tally.writeEpochs
  region  : b.zmap.region = a.zmap.region
  ends    : PassEnd a.pass.kind a.pass.state a.sup.phase b.pass.state b.sup.phase
  covered : (a.pass.state = .running ∧ (a.pass.kind = .write ∨ a.pass.kind = .read)) ∨
    (b.tally.writeCovered = a.tally.writeCovered ∧ b.tally.verified = a.tally.verified)

section Continues

variable {a b c : Slot}

theorem Slot.Continues.trans (h : a.Continues b) (g : b.Continues c) : a.Continues c := by
  have hends : PassEnd a.pass.kind a.pass.state a.sup.phase c.pass.state c.sup.phase :=
    h.ends.trans (h.kind ▸ g.ends)
  refine ⟨?_, g.ident.trans h.ident, g.key.trans h.key, g.active.trans h.active, g.kind.trans h.kind,
    g.serial.trans h.serial, ?_, g.serials.trans h.serials, g.epochs.trans h.epochs, g.region.trans h.region, hends, ?_⟩
  · rw [g.sup, h.sup]
  · rw [g.closing, h.closing]
  · obtain hr | ⟨h1, h2⟩ := h.covered
    · exact .inl hr
    · obtain ⟨gs, gk⟩ | ⟨g1, g2⟩ := g.covered
      · refine .inl ⟨?_, h.kind ▸ gk⟩
        exact h.ends.running gs
      · exact .inr ⟨g1.trans h1, g2.trans h2⟩

/-- A change of counts, commands and tables only. -/
theorem Slot.Continues.of_eq (hs : b.sup = a.sup) (hi : b.ident = a.ident) (hk : b.key = a.key)
    (ha : b.active = a.active) (hp : b.pass.kind = a.pass.kind ∧ b.pass.serial = a.pass.serial ∧ b.pass.state = a.pass.state)
    (hc : b.closing = a.closing) (ht : b.tally = a.tally) (hz : b.zmap.region = a.zmap.region) : a.Continues b := by
  obtain ⟨hkind, hserial, hstate⟩ := hp
  refine ⟨by rw [hs], hi, hk, ha, hkind, hserial, by rw [hc], by rw [ht], by rw [ht], hz, ?_, .inr ?_⟩
  · rw [hs, hstate]; exact .same
  · rw [ht]; exact ⟨rfl, rfl⟩

theorem Slot.Continues.refl (a : Slot) : a.Continues a := .of_eq rfl rfl rfl rfl ⟨rfl, rfl, rfl⟩ rfl rfl rfl

theorem Slot.Continues.closed (h : a.Continues b) : b.sup.closed = a.sup.closed := by rw [h.sup]
theorem Slot.Continues.power (h : a.Continues b) : b.sup.power = a.sup.power := by rw [h.sup]

theorem Slot.continues_modCmds (f : List Cmd → List Cmd) : a.Continues (a.modCmds f) :=
  .of_eq rfl rfl rfl rfl ⟨rfl, rfl, rfl⟩ rfl rfl rfl

theorem Slot.continues_modJobs (f : List Job → List Job) : a.Continues (a.modJobs f) :=
  .of_eq rfl rfl rfl rfl ⟨rfl, rfl, rfl⟩ rfl rfl rfl

theorem Slot.continues_modTraffic (f : Traffic → Traffic) : a.Continues (a.modTraffic f) :=
  .of_eq rfl rfl rfl rfl ⟨rfl, rfl, rfl⟩ rfl rfl rfl

theorem Slot.continues_modTiming (f : Timing → Timing) : a.Continues (a.modTiming f) :=
  .of_eq rfl rfl rfl rfl ⟨rfl, rfl, rfl⟩ rfl rfl rfl

theorem Slot.continues_modLink (f : Link → Link) : a.Continues (a.modLink f) :=
  .of_eq rfl rfl rfl rfl ⟨rfl, rfl, rfl⟩ rfl rfl rfl

theorem Slot.continues_toDrive (ms : List DriveMsg) : a.Continues (a.toDrive ms) := Slot.continues_modLink _

theorem Slot.continues_raise (f : EventFlag) : a.Continues (a.raise f) :=
  .of_eq rfl rfl rfl rfl ⟨rfl, rfl, rfl⟩ rfl rfl rfl

theorem Slot.countFailures_pass (n : Nat) (sl : Slot) : ∃ m, (sl.countFailures n).pass = { sl.pass with failures := m } := by
  unfold Slot.countFailures
  rw [Slot.modPass_pass]
  split
  · exact ⟨_, rfl⟩
  · exact ⟨sl.pass.failures, rfl⟩

/-- A run handed over moves only the failures of the pass record (R55). -/
theorem Slot.takeRun_pass (now : Nat) (r : Run) (sl : Slot) :
    ∃ m, (sl.takeRun now r).pass = { sl.pass with failures := m } := by
  unfold Slot.takeRun
  split
  · obtain ⟨m, hm⟩ := Slot.countFailures_pass r.length
      (sl.modDefects fun d => { d with postClose := satAdd Config.max32 d.postClose r.length })
    exact ⟨m, hm⟩
  · dsimp only
    rw [Slot.raiseIf_pass, Slot.raiseIf_pass]
    exact Slot.countFailures_pass _ _

theorem Slot.continues_takeRun (now : Nat) (r : Run) : a.Continues (a.takeRun now r) := by
  obtain ⟨m, hm⟩ := Slot.takeRun_pass now r a
  exact .of_eq (by simp) (by simp) (by simp) (by simp) (by rw [hm]; exact ⟨rfl, rfl, rfl⟩) (by simp) (by simp) (by simp)

theorem Slot.continues_takeRuns (now : Nat) (rs : List Run) : a.Continues (a.takeRuns now rs) := by
  induction rs generalizing a with
  | nil => exact .refl a
  | cons r rs ih => exact (Slot.continues_takeRun now r).trans ih

theorem Slot.continues_takeCoverage (g : List (Nat × Nat)) : a.Continues (a.takeCoverage g) :=
  .of_eq (by simp) (by simp) (by simp) (by simp) (by simp) (by simp) (by simp) (by simp)

theorem Slot.continues_join (c : Cmd) : a.Continues (a.join c) := by
  unfold Slot.join
  split
  · exact .of_eq rfl rfl rfl rfl ⟨rfl, rfl, rfl⟩ rfl rfl rfl
  · exact .refl a

theorem Slot.continues_joinAtIssue (c : Cmd) : a.Continues (a.joinAtIssue c) := by
  unfold Slot.joinAtIssue
  split
  · exact .refl a
  · exact Slot.continues_join c

theorem Slot.finishCount_pass (n : Option Nat) (sl : Slot) :
    ∃ m, (sl.finishCount n).pass = { sl.pass with outstanding := m } := by
  unfold Slot.finishCount
  rw [Slot.modPass_pass]
  split
  · exact ⟨_, rfl⟩
  · exact ⟨sl.pass.outstanding, rfl⟩

theorem Slot.continues_finishCount (n : Option Nat) : a.Continues (a.finishCount n) := by
  obtain ⟨m, hm⟩ := Slot.finishCount_pass n a
  exact .of_eq (by simp) (by simp) (by simp) (by simp) (by rw [hm]; exact ⟨rfl, rfl, rfl⟩) (by simp) (by simp) (by simp)

theorem Slot.continues_moveZones (zs : List Zone) : a.Continues (a.moveZones zs) := by
  have hp : (a.moveZones zs).pass.kind = a.pass.kind ∧ (a.moveZones zs).pass.serial = a.pass.serial ∧
      (a.moveZones zs).pass.state = a.pass.state := by
    unfold Slot.moveZones
    dsimp only
    repeat' split
    all_goals exact ⟨rfl, rfl, rfl⟩
  exact .of_eq (by simp) (by simp) (by simp) (by simp) hp (by simp) (by simp) (by rw [Slot.moveZones_zmap])

/-! ## The pass's end -/

/-- SHIPPING becomes SHIPPED only when the ship pass is complete. -/
theorem Slot.continues_testShipped : a.Continues a.testShipped := by
  unfold Slot.testShipped
  split
  · rename_i h
    obtain ⟨hp, hk, hs, -⟩ := h
    refine ⟨rfl, rfl, rfl, rfl, rfl, rfl, rfl, rfl, rfl, rfl, ?_, .inr ⟨rfl, rfl⟩⟩
    have := PassEnd.shipped (st := a.pass.state) hk (.inr hs)
    simpa [Slot.setPhase, hp, hs] using this
  · exact .refl a

theorem Slot.continues_endLap (hs : a.pass.state = .running) (hk : a.pass.kind = .read) : a.Continues a.endLap := by
  refine ⟨by simp, by simp, by simp, by simp, ?_, ?_, by simp, ?_, ?_, ?_, ?_, .inl ⟨hs, .inr hk⟩⟩
  all_goals simp [Slot.endLap, Slot.clearReadFrontiers, Tally.readDone]
  exact .same

theorem Slot.continues_completePass (hs : a.pass.state = .running) : a.Continues a.completePass := by
  unfold Slot.completePass
  split
  · rename_i hk
    exact ⟨rfl, rfl, rfl, rfl, rfl, rfl, rfl, rfl, rfl, rfl, by rw [hs]; exact .done (.inl hk), .inl ⟨hs, .inl hk⟩⟩
  · rename_i hk
    exact ⟨rfl, rfl, rfl, rfl, rfl, rfl, rfl, rfl, rfl, rfl, by rw [hs]; exact .done (.inr hk), .inl ⟨hs, .inr hk⟩⟩
  · rename_i hk
    refine Slot.Continues.trans ?_ Slot.continues_testShipped
    exact ⟨rfl, rfl, rfl, rfl, rfl, rfl, rfl, rfl, rfl, rfl, by rw [hs]; exact .wiped (.inl hk), .inr ⟨rfl, rfl⟩⟩
  · rename_i hk
    exact ⟨rfl, rfl, rfl, rfl, rfl, rfl, rfl, rfl, rfl, rfl, by rw [hs]; exact .wiped (.inr hk), .inr ⟨rfl, rfl⟩⟩

theorem Slot.continues_testPass : a.Continues a.testPass := by
  unfold Slot.testPass
  split
  · rename_i h
    split
    · rename_i hr
      exact Slot.continues_endLap h.1 hr.1
    · exact Slot.continues_completePass h.1
  · exact .refl a

theorem Slot.continues_finish (n : Option Nat) : a.Continues (a.finish n) := by
  unfold Slot.finish
  dsimp only
  split
  · exact (Slot.continues_finishCount n).trans Slot.continues_testPass
  · exact Slot.continues_finishCount n

theorem Slot.continues_finishes (cs : List Cmd) : a.Continues (cs.foldl (fun x c => x.finish c.serial) a) := by
  induction cs generalizing a with
  | nil => exact .refl a
  | cons c cs ih => exact (Slot.continues_finish c.serial).trans ih

/-! ## Whole events -/

theorem Slot.continues_accept (i : SlotId) (c : Cmd) : a.Continues ((Act.start a).accept i c).sl := by
  unfold Act.accept
  split
  all_goals dsimp only [Act.say_sl, Act.mod_sl, Act.start_sl]
  · exact (Slot.continues_join c).trans (Slot.continues_modCmds _)
  · exact Slot.continues_modCmds _

theorem Slot.continues_issueCmd (now : Nat) (n : BitVec 8) (i : SlotId) (d : DriveTag) (before : List Cmd) (c : Cmd)
    (after : List Cmd) : a.Continues (a.issueCmd now n i d before c after) := by
  have hmove (zs : List Zone) :
      a.Continues (if c.cls = some .stamp then (a.joinAtIssue c).moveZones zs else a.joinAtIssue c) := by
    split
    · exact (Slot.continues_joinAtIssue c).trans (Slot.continues_moveZones zs)
    · exact Slot.continues_joinAtIssue c
  unfold Slot.issueCmd
  dsimp only
  have hsent := ((hmove (a.zonesAfter c (a.generationFor c).epoch)).trans (Slot.continues_modTraffic fun t =>
    { t with cmds := before ++ a.issued now d c :: after, jobs := t.jobs ++ a.issueJobs d c })).trans
    (Slot.continues_toDrive (.command d c.kind c.addr c.count c.param :: a.issueBlocks now n i d c))
  split
  · exact hsent.trans Slot.continues_testPass
  · exact hsent

theorem Slot.continues_guardFail (i : SlotId) (now : Nat) (c : Cmd) (others : List Cmd) :
    a.Continues ((Act.start a).guardFail i now c others).sl := by
  unfold Act.guardFail
  split
  all_goals dsimp only [Act.say_sl, Act.mod_sl, Act.start_sl]
  · exact Slot.continues_modCmds _
  · exact (((Slot.continues_takeRun _ _).trans (Slot.continues_raise _)).trans (Slot.continues_modCmds _)).trans
      (Slot.continues_finish _)

theorem Slot.continues_cancelPosted (now : Nat) (c : Cmd) : a.Continues (Slot.cancelPosted now a c) := by
  unfold Slot.cancelPosted
  dsimp only
  split
  · exact Slot.continues_modCmds _
  · exact (((Slot.continues_takeRun _ _).trans (Slot.continues_raise _)).trans (Slot.continues_modCmds _)).trans
      (Slot.continues_finish _)

theorem Slot.continues_cancelAll (now : Nat) (cs : List Cmd) : a.Continues (cs.foldl (Slot.cancelPosted now) a) := by
  induction cs generalizing a with
  | nil => exact .refl a
  | cons c cs ih => exact (Slot.continues_cancelPosted now c).trans ih

theorem Act.linkReset_continues (i : SlotId) (now : Nat) (x : Act) : x.sl.Continues (x.linkReset i now).sl :=
  (((((Slot.continues_modLink _).trans (Slot.continues_modTiming _)).trans (Slot.continues_modTraffic _)).trans
    (Slot.continues_cancelAll _ _)).trans (Slot.continues_modCmds _)).trans (Slot.continues_finishes _)

theorem Slot.continues_linkReset (i : SlotId) (now : Nat) : a.Continues ((Act.start a).linkReset i now).sl :=
  Act.linkReset_continues i now (Act.start a)

theorem Slot.continues_expire (i : SlotId) (now : Nat) (d : DriveTag) (c : Cmd) :
    a.Continues ((Act.start a).expire i now d c).sl := by
  have hrun : a.Continues (if c.hasRange then a.takeRun now (c.wholeRun .timeout) else a) := by
    split
    · exact Slot.continues_takeRun _ _
    · exact .refl a
  have hcount := (hrun.trans (Slot.continues_modTiming fun q =>
    { q with timeouts := satAdd Config.max32 q.timeouts 1 })).trans (Slot.continues_raise .timeout)
  unfold Act.expire
  cases c.tag with
  | none =>
    refine Slot.Continues.trans ?_ (Act.linkReset_continues _ _ _)
    exact hcount
  | some t =>
    refine Slot.Continues.trans ?_ (Act.linkReset_continues _ _ _)
    dsimp only [Act.say_sl, Act.mod_sl, Act.start_sl]
    exact hcount.trans ((Slot.continues_modTraffic _).trans (Slot.continues_finish _))

theorem Act.completeRead_continues (i : SlotId) (now : Nat) (t : Tag) (c : Cmd) (x : Act) :
    x.sl.Continues (x.completeRead i now t c).sl :=
  (((Slot.continues_takeRuns _ _).trans (Slot.continues_takeCoverage _)).trans (Slot.continues_modCmds _)).trans
    (Slot.continues_finish _)

theorem Slot.continues_checkBurst (i : SlotId) (now : Nat) (t : Tag) (j : Job) :
    a.Continues (((Act.start a).mod (Slot.modJobs advanceJobs)).checkBurst i now t j).sl := by
  have hjobs : a.Continues ((Act.start a).mod (Slot.modJobs advanceJobs)).sl := Slot.continues_modJobs advanceJobs
  refine hjobs.trans ?_
  generalize (Act.start a).mod (Slot.modJobs advanceJobs) = x
  unfold Act.checkBurst
  split
  · exact .refl _
  · dsimp only
    split
    · exact Act.completeRead_continues _ _ _ _ _
    · rw [Act.mod_sl]
      exact Slot.continues_modCmds _

theorem Slot.continues_postReturned (now : Nat) (d : DriveTag) (c : Cmd) (status : DriveStatus) :
    a.Continues (a.postReturned now d c status) := by
  cases status with
  | good => exact (Slot.continues_modCmds _).trans (Slot.continues_finish _)
  | error e =>
    exact (((Slot.continues_takeRun _ _).trans (Slot.continues_raise _)).trans (Slot.continues_modCmds _)).trans
      (Slot.continues_finish _)

theorem Act.readReturned_continues (i : SlotId) (now : Nat) (t : Tag) (c : Cmd) (status : DriveStatus)
    (data : List Block) (x : Act) : x.sl.Continues (x.readReturned i now t c status data).sl := by
  unfold Act.readReturned
  dsimp only
  split
  · refine Slot.Continues.trans ?_ (Act.completeRead_continues _ _ _ _ _)
    rw [Act.mod_sl]
    exact Slot.continues_modCmds _
  · rw [Act.mod_sl, Act.mod_sl]
    exact (Slot.continues_modCmds _).trans (Slot.continues_modJobs _)

/-- A ship record write that completes GOOD. -/
theorem Slot.continues_shipWritten :
    a.Continues (a.modClosing fun q => { q with shipWritten := true }).testShipped := by
  refine Slot.Continues.trans ?_ Slot.continues_testShipped
  exact ⟨rfl, rfl, rfl, rfl, rfl, rfl, rfl, rfl, rfl, rfl, .same, .inr ⟨rfl, rfl⟩⟩

/-- What a completion does beside the identification. -/
theorem Slot.completionEffect_cases (c : Cmd) (status : DriveStatus) (ident : Identification) (sl : Slot) :
    (sl.sup.phase = .attaching ∧ sl.completionEffect c status ident = sl.identify ident) ∨
      sl.Continues (sl.completionEffect c status ident) := by
  unfold Slot.completionEffect
  split
  · split
    · rename_i h
      exact .inl ⟨h.2, rfl⟩
    · split
      · exact .inr Slot.continues_shipWritten
      · exact .inr (.refl sl)
  · exact .inr (.refl sl)

/-- A drive completion: the slot goes on, or a slot in ATTACHING that has gone on is identified (R101 to R104, R131). -/
theorem Slot.completion_cases (i : SlotId) (now : Nat) (d : DriveTag) (c : Cmd) (status : DriveStatus)
    (data : List Block) (ident : Identification) (sl : Slot) :
    sl.Continues ((Act.start sl).completion i now d c status data ident).sl ∨
      ∃ mid : Slot, sl.Continues mid ∧ mid.sup.phase = .attaching ∧
        ((Act.start sl).completion i now d c status data ident).sl = mid.identify ident := by
  have htime := Slot.continues_modTiming (a := sl) (Timing.taken (now - c.issuedAt) sl.active.slow.toNat (isGood status))
  unfold Act.completion
  cases c.tag with
  | none => exact .inl (htime.trans (Slot.continues_postReturned _ _ _ _))
  | some t =>
    dsimp only
    split
    · refine .inl (Slot.Continues.trans ?_ (Act.readReturned_continues _ _ _ _ _ _ _))
      exact htime
    · unfold Act.cmdReturned
      simp only [Act.say_sl, Act.mod_sl, Act.start_sl]
      have hmid := ((htime.trans (Slot.continues_takeRuns now (c.errorRuns status))).trans
        (Slot.continues_modCmds fun cs => cs.filter fun d => d.tag != some t)).trans (Slot.continues_finish c.serial)
      obtain ⟨hp, he⟩ | hc := Slot.completionEffect_cases c status ident _
      · exact .inr ⟨_, hmid, hp, he⟩
      · exact .inl (hmid.trans hc)

end Continues

end Sys2Proof.Machine


/-! PROOFS. Every step keeps every defect table (R67, R71, R79, R80). -/

namespace Sys2Proof.Machine

/-! ## Takings -/

section Tables

variable {a b m : Slot}

/-- The slot's table is as R67 and R80 require it. -/
def Slot.TableOk (sl : Slot) : Prop :=
  ExtentsWF sl.defects.extents ∧ (sl.sup.closed = false → sl.defects.postClose = 0)

theorem extentsWF_nil : ExtentsWF [] := ⟨trivial, by simp, by simp⟩

theorem Slot.tableOk_of_empty (h : a.defects = .empty) : a.TableOk := by
  rw [Slot.TableOk, h]
  exact ⟨extentsWF_nil, fun _ => rfl⟩

/-- What runs and coverage do to a table: it stays in order, and a frozen one stands. -/
structure Slot.TableMoves (a b : Slot) : Prop where
  closed : b.sup.closed = a.sup.closed
  ok     : a.TableOk → b.TableOk
  frozen : a.sup.closed = true → b.defects.extents = a.defects.extents ∧ b.defects.overflow = a.defects.overflow

theorem Slot.TableMoves.trans (h : a.TableMoves m) (g : m.TableMoves b) : a.TableMoves b := by
  refine ⟨g.closed.trans h.closed, fun ha => g.ok (h.ok ha), fun hc => ?_⟩
  obtain ⟨h1, h2⟩ := h.frozen hc
  obtain ⟨g1, g2⟩ := g.frozen (h.closed.trans hc)
  exact ⟨g1.trans h1, g2.trans h2⟩

theorem Slot.TableMoves.of_eq (hc : b.sup.closed = a.sup.closed) (hd : b.defects = a.defects) : a.TableMoves b := by
  refine ⟨hc, fun h => ?_, fun _ => by rw [hd]; exact ⟨rfl, rfl⟩⟩
  rw [Slot.TableOk, hc, hd]
  exact h

theorem Slot.TableMoves.congr (h : a.TableMoves m) (hc : b.sup.closed = m.sup.closed) (hd : b.defects = m.defects) :
    a.TableMoves b := h.trans (.of_eq hc hd)

/-- The closed flag of a table follows the slot's going on. -/
theorem Slot.TableMoves.of_continues (h : a.Continues b) (hd : b.defects = a.defects) : a.TableMoves b :=
  .of_eq h.closed hd

theorem Slot.TableMoves.refl (a : Slot) : a.TableMoves a := .of_eq rfl rfl

/-- A frozen table counts the run post-close (R80). -/
theorem Slot.takeRun_defects_closed (now : Nat) (r : Run) (h : a.sup.closed = true) :
    (a.takeRun now r).defects = { a.defects with postClose := satAdd Config.max32 a.defects.postClose r.length } := by
  unfold Slot.takeRun
  rw [if_pos h]
  simp

/-- A table that is not frozen takes the run (R69, R76). -/
theorem Slot.takeRun_defects_open (now : Nat) (r : Run) (h : a.sup.closed = false) :
    (a.takeRun now r).defects =
      { a.defects with
        extents := (insertRun r a.tally.serials (now / 1000) a.defects.extents).extents
        overflow := satAdd Config.max48 a.defects.overflow
          (insertRun r a.tally.serials (now / 1000) a.defects.extents).lost } := by
  unfold Slot.takeRun
  rw [if_neg (by simp [h])]
  simp

theorem Slot.tableMoves_takeRun (now : Nat) (r : Run) : a.TableMoves (a.takeRun now r) := by
  have hc : (a.takeRun now r).sup.closed = a.sup.closed := by simp
  refine ⟨hc, fun ha => ?_, fun h => ?_⟩
  · rw [Slot.TableOk, hc]
    cases h : a.sup.closed with
    | true => rw [Slot.takeRun_defects_closed now r h]; exact ⟨ha.1, by simp⟩
    | false => rw [Slot.takeRun_defects_open now r h]; exact ⟨insertRun_wf ha.1, fun _ => ha.2 h⟩
  · rw [Slot.takeRun_defects_closed now r h]
    exact ⟨rfl, rfl⟩

theorem Slot.tableMoves_takeRuns (now : Nat) (rs : List Run) : a.TableMoves (a.takeRuns now rs) := by
  induction rs generalizing a with
  | nil => exact .refl a
  | cons r rs ih => exact (Slot.tableMoves_takeRun now r).trans ih

theorem Extent.clearedBy_start (g : List (Nat × Nat)) (e : Extent) : (e.clearedBy g).start = e.start := by
  unfold Extent.clearedBy
  split <;> rfl

theorem Extent.clearedBy_length (g : List (Nat × Nat)) (e : Extent) : (e.clearedBy g).length = e.length := by
  unfold Extent.clearedBy
  split <;> rfl

/-- Coverage clears no CONFIRMED extent (R77). -/
theorem clearedBy_wf (g : List (Nat × Nat)) {es : List Extent} (h : ExtentsWF es) :
    ExtentsWF (es.map (Extent.clearedBy g)) := by
  refine ⟨(orderedExtents_map (Extent.clearedBy_start g) (Extent.clearedBy_length g) es).mpr h.ordered,
    by simpa using h.room, fun e he hk => ?_⟩
  obtain ⟨d, hd, rfl⟩ := List.mem_map.mp he
  unfold Extent.clearedBy at hk ⊢
  split
  · rename_i hs
    rw [if_pos hs] at hk
    rw [h.confirmed d hd hk] at hs
    cases hs.1
  · rename_i hs
    rw [if_neg hs] at hk
    exact h.confirmed d hd hk

theorem Slot.tableMoves_takeCoverage (g : List (Nat × Nat)) : a.TableMoves (a.takeCoverage g) := by
  unfold Slot.takeCoverage
  split
  · exact .refl a
  · rename_i hc
    exact ⟨rfl, fun h => ⟨clearedBy_wf g h.1, h.2⟩, fun h => absurd h hc⟩

theorem Slot.tableMoves_finish (n : Option Nat) : a.TableMoves (a.finish n) :=
  .of_continues (Slot.continues_finish n) (by simp)

theorem Slot.TableMoves.finish (h : a.TableMoves m) (n : Option Nat) : a.TableMoves (m.finish n) :=
  h.trans (Slot.tableMoves_finish n)

theorem Slot.TableMoves.testPass (h : a.TableMoves m) : a.TableMoves m.testPass :=
  h.trans (.of_continues Slot.continues_testPass (by simp))

theorem Slot.TableMoves.modCmds (h : a.TableMoves m) (f : List Cmd → List Cmd) : a.TableMoves (m.modCmds f) :=
  h.congr rfl rfl

theorem Slot.TableMoves.raise (h : a.TableMoves m) (f : EventFlag) : a.TableMoves (m.raise f) := h.congr rfl rfl

theorem Slot.TableMoves.modTiming (h : a.TableMoves m) (f : Timing → Timing) : a.TableMoves (m.modTiming f) :=
  h.congr rfl rfl

theorem Slot.TableMoves.modTraffic (h : a.TableMoves m) (f : Traffic → Traffic) : a.TableMoves (m.modTraffic f) :=
  h.congr rfl rfl

/-! ## Whole events -/

theorem Slot.tableMoves_cancelAll (now : Nat) (cs : List Cmd) : a.TableMoves (cs.foldl (Slot.cancelPosted now) a) := by
  induction cs generalizing a with
  | nil => exact .refl a
  | cons c cs ih =>
    refine Slot.TableMoves.trans ?_ ih
    unfold Slot.cancelPosted
    dsimp only
    split
    · exact .of_eq rfl rfl
    · exact (((Slot.tableMoves_takeRun _ _).raise _).modCmds _).finish _

theorem Act.linkReset_tableMoves (i : SlotId) (now : Nat) (x : Act) : x.sl.TableMoves (x.linkReset i now).sl := by
  unfold Act.linkReset
  dsimp only [Act.say_sl, Act.mod_sl]
  refine Slot.TableMoves.trans ?_ (.of_continues (Slot.continues_finishes _) (by simp))
  refine Slot.TableMoves.modCmds (Slot.TableMoves.trans ?_ (Slot.tableMoves_cancelAll now _)) _
  exact .of_eq rfl rfl

theorem Slot.tableMoves_expire (i : SlotId) (now : Nat) (d : DriveTag) (c : Cmd) :
    a.TableMoves ((Act.start a).expire i now d c).sl := by
  have hrun : a.TableMoves (if c.hasRange then a.takeRun now (c.wholeRun .timeout) else a) := by
    split
    · exact Slot.tableMoves_takeRun _ _
    · exact .refl a
  unfold Act.expire
  refine Slot.TableMoves.trans ?_ (Act.linkReset_tableMoves _ _ _)
  cases c.tag with
  | none => exact (hrun.modTiming _).raise _
  | some t => exact (((hrun.modTiming _).raise _).modTraffic _).finish _

theorem Act.completeRead_tableMoves (i : SlotId) (now : Nat) (t : Tag) (c : Cmd) (x : Act) :
    x.sl.TableMoves (x.completeRead i now t c).sl :=
  (((Slot.tableMoves_takeRuns _ _).trans (Slot.tableMoves_takeCoverage _)).modCmds _).finish _

theorem Slot.tableMoves_checkBurst (i : SlotId) (now : Nat) (t : Tag) (j : Job) :
    a.TableMoves (((Act.start a).mod (Slot.modJobs advanceJobs)).checkBurst i now t j).sl := by
  have hjobs : a.TableMoves ((Act.start a).mod (Slot.modJobs advanceJobs)).sl := .of_eq rfl rfl
  refine hjobs.trans ?_
  unfold Act.checkBurst
  split
  · exact .refl _
  · dsimp only
    split
    · exact Act.completeRead_tableMoves _ _ _ _ _
    · exact .of_eq rfl rfl

theorem Slot.completionEffect_defects (c : Cmd) (status : DriveStatus) (ident : Identification) (sl : Slot) :
    (sl.completionEffect c status ident).defects = sl.defects := by
  unfold Slot.completionEffect
  repeat' split
  all_goals simp

theorem Slot.tableMoves_completion (i : SlotId) (now : Nat) (d : DriveTag) (c : Cmd) (status : DriveStatus)
    (data : List Block) (ident : Identification) :
    a.TableMoves ((Act.start a).completion i now d c status data ident).sl := by
  have hstat := (Slot.TableMoves.refl a).modTiming
    (Timing.taken (now - c.issuedAt) a.active.slow.toNat (isGood status))
  unfold Act.completion
  cases c.tag with
  | none =>
    refine hstat.trans ?_
    cases status with
    | good => exact ((Slot.TableMoves.refl _).modCmds _).finish _
    | error e => exact (((Slot.tableMoves_takeRun _ _).raise _).modCmds _).finish _
  | some t =>
    dsimp only
    split
    · unfold Act.readReturned
      dsimp only
      split
      · refine Slot.TableMoves.trans ?_ (Act.completeRead_tableMoves _ _ _ _ _)
        exact hstat.modCmds _
      · exact hstat.congr rfl rfl
    · unfold Act.cmdReturned
      simp only [Act.say_sl, Act.mod_sl, Act.start_sl]
      refine (((hstat.trans (Slot.tableMoves_takeRuns now (c.errorRuns status))).modCmds
        fun cs => cs.filter fun d => d.tag != some t).finish c.serial).trans ?_
      refine .of_eq ?_ (Slot.completionEffect_defects _ _ _ _)
      obtain ⟨-, h⟩ | h := Slot.completionEffect_cases c status ident _
      · rw [h]
        rfl
      · exact h.closed

/-! ## Operations -/

theorem Slot.thermalHold_sup (sl : Slot) : ∃ p, sl.thermalHold.sup = { sl.sup with phase := p } := by
  unfold Slot.thermalHold
  repeat' split
  all_goals exact ⟨_, rfl⟩

theorem Slot.soakSample_sup (sl : Slot) : ∃ p, sl.soakSample.sup = { sl.sup with phase := p } := by
  unfold Slot.soakSample
  dsimp only
  repeat' split
  all_goals exact ⟨_, rfl⟩

/-- A sample that does not trip moves only the phase of the supervisor. -/
theorem Slot.afterSample_sup (sl : Slot) : ∃ p, sl.afterSample.sup = { sl.sup with phase := p } := by
  unfold Slot.afterSample
  split
  · obtain ⟨p, hp⟩ := sl.thermalHold_sup
    obtain ⟨q, hq⟩ := sl.thermalHold.soakSample_sup
    exact ⟨q, by rw [hq, hp]⟩
  · exact sl.soakSample_sup

/-- An operation keeps the table, or clears it: RESET-SLOT of an unclosed slot, and an attach (R81, R129, R135). -/
theorem Slot.Op.tableMoves (h : a.Op b) :
    a.TableMoves b ∨ (b.defects = .empty ∧ (a.sup.closed = false ∨ a.sup.phase = .empty)) := by
  cases h with
  | touch h => exact .inl (.of_eq h.closed h.defects)
  | accept i hk hc h => exact .inl (.of_continues (Slot.continues_accept i _) (by unfold Act.accept; split <;> simp))
  | holdRead _ _ => exact .inl (.of_eq rfl rfl)
  | adopt _ => exact .inl (.of_eq (by simp) (by simp))
  | startPass write endless _ _ _ => exact .inl (.of_eq (by cases write <;> rfl) (by cases write <;> rfl))
  | hold _ => exact .inl (.of_eq rfl rfl)
  | resume _ => exact .inl (Slot.TableMoves.testPass (.of_eq rfl rfl))
  | abort _ => exact .inl (.of_eq rfl rfl)
  | endSoak _ => exact .inl (.of_eq rfl rfl)
  | abortShip _ => exact .inl (.of_eq (by simp [Slot.setPhase]) (by simp [Slot.setPhase]))
  | soak w _ => exact .inl (.of_eq rfl rfl)
  | close _ _ => exact .inl (.of_eq rfl rfl)
  | ship _ _ => exact .inl (Slot.TableMoves.testPass (.of_eq rfl rfl))
  | release bins _ =>
    refine .inl (.of_eq ?_ ?_)
    all_goals
      unfold Slot.release
      dsimp only
      split <;> rfl
  | completeRelease bins _ _ => exact .inl (.of_eq rfl rfl)
  | resetSlot i t now default hc _ =>
    refine .inr ⟨?_, .inl hc⟩
    simp [Act.resetSlot, Slot.clearRecords]
  | issue now number i _ _ _ _ _ => exact .inl (.of_continues (Slot.continues_issueCmd _ _ _ _ _ _ _) (by simp))
  | guardFail i now _ _ =>
    left
    unfold Act.guardFail
    split
    · exact .of_eq rfl rfl
    · exact (((Slot.tableMoves_takeRun _ _).raise _).modCmds _).finish _
  | complete i now status data ident _ => exact .inl (Slot.tableMoves_completion _ _ _ _ _ _ _)
  | generated d g => exact .inl (.of_eq rfl rfl)
  | checked i now t j => exact .inl (Slot.tableMoves_checkBurst _ _ _ _)
  | expire i now _ => exact .inl (Slot.tableMoves_expire _ _ _ _)
  | loseLink i now _ _ => exact .inl (Act.linkReset_tableMoves _ _ (Act.start a))
  | dropLink _ _ => exact .inl (.of_eq rfl rfl)
  | resetDone _ _ => exact .inl (.of_eq rfl rfl)
  | requeue => exact .inl (.of_eq rfl rfl)
  | cameUp _ _ => exact .inl (.of_eq rfl rfl)
  | attach now default hp _ _ =>
    refine .inr ⟨?_, .inr hp⟩
    simp [Slot.attach, Slot.clearRecords]
  | afterSample =>
    obtain ⟨p, hp⟩ := a.afterSample_sup
    exact .inl (.of_eq (by rw [hp]) (by simp))

theorem Slot.tableMoves_dropPosted (now : Nat) : a.TableMoves (a.dropPosted now) :=
  (Slot.tableMoves_takeRuns now _).congr (by simp) (Slot.dropPosted_defects now a)

theorem Act.fault_defects (i : SlotId) (now : Nat) (cause : FaultCause) (x : Act) :
    (x.fault i now cause).sl.defects = (x.sl.dropPosted now).defects := by
  simp [Act.fault]

theorem Slot.tableMoves_fault (i : SlotId) (now : Nat) (cause : FaultCause) :
    a.TableMoves ((Act.start a).fault i now cause).sl :=
  (Slot.tableMoves_dropPosted now).congr (by simp) (by simp [Act.fault_defects])

theorem Slot.tableMoves_faulted (i : SlotId) (now : Nat) (bins : List BinEntry) (cause : FaultCause) :
    a.TableMoves (a.faulted i now bins cause) := by
  refine (Slot.tableMoves_fault i now cause).trans ?_
  unfold Slot.faulted
  dsimp only
  split
  · exact .of_eq rfl rfl
  · exact .refl _

theorem Slot.GradeOp.tableMoves (h : a.GradeOp b) : a.TableMoves b := by
  cases h with
  | queued _ _ => exact .of_eq rfl rfl
  | faulted i now bins _ _ => exact Slot.tableMoves_faulted i now bins _
  | tripped i now bins _ =>
    unfold Slot.tripped
    refine Slot.TableMoves.raise ?_ _
    split
    · exact .of_eq rfl rfl
    · refine Slot.TableMoves.trans ?_ (Slot.tableMoves_faulted i now bins .trip)
      exact .of_eq rfl rfl
  | graded i g => exact .of_eq rfl rfl

theorem Slot.Change.tableOk (h : a.Change b) (ha : a.TableOk) : b.TableOk := by
  cases h with
  | op h =>
    obtain h | ⟨h, -⟩ := h.tableMoves
    · exact h.ok ha
    · exact Slot.tableOk_of_empty h
  | grade h => exact h.tableMoves.ok ha
  | computing => exact ⟨ha.1, nofun⟩
  | granted => exact ha
  | emptied lines default => exact Slot.tableOk_of_empty rfl
  | reset default lines =>
    refine Slot.tableOk_of_empty ?_
    unfold Slot.shelfReset
    dsimp only
    split
    · simp [Slot.attach, Slot.clearRecords]
    · rfl

end Tables

/-- Settles O54: runs and coverage keep a table, and every other change of a slot leaves it or empties it. -/
theorem tablesStayOrdered : Obligations.TablesStayOrdered := by
  intro s t hs h
  exact step_keeps_slots Slot.Change.tableOk h hs

end Sys2Proof.Machine


/-! PROOFS. What taking a run does, spelled out by the rules (R55, R66 to R80). -/

namespace Sys2Proof.Machine

/-! ## Hits -/

theorem Run.immediate_iff (r : Run) : r.immediate = true ↔
    r.kind = .media ∨ r.kind = .misplaced ∨ r.kind = .writeFail ∨ (r.kind = .miscompare ∧ 8 < r.worstB) := by
  simp [Run.immediate, or_assoc]

/-- The severities of R11 in ascending order. -/
theorem FailKind.idxOf_severity (k : FailKind) :
    [FailKind.miscompare, .stale, .timeout, .writeFail, .media, .misplaced].idxOf k + 1 = k.severity := by
  cases k <;> rfl

theorem FailKind.worse_eq (k l : FailKind) :
    k.worse l =
      if [FailKind.miscompare, .stale, .timeout, .writeFail, .media, .misplaced].idxOf k <
        [FailKind.miscompare, .stale, .timeout, .writeFail, .media, .misplaced].idxOf l then l else k := by
  have hk := k.idxOf_severity
  have hl := l.idxOf_severity
  unfold FailKind.worse
  refine if_congr ?_ rfl rfl
  omega

theorem Extent.meets_iff (e : Extent) (r : Run) :
    e.meets r = true ↔ e.start < r.first + r.length ∧ r.first < e.start + e.length := by
  unfold Extent.meets
  rw [Bool.and_eq_true, decide_eq_true_iff, decide_eq_true_iff]
  rfl

theorem Extent.inside_iff (e : Extent) (q : Nat × Nat) :
    e.inside q = true ↔ q.1 ≤ e.start ∧ e.start + e.length ≤ q.1 + q.2 := by
  unfold Extent.inside
  rw [Bool.and_eq_true, decide_eq_true_iff, decide_eq_true_iff]
  rfl

theorem Extent.statusAfter_eq (r : Run) (serial : Nat) (e : Extent) :
    e.statusAfter r serial =
      if e.status = .suspect ∧ serial = e.lastSerial ∧
        ¬(r.kind = .media ∨ r.kind = .misplaced ∨ r.kind = .writeFail ∨ (r.kind = .miscompare ∧ 8 < r.worstB))
      then .suspect else .confirmed := by
  simp only [← Run.immediate_iff]
  unfold Extent.statusAfter
  cases hs : e.status with
  | suspect =>
    simp only [true_and]
    by_cases h : serial = e.lastSerial <;> cases r.immediate <;> simp [h]
  | confirmed => simp
  | cleared => simp

/-- The table after the hits, with the fields of R70 and R71. -/
theorem hitExtents_eq (r : Run) (serial t : Nat) (es : List Extent) :
    hitExtents r serial t es = es.map fun e =>
      if e.start < r.first + r.length ∧ r.first < e.start + e.length then
        { e with
          hits := min 255 (e.hits + 1)
          kind :=
            if [FailKind.miscompare, .stale, .timeout, .writeFail, .media, .misplaced].idxOf e.kind <
              [FailKind.miscompare, .stale, .timeout, .writeFail, .media, .misplaced].idxOf r.kind then r.kind else e.kind
          worstB := max e.worstB r.worstB
          claimed := if e.kind ≠ .misplaced ∧ r.kind = .misplaced then r.claimed else e.claimed
          lastSerial := serial
          lastTime := t
          status :=
            if e.status = .suspect ∧ serial = e.lastSerial ∧
              ¬(r.kind = .media ∨ r.kind = .misplaced ∨ r.kind = .writeFail ∨ (r.kind = .miscompare ∧ 8 < r.worstB))
            then .suspect else .confirmed }
      else e := by
  unfold hitExtents
  refine List.map_congr_left fun e _ => ?_
  refine if_congr (e.meets_iff r) ?_ rfl
  simp only [Extent.hit, FailKind.worse_eq, Extent.statusAfter_eq]

theorem confirmsByHit_iff (r : Run) (serial : Nat) (es : List Extent) :
    confirmsByHit r serial es = true ↔ ∃ e ∈ es, (e.start < r.first + r.length ∧ r.first < e.start + e.length) ∧
      e.status ≠ .confirmed ∧
      (if e.status = .suspect ∧ serial = e.lastSerial ∧
        ¬(r.kind = .media ∨ r.kind = .misplaced ∨ r.kind = .writeFail ∨ (r.kind = .miscompare ∧ 8 < r.worstB))
      then ExtentStatus.suspect else .confirmed) = .confirmed := by
  simp only [confirmsByHit, List.any_eq_true, Bool.and_eq_true, Extent.meets_iff, bne_iff_ne, beq_iff_eq,
    Extent.statusAfter_eq, and_assoc]

/-! ## The slot after a run -/

/-- The pass record that a run of `n` blocks leaves (R55). -/
def PassRecord.counting (n : Nat) (p : PassRecord) : PassRecord :=
  if p.state = .running ∨ p.state = .held then { p with failures := min 4294967295 (p.failures + n) } else p

theorem Slot.countFailures_eq (n : Nat) (sl : Slot) : sl.countFailures n = { sl with pass := sl.pass.counting n } := rfl

/-- A frozen table counts the run, and the pass its failures (R55, R80). -/
theorem Slot.takeRun_closed (now : Nat) (r : Run) {sl : Slot} (h : sl.sup.closed = true) :
    sl.takeRun now r = { sl with
      defects := { sl.defects with postClose := min 4294967295 (sl.defects.postClose + r.length) }
      pass := sl.pass.counting r.length } := by
  unfold Slot.takeRun
  rw [if_pos h]
  rfl

/-- A table that is not frozen takes the run (R55, R69, R75, R76). -/
theorem Slot.takeRun_open (now : Nat) (r : Run) {sl : Slot} (h : sl.sup.closed = false) :
    sl.takeRun now r =
      let x := insertRun r sl.tally.serials (now / 1000) sl.defects.extents
      { sl with
        defects :=
          { sl.defects with extents := x.extents, overflow := min 281474976710655 (sl.defects.overflow + x.lost) }
        pass := sl.pass.counting r.length
        events :=
          { sl.events with
            flags :=
              let f :=
                if x.recorded = true ∨ confirmsByHit r sl.tally.serials sl.defects.extents = true then
                  sl.events.flags ||| 0x0020
                else sl.events.flags
              if x.lost = 0 then f else f ||| 0x0040 } } := by
  unfold Slot.takeRun
  rw [if_neg (by simp [h])]
  dsimp only
  generalize insertRun r sl.tally.serials (now / 1000) sl.defects.extents = x
  generalize confirmsByHit r sl.tally.serials sl.defects.extents = conf
  by_cases hd : x.recorded = true ∨ conf = true
  · rw [if_pos hd, show (x.recorded || conf) = true by simpa using hd]
    by_cases hl : x.lost = 0
    · simp only [hl, if_true]
      rfl
    · rw [if_neg hl, show decide (0 < x.lost) = true by simpa using Nat.pos_of_ne_zero hl]
      rfl
  · rw [if_neg hd, show (x.recorded || conf) = false by simpa using hd]
    by_cases hl : x.lost = 0
    · simp only [hl, if_true]
      rfl
    · rw [if_neg hl, show decide (0 < x.lost) = true by simpa using Nat.pos_of_ne_zero hl]
      rfl

/-- Good coverage clears the SUSPECT extents inside one of its ranges (R77). -/
theorem Slot.takeCoverage_open (ranges : List (Nat × Nat)) {sl : Slot} (h : sl.sup.closed = false) :
    sl.takeCoverage ranges = { sl with
      defects := { sl.defects with
        extents := sl.defects.extents.map fun e =>
          if e.status = .suspect ∧ ∃ q ∈ ranges, q.1 ≤ e.start ∧ e.start + e.length ≤ q.1 + q.2 then
            { e with status := .cleared }
          else e } } := by
  unfold Slot.takeCoverage
  rw [if_neg (by simp [h])]
  have hmap (e : Extent) : e.clearedBy ranges =
      if e.status = .suspect ∧ ∃ q ∈ ranges, q.1 ≤ e.start ∧ e.start + e.length ≤ q.1 + q.2 then
        { e with status := .cleared }
      else e := by
    unfold Extent.clearedBy
    refine if_congr ?_ rfl rfl
    rw [List.any_eq_true]
    simp only [Extent.inside_iff]
  simp only [Slot.modDefects, funext hmap]

/-! ## Joined extents -/

/-- The extent that replaces the parts `parts` of one failure, the lowest first (R73). -/
def Run.joined (r : Run) (s t : Nat) (neighbour : Extent) (parts : List Extent) (at_ : Nat) : Extent :=
  let first := parts.find? fun p => parts.all fun q => p.firstTime ≤ q.firstTime
  { start := at_, length := (parts.map Extent.length).sum, kind := r.kind
    status := if ∃ p ∈ parts, p.status = .confirmed then .confirmed else .suspect
    firstSerial := (first.map Extent.firstSerial).getD 0, firstTime := (first.map Extent.firstTime).getD 0
    lastSerial := s, lastTime := t
    hits := (parts.map Extent.hits).foldl max 0, worstB := (parts.map Extent.worstB).foldl max 0
    claimed := neighbour.claimed }

/-- The gap part alone (R74). -/
theorem Run.part_eq (r : Run) (s t g h : Nat) :
    r.part s t g h =
      { start := g, length := h - g, kind := r.kind
        status :=
          if r.kind = .media ∨ r.kind = .misplaced ∨ r.kind = .writeFail ∨ (r.kind = .miscompare ∧ 8 < r.worstB) then
            .confirmed
          else .suspect
        firstSerial := s, firstTime := t, lastSerial := s, lastTime := t, hits := 1, worstB := r.worstB
        claimed := if r.kind = .misplaced then r.claimed else none } := by
  unfold Run.part
  simp only [Run.immediate_iff]

/-- Of two parts the first is the lower one unless the other was seen before it. -/
theorem find_first_of_two (x y : Extent) :
    ([x, y].find? fun p => [x, y].all fun q => p.firstTime ≤ q.firstTime) =
      some (if y.firstTime < x.firstTime then y else x) := by
  by_cases h : y.firstTime < x.firstTime
  · simp [h, Nat.not_le.mpr h, h.le]
  · simp [h, Nat.not_lt.mp h]

theorem find_first_of_three (x y z : Extent) :
    ([x, y, z].find? fun p => [x, y, z].all fun q => p.firstTime ≤ q.firstTime) =
      some (if z.firstTime < min x.firstTime y.firstTime then z else if y.firstTime < x.firstTime then y else x) := by
  simp only [List.find?_cons, List.all_cons, List.all_nil, le_refl, decide_true, Bool.true_and, Bool.and_true]
  grind

/-- Two parts joined are the joined extent of R73. -/
theorem Extent.join_eq (r : Run) (s t : Nat) (lower : Bool) (x y : Extent) (hk : x.kind = r.kind) :
    Extent.join s t lower x y = r.joined s t (if lower then x else y) [x, y] x.start := by
  have hmin : min x.firstTime y.firstTime = if y.firstTime < x.firstTime then y.firstTime else x.firstTime := by
    split <;> omega
  simp only [Extent.join, Run.joined, find_first_of_two, hk, hmin]
  simp [apply_ite Extent.firstSerial, apply_ite Extent.firstTime, apply_ite Extent.claimed]

/-- Three parts joined one after the other are the joined extent of R73. -/
theorem Extent.join_join_eq (r : Run) (s t : Nat) (x y z : Extent) (hk : x.kind = r.kind) :
    Extent.join s t true (Extent.join s t true x y) z = r.joined s t x [x, y, z] x.start := by
  simp only [Extent.join, Run.joined, find_first_of_three, hk]
  simp [apply_ite Extent.firstSerial, apply_ite Extent.firstTime, Nat.add_assoc]
  grind

/-- Settles O50. -/
theorem runInsertionKeepsTheTable : Obligations.RunInsertionKeepsTheTable := by
  unfold Obligations.RunInsertionKeepsTheTable
  refine ⟨?_, ?_, ?_, ?_, fun _ _ _ _ => ⟨rfl, rfl⟩, fun sl ranges => ⟨fun h => if_pos h, Slot.takeCoverage_open ranges⟩⟩
  · intro es r serial t x holds hwf hlen h1 h2
    have hx := insertRun_taken (r := r) (serial := serial) (t := t) hwf
    have hsum := sum_lengths_le r.first r.stop _ (Nat.le_add_right _ _) (gapParts_pairwise _ _ _ hwf.ordered)
      (gapParts_bounds r.first r.stop es hwf.ordered)
    have hstop : r.stop = r.first + r.length := rfl
    have hcover (b : Nat) := gapParts_cover r.first r.stop es hwf.ordered b
    refine ⟨hx.wf, ?_, fun b hb => hx.keeps b ((holdsBlock_hitExtents _ _ _ _ _).mpr hb), fun b hb => ?_,
      fun hl b hb1 hb2 => ?_, fun hl => ?_, ?_⟩
    · refine hx.lengths (fun e he => ?_) fun p hp => ?_
      · obtain ⟨d, hd, rfl⟩ := List.mem_map.mp he
        have := hlen d hd
        split <;> simpa
      · have := gapParts_bounds _ _ _ hwf.ordered p hp
        omega
    · obtain hb | hb := hx.only b hb
      · exact .inl ((holdsBlock_hitExtents _ _ _ _ _).mp hb)
      · have := (hcover b).mp hb
        exact .inr ⟨this.1, this.2.1⟩
    · by_cases hes : holdsBlock es b
      · exact hx.keeps b ((holdsBlock_hitExtents _ _ _ _ _).mpr hes)
      · obtain ⟨p, hp, hp1, hp2⟩ := (hcover b).mpr ⟨hb1, hb2, hes⟩
        exact hx.covers hl p hp b hp1 hp2
    · have hfull := hx.full hl
      simp only [hitExtents, List.length_map] at hfull
      omega
    · have hbound := hx.bound
      simp only [Nat.zero_add] at hbound
      exact hbound.trans (by omega)
  · intro es lo hi ho
    refine ⟨gapParts_pairwise lo hi es ho, gapParts_bounds lo hi es ho, fun b => ?_⟩
    rw [gapParts_cover lo hi es ho b]
    simp [holdsBlock, Extent.stop]
  · intro sl now r es sure severity meets hit x defect pass
    refine ⟨fun h => Slot.takeRun_closed now r h, fun h => ?_⟩
    rw [Slot.takeRun_open now r h]
    have hx : insertRun r sl.tally.serials (now / 1000) sl.defects.extents = x := by
      unfold insertRun
      rw [hitExtents_eq]
      rfl
    have hd : (x.recorded = true ∨ confirmsByHit r sl.tally.serials sl.defects.extents = true) ↔ defect :=
      or_congr_right (confirmsByHit_iff _ _ _)
    dsimp only
    rw [hx, if_congr hd rfl rfl]
    rfl
  · intro x r s t g h ho hgh hf part joined left right becomes
    have hpart : r.part s t g h = part := r.part_eq s t g h
    refine ⟨fun pre post l e hx hl he hn => ?_, fun pre post l hx hl hn hr => ?_, fun pre post e hx he hn hl => ?_,
      fun hl hr => ⟨fun hroom pre post hx hpre hpost => ?_, fun hroom => ?_⟩⟩
    · have h := recordGap_both (s := s) (t := t) hx ho hl he hn
      rw [Run.joinBoth, Run.joinLeft, Extent.join_join_eq r s t l _ e hl.2.1, hpart] at h
      exact h
    · have h := recordGap_left (s := s) (t := t) hx ho hgh hl hn hr
      rw [Run.joinLeft, Extent.join_eq r s t true l _ hl.2.1, hpart] at h
      exact h
    · obtain ⟨-, -, hbefore⟩ := (orderedExtents_append _ _).mp (hx ▸ ho)
      have hfree : ∀ l ∈ pre, l.stop ≤ g := fun l hlm => by
        have h1 := hf l (by simp [hx, hlm])
        have h2 := hbefore l hlm e (by simp)
        have h3 := orderedExtents_pos _ ho l (by simp [hx, hlm])
        have h4 := he.1
        simp only [Extent.stop] at *
        omega
      have h := recordGap_right (s := s) (t := t) hx ho hgh hfree he hn hl
      rw [Run.joinRight, Extent.join_eq r s t false _ e rfl, hpart] at h
      exact h
    · have h := recordGap_fresh (s := s) (t := t) ho hl hr
      rw [if_pos hroom, hpart] at h
      have hins : insertExtent part x.extents = pre ++ part :: post := by
        rw [hx]
        refine insertExtent_between _ _ _ (fun y hy => (hpre y hy).le) fun y hy => ?_
        have h1 := hf y (by simp [hx, hy])
        have h2 := hpost y hy
        have h3 := orderedExtents_pos _ ho y (by simp [hx, hy])
        show g < y.start
        omega
      rw [hins] at h
      exact h
    · have h := recordGap_fresh (s := s) (t := t) ho hl hr
      rwa [if_neg (Nat.not_lt.mpr hroom)] at h

end Sys2Proof.Machine


/-! PROOFS. Tags, drive tags and overlapping writes (R85, R96, R98): what the commands of a slot become in every operation
(`CmdsFollow`), and that they stay apart. -/

namespace Sys2Proof.Machine

/-! ## A command later on -/

/-- Command `d` is command `c` later on: under its tag and serial, at the drive only if it was there, and posted if it was
cancelled meanwhile. -/
structure Cmd.Keeps (c d : Cmd) : Prop where
  tag       : d.tag = c.tag
  serial    : d.serial = c.serial
  drive     : d.driveTag = none ∨ d.driveTag = c.driveTag
  atDrive   : d.isAtDrive = true →
    c.isAtDrive = true ∧ d.driveTag = c.driveTag ∧ d.kind = c.kind ∧ d.addr = c.addr ∧ d.count = c.count
  waiting   : d.state = .waiting → c.state = .waiting ∨ c.state = .cancelled ∨ c.posted = true
  cancelled : d.state = .cancelled → c.state = .cancelled ∨ c.posted = true
  responder : d.state = .atResponder ↔ c.state = .atResponder

theorem Cmd.isAtDrive_iff (c : Cmd) : c.isAtDrive = true ↔ c.state = .atDrive := by simp [Cmd.isAtDrive]

theorem Cmd.Keeps.refl (c : Cmd) : c.Keeps c :=
  ⟨rfl, rfl, .inr rfl, fun h => ⟨h, rfl, rfl, rfl, rfl⟩, .inl, .inl, .rfl⟩

theorem Cmd.Keeps.posted {c d : Cmd} (h : c.Keeps d) : d.posted = c.posted := by
  rw [Cmd.posted, Cmd.posted, h.tag]

theorem Cmd.Keeps.trans {c d e : Cmd} (h : c.Keeps d) (g : d.Keeps e) : c.Keeps e := by
  refine ⟨g.tag.trans h.tag, g.serial.trans h.serial, ?_, fun he => ?_, fun he => ?_, fun he => ?_,
    g.responder.trans h.responder⟩
  · obtain hg | hg := g.drive
    · exact .inl hg
    · rw [hg]; exact h.drive
  · obtain ⟨hd, g1, g2, g3, g4⟩ := g.atDrive he
    obtain ⟨hc, h1, h2, h3, h4⟩ := h.atDrive hd
    exact ⟨hc, g1.trans h1, g2.trans h2, g3.trans h3, g4.trans h4⟩
  · obtain hd | hd | hd := g.waiting he
    · exact h.waiting hd
    · exact .inr (h.cancelled hd)
    · exact .inr (.inr (h.posted ▸ hd))
  · obtain hd | hd := g.cancelled he
    · exact h.cancelled hd
    · exact .inr (h.posted ▸ hd)

/-- The commands `ds` are some of the commands `cs`, in their order, later on. -/
inductive CmdsFollow : List Cmd → List Cmd → Prop
  | nil : CmdsFollow [] []
  | keep {c d : Cmd} {cs ds : List Cmd} (h : c.Keeps d) (hs : CmdsFollow cs ds) : CmdsFollow (c :: cs) (d :: ds)
  | drop {c : Cmd} {cs ds : List Cmd} (hs : CmdsFollow cs ds) : CmdsFollow (c :: cs) ds

section Follow

variable {cs ds es : List Cmd}

theorem CmdsFollow.refl (cs : List Cmd) : CmdsFollow cs cs := by
  induction cs with
  | nil => exact .nil
  | cons c cs ih => exact .keep (.refl c) ih

theorem CmdsFollow.trans (h : CmdsFollow cs ds) (g : CmdsFollow ds es) : CmdsFollow cs es := by
  induction h generalizing es with
  | nil => exact g
  | keep hc _ ih =>
    cases g with
    | keep gd gs => exact .keep (hc.trans gd) (ih gs)
    | drop gs => exact .drop (ih gs)
  | drop _ ih => exact .drop (ih g)

theorem CmdsFollow.of_sublist (h : ds.Sublist cs) : CmdsFollow cs ds := by
  induction h with
  | slnil => exact .nil
  | cons _ _ ih => exact .drop ih
  | cons_cons _ _ ih => exact .keep (.refl _) ih

theorem CmdsFollow.filter (p : Cmd → Bool) (cs : List Cmd) : CmdsFollow cs (cs.filter p) :=
  .of_sublist List.filter_sublist

theorem CmdsFollow.map {f : Cmd → Cmd} (h : ∀ c ∈ cs, c.Keeps (f c)) : CmdsFollow cs (cs.map f) := by
  induction cs with
  | nil => exact .nil
  | cons c cs ih => exact .keep (h c (by simp)) (ih fun d hd => h d (by simp [hd]))

theorem CmdsFollow.mem (h : CmdsFollow cs ds) : ∀ d ∈ ds, ∃ c ∈ cs, c.Keeps d := by
  induction h with
  | nil => simp
  | keep hc _ ih =>
    intro e he
    obtain rfl | he := List.mem_cons.mp he
    · exact ⟨_, by simp, hc⟩
    · obtain ⟨c, hm, hk⟩ := ih e he
      exact ⟨c, by simp [hm], hk⟩
  | drop _ ih =>
    intro e he
    obtain ⟨c, hm, hk⟩ := ih e he
    exact ⟨c, by simp [hm], hk⟩

/-- What holds of each two commands holds of what they become. -/
theorem CmdsFollow.pairwise {R S : Cmd → Cmd → Prop} (h : CmdsFollow cs ds) (hp : cs.Pairwise R)
    (hRS : ∀ {a b a' b'}, a.Keeps a' → b.Keeps b' → R a b → S a' b') : ds.Pairwise S := by
  induction h with
  | nil => exact .nil
  | @keep c d cs ds hc hs ih =>
    rw [List.pairwise_cons] at hp ⊢
    refine ⟨fun e he => ?_, ih hp.2⟩
    obtain ⟨b, hb, hk⟩ := hs.mem e he
    exact hRS hc hk (hp.1 b hb)
  | drop _ ih => exact ih (List.pairwise_cons.mp hp).2

end Follow

/-! ## Apart -/

section Apart

variable {t u : Traffic} {c d : Cmd}

theorem Cmd.overlaps_comm (c d : Cmd) : c.overlaps d = d.overlaps c := by
  unfold Cmd.overlaps
  ac_rfl

theorem Cmd.conflicts_comm (c d : Cmd) : c.conflicts d = d.conflicts c := by
  rw [Cmd.conflicts, Cmd.conflicts, Cmd.overlaps_comm, Bool.or_comm]

theorem Cmd.conflicts_congr {c d c' d' : Cmd} (hc : c'.kind = c.kind ∧ c'.addr = c.addr ∧ c'.count = c.count)
    (hd : d'.kind = d.kind ∧ d'.addr = d.addr ∧ d'.count = d.count) : c'.conflicts d' = c.conflicts d := by
  obtain ⟨hc1, hc2, hc3⟩ := hc
  obtain ⟨hd1, hd2, hd3⟩ := hd
  simp only [Cmd.conflicts, Cmd.overlaps, Cmd.hasRange, Cmd.start, Cmd.length, hc1, hc2, hc3, hd1, hd2, hd3]
  rfl

theorem Traffic.wf_empty : Traffic.empty.WF := ⟨.nil, .nil, .nil, by simp [Traffic.empty], by simp [Traffic.empty]⟩

/-- Commands that follow commands apart are apart, when no tag of theirs is kept back. -/
theorem Traffic.WF.follow (h : t.WF) (hf : CmdsFollow t.cmds u.cmds)
    (hh : ∀ c ∈ u.cmds, c.isAtDrive = true → ∀ n, c.driveTag = some n → n ∈ u.heldTags → n ∈ t.heldTags) : u.WF := by
  refine ⟨hf.pairwise h.tags fun ha hb hr => ?_, hf.pairwise h.driveTags fun ha hb hr => ?_,
    hf.pairwise h.overlap fun ha hb hr h1 h2 => ?_, fun c hc hd => ?_, fun c hc n hd hn hm => ?_⟩
  · rwa [ha.tag, hb.tag]
  · obtain h1 | h1 := ha.drive
    · exact .inl h1
    · obtain h2 | h2 := hb.drive
      · rw [h1, h2]
        obtain hr | hr := hr
        · exact .inl hr
        · rename_i a b _ _
          cases a.driveTag with
          | none => exact .inl rfl
          | some n => exact .inr (by simp)
      · rw [h1, h2]; exact hr
  · obtain ⟨g1, -, k1⟩ := ha.atDrive h1
    obtain ⟨g2, -, k2⟩ := hb.atDrive h2
    rw [Cmd.conflicts_congr k1 k2]
    exact hr g1 g2
  · obtain ⟨b, hb, hk⟩ := hf.mem c hc
    obtain ⟨h1, h2, -⟩ := hk.atDrive hd
    rw [h2]
    exact h.tagged b hb h1
  · obtain ⟨b, hb, hk⟩ := hf.mem c hc
    obtain ⟨h1, h2, -⟩ := hk.atDrive hd
    exact h.held b hb n h1 (h2 ▸ hn) (hh c hc hd n hn hm)

/-- No tag is kept back that was not. -/
theorem Traffic.WF.follow_held (h : t.WF) (hf : CmdsFollow t.cmds u.cmds) (hh : u.heldTags = t.heldTags) : u.WF :=
  h.follow hf fun _ _ _ _ _ hm => hh ▸ hm

/-- With no command at the drive nothing is asked of the tags kept back. -/
theorem Traffic.WF.follow_noDrive (h : t.WF) (hf : CmdsFollow t.cmds u.cmds) (hn : ∀ c ∈ u.cmds, c.isAtDrive = false) :
    u.WF := h.follow hf fun c hc hd => by rw [hn c hc] at hd; cases hd

theorem Traffic.WF.of_eq (h : t.WF) (hc : u.cmds = t.cmds) (hh : u.heldTags = t.heldTags) : u.WF :=
  h.follow_held (hc ▸ .refl _) hh

/-- A command that holds no drive tag joins under a free tag. -/
theorem Traffic.WF.append (h : t.WF) (htag : c.tag = none ∨ ∀ d ∈ t.cmds, d.tag ≠ c.tag) (hdrive : c.driveTag = none)
    (hat : c.isAtDrive = false) (hc : u.cmds = t.cmds ++ [c]) (hh : u.heldTags = t.heldTags) : u.WF := by
  refine ⟨?_, ?_, ?_, ?_, ?_⟩
  all_goals rw [hc]
  · rw [List.pairwise_append]
    refine ⟨h.tags, by simp, fun d hd e he => ?_⟩
    rw [List.mem_singleton.mp he]
    obtain h0 | h0 := htag
    · rw [h0]
      cases d.tag with
      | none => exact .inl rfl
      | some n => exact .inr (by simp)
    · exact .inr (h0 d hd)
  · rw [List.pairwise_append]
    refine ⟨h.driveTags, by simp, fun d hd e he => ?_⟩
    rw [List.mem_singleton.mp he, hdrive]
    cases d.driveTag with
    | none => exact .inl rfl
    | some n => exact .inr (by simp)
  · rw [List.pairwise_append]
    refine ⟨h.overlap, by simp, fun d _ e he _ h2 => ?_⟩
    rw [List.mem_singleton.mp he, hat] at h2
    cases h2
  · intro d hd hda
    obtain hd | hd := List.mem_append.mp hd
    · exact h.tagged d hd hda
    · rw [List.mem_singleton.mp hd, hat] at hda
      cases hda
  · intro d hd n hda hn
    rw [hh]
    obtain hd | hd := List.mem_append.mp hd
    · exact h.held d hd n hda hn
    · rw [List.mem_singleton.mp hd, hat] at hda
      cases hda

/-- Of commands whose keys are apart at most one has a key. -/
theorem eq_of_key {β : Type} {f : Cmd → Option β} {cs : List Cmd} {n : β}
    (hp : cs.Pairwise fun c d => f c = none ∨ f c ≠ f d) (hc : c ∈ cs) (hd : d ∈ cs) (hfc : f c = some n)
    (hfd : f d = some n) : c = d := by
  induction cs with
  | nil => cases hc
  | cons x xs ih =>
    rw [List.pairwise_cons] at hp
    have apart {y : Cmd} (hy : y ∈ xs) (hx : f x = some n) : f y ≠ some n := fun h => by
      obtain h0 | h0 := hp.1 y hy
      · rw [hx] at h0; cases h0
      · exact h0 (hx.trans h.symm)
    obtain rfl | hc' := List.mem_cons.mp hc
    · obtain rfl | hd' := List.mem_cons.mp hd
      · rfl
      · exact absurd hfd (apart hd' hfc)
    · obtain rfl | hd' := List.mem_cons.mp hd
      · exact absurd hfc (apart hc' hfd)
      · exact ih hp.2 hc' hd'

/-- At most one command holds a tag. -/
theorem Traffic.WF.eq_of_tag (h : t.WF) {n : Tag} (hc : c ∈ t.cmds) (hd : d ∈ t.cmds) (hct : c.tag = some n)
    (hdt : d.tag = some n) : c = d := eq_of_key h.tags hc hd hct hdt

/-- At most one command holds a drive tag. -/
theorem Traffic.WF.eq_of_driveTag (h : t.WF) {n : DriveTag} (hc : c ∈ t.cmds) (hd : d ∈ t.cmds)
    (hct : c.driveTag = some n) (hdt : d.driveTag = some n) : c = d := eq_of_key h.driveTags hc hd hct hdt

end Apart

/-! ## The operations -/

section Ops

variable {a b : Slot} {c d : Cmd}

/-- The slot's commands follow those of `a`. -/
abbrev Slot.CmdsKeep (a b : Slot) : Prop := CmdsFollow a.traffic.cmds b.traffic.cmds

theorem Slot.cmdsFollow_of_eq (h : b.traffic = a.traffic) : a.CmdsKeep b := by
  rw [Slot.CmdsKeep, h]
  exact .refl _

/-- The command at the drive under a tag. -/
theorem Cmd.atTag_iff (d : DriveTag) (c : Cmd) : c.atTag d = true ↔ c.state = .atDrive ∧ c.driveTag = some d := by
  simp [Cmd.atTag]

theorem mem_of_atTag {cs : List Cmd} {d : DriveTag} (h : cs.find? (Cmd.atTag d) = some c) :
    c ∈ cs ∧ c.state = .atDrive ∧ c.driveTag = some d :=
  ⟨List.mem_of_find?_eq_some h, (Cmd.atTag_iff d c).mp (List.find?_some h)⟩

/-! ### Cancelling -/

theorem Slot.finish_traffic (n : Option Nat) (sl : Slot) : (sl.finish n).traffic = sl.traffic := by simp

/-- What cancelling one posted write does to the commands: each follows, and none at the drive is posted under its tag. -/
theorem Slot.cancelPosted_follow (now : Nat) (c : Cmd) (sl : Slot) :
    sl.CmdsKeep (Slot.cancelPosted now sl c) ∧ (Slot.cancelPosted now sl c).traffic.heldTags = sl.traffic.heldTags ∧
      ∀ d ∈ (Slot.cancelPosted now sl c).traffic.cmds, d.posted = true → d.isAtDrive = true →
        d ∈ sl.traffic.cmds ∧ d.driveTag ≠ c.driveTag := by
  unfold Slot.cancelPosted
  dsimp only
  split
  · refine ⟨CmdsFollow.map fun d _ => ?_, rfl, fun e he hp ha => ?_⟩
    · split
      · rename_i hm
        simp only [Bool.and_eq_true, beq_iff_eq] at hm
        obtain ⟨⟨hp, hs⟩, -⟩ := hm
        exact ⟨rfl, rfl, .inr rfl, fun h => by simp [Cmd.isAtDrive] at h, fun h => by simp at h, fun _ => .inr hp,
          by simp [hs]⟩
      · exact .refl d
    · obtain ⟨d, hd, rfl⟩ := List.mem_map.mp he
      split at ha
      · simp [Cmd.isAtDrive] at ha
      · rename_i hm
        rw [if_neg hm] at hp ⊢
        rw [Cmd.isAtDrive_iff] at ha
        exact ⟨hd, fun h => hm (by simp [hp, ha, h])⟩
  · simp only [Slot.CmdsKeep, Slot.finish_traffic, Slot.modCmds_traffic, Slot.raise_traffic,
      (Slot.takeRun_frame now (c.wholeRun .writeFail) sl).2.2.2.2.2.2.2.2.1]
    refine ⟨.filter _ _, trivial, fun d hd hp ha => ?_⟩
    obtain ⟨hd, hm⟩ := List.mem_filter.mp hd
    rw [Cmd.isAtDrive_iff] at ha
    exact ⟨hd, fun h => by simp [hp, ha, h] at hm⟩

/-- Posted writes cancelled one after the other. -/
theorem Slot.cancelAll_follow (now : Nat) (cs : List Cmd) (sl : Slot) :
    sl.CmdsKeep (cs.foldl (Slot.cancelPosted now) sl) ∧
      (cs.foldl (Slot.cancelPosted now) sl).traffic.heldTags = sl.traffic.heldTags ∧
      ∀ d ∈ (cs.foldl (Slot.cancelPosted now) sl).traffic.cmds, d.posted = true → d.isAtDrive = true →
        d ∈ sl.traffic.cmds ∧ ∀ c ∈ cs, d.driveTag ≠ c.driveTag := by
  induction cs generalizing sl with
  | nil => exact ⟨.refl _, rfl, fun d hd _ _ => ⟨hd, by simp⟩⟩
  | cons c cs ih =>
    obtain ⟨h1, h2, h3⟩ := sl.cancelPosted_follow now c
    obtain ⟨g1, g2, g3⟩ := ih (Slot.cancelPosted now sl c)
    refine ⟨h1.trans g1, g2.trans h2, fun d hd hp ha => ?_⟩
    obtain ⟨hm, hcs⟩ := g3 d hd hp ha
    obtain ⟨hm', hc⟩ := h3 d hm hp ha
    exact ⟨hm', by simpa using ⟨hc, hcs⟩⟩

/-- A link reset leaves no command at the drive (R120). -/
theorem Act.linkReset_follow (i : SlotId) (now : Nat) (x : Act) :
    x.sl.CmdsKeep (x.linkReset i now).sl ∧ ∀ c ∈ (x.linkReset i now).sl.traffic.cmds, c.isAtDrive = false := by
  unfold Act.linkReset
  dsimp only [Act.say_sl, Act.mod_sl]
  rw [Slot.CmdsKeep, (Slot.finishes_frame _ _).2.2.2.2.2.2.1]
  obtain ⟨h1, -, h3⟩ := Slot.cancelAll_follow now ((x.sl.traffic.cmds.filter Cmd.isAtDrive).filter Cmd.posted)
    (((x.sl.modLink fun l =>
      { l with state := .resetting, upDeadline := some (now + Config.linkUpTime), out := l.out ++ [.linkReset] }
    ).modTiming fun t => { t with linkResets := satAdd Config.max32 t.linkResets 1 }).modTraffic fun t =>
    { t with jobs := t.jobs.filter Job.isCheck
             heldTags := t.heldTags ++ (x.sl.traffic.cmds.filter Cmd.isAtDrive).filterMap Cmd.driveTag })
  refine ⟨h1.trans (.filter _ _), fun c hc => ?_⟩
  obtain ⟨hc, hm⟩ := List.mem_filter.mp hc
  rw [Bool.eq_false_iff]
  intro ha
  have hp : c.posted = true := by
    cases hp : c.posted with
    | true => rfl
    | false => simp [ha, hp] at hm
  obtain ⟨hm, hcs⟩ := h3 c hc hp ha
  exact hcs c (List.mem_filter.mpr ⟨List.mem_filter.mpr ⟨hm, ha⟩, hp⟩) rfl

/-! ### Drive completions -/

theorem Act.completeRead_traffic (i : SlotId) (now : Nat) (t : Tag) (c : Cmd) (x : Act) :
    (x.completeRead i now t c).sl.traffic =
      { x.sl.traffic with cmds := x.sl.traffic.cmds.filter fun d => d.tag != some t } := by
  simp [Act.completeRead]

theorem Slot.completionEffect_traffic (c : Cmd) (status : DriveStatus) (ident : Identification) (sl : Slot) :
    (sl.completionEffect c status ident).traffic = sl.traffic := by
  unfold Slot.completionEffect
  repeat' split
  all_goals simp

/-- A command of the table taken from the drive, or with classes recorded, follows. -/
theorem CmdsFollow.replace {t : Traffic} (h : t.WF) (hc : c ∈ t.cmds) {n : Tag} (hct : c.tag = some n) (hk : c.Keeps d) :
    CmdsFollow t.cmds (t.cmds.map fun e => if e.tag == some n then d else e) := by
  refine .map fun e he => ?_
  split
  · rename_i hm
    rw [h.eq_of_tag he hc (by simpa using hm) hct]
    exact hk
  · exact .refl e

/-- A drive completion: commands follow, and no drive tag is kept back (R101, R110). -/
theorem Slot.completion_follow (i : SlotId) (now : Nat) (n : DriveTag) (status : DriveStatus) (data : List Block)
    (ident : Identification) {sl : Slot} (hwf : sl.traffic.WF)
    (hf : sl.traffic.cmds.find? (Cmd.atTag n) = some c) :
    sl.CmdsKeep ((Act.start sl).completion i now n c status data ident).sl ∧
      ((Act.start sl).completion i now n c status data ident).sl.traffic.heldTags = sl.traffic.heldTags := by
  obtain ⟨hc, hs, -⟩ := mem_of_atTag hf
  unfold Act.completion
  cases ht : c.tag with
  | none =>
    cases status <;> simp [Slot.CmdsKeep, Slot.postReturned, CmdsFollow.filter]
  | some t =>
    dsimp only
    split
    · unfold Act.readReturned
      dsimp only
      have hk (err : Option DriveError) (blocks : List Block) :
          c.Keeps { c with state := .checking, driveTag := none, deadline := none, driveError := err,
                           returned := blocks } :=
        ⟨rfl, rfl, .inl rfl, fun h => by simp [Cmd.isAtDrive] at h, fun h => by simp at h, fun h => by simp at h,
          by simp [hs]⟩
      have hrep := CmdsFollow.replace hwf hc ht (hk (detailOf status) (takeBlocks (returnedCount c (detailOf status)) data))
      split
      · rw [Slot.CmdsKeep, Act.completeRead_traffic]
        exact ⟨hrep.trans (.filter _ _), rfl⟩
      · exact ⟨hrep, rfl⟩
    · unfold Act.cmdReturned
      simp only [Slot.CmdsKeep, Act.say_sl, Act.mod_sl, Slot.completionEffect_traffic]
      simp [CmdsFollow.filter]

/-- A check burst: commands follow (R21). -/
theorem Slot.checkBurst_follow (i : SlotId) (now : Nat) (t : Tag) (j : Job) {sl : Slot} (hwf : sl.traffic.WF) :
    sl.CmdsKeep (((Act.start sl).mod (Slot.modJobs advanceJobs)).checkBurst i now t j).sl ∧
      (((Act.start sl).mod (Slot.modJobs advanceJobs)).checkBurst i now t j).sl.traffic.heldTags =
        sl.traffic.heldTags := by
  unfold Act.checkBurst
  split
  · exact ⟨.refl _, rfl⟩
  · rename_i c hf
    have hc := List.mem_of_find?_eq_some hf
    have ht : c.tag = some t := by simpa using List.find?_some hf
    dsimp only
    split
    · rw [Slot.CmdsKeep, Act.completeRead_traffic]
      exact ⟨.filter _ _, rfl⟩
    · have hk : c.Keeps { c with classes := c.classes ++ c.burstClasses j } :=
        ⟨rfl, rfl, .inr rfl, fun h => ⟨h, rfl, rfl, rfl, rfl⟩, .inl, .inl, .rfl⟩
      have hrep := CmdsFollow.replace hwf hc ht hk
      exact ⟨hrep, rfl⟩

/-! ### Issue and expiry -/

/-- The commands after an issue. -/
theorem Slot.issueCmd_traffic (now : Nat) (n : BitVec 8) (i : SlotId) (d : DriveTag) (before : List Cmd) (c : Cmd)
    (after : List Cmd) (sl : Slot) :
    (sl.issueCmd now n i d before c after).traffic =
      { sl.traffic with cmds := before ++ sl.issued now d c :: after, jobs := sl.traffic.jobs ++ sl.issueJobs d c } := by
  unfold Slot.issueCmd
  dsimp only
  repeat' split
  all_goals simp

theorem blocked_eq_false {before after : List Cmd} (h : blocked before c after = false) :
    (∀ e ∈ before, e.isAtDrive = true → c.conflicts e = false) ∧
      ∀ e ∈ after, e.isAtDrive = true → c.conflicts e = false := by
  simp only [blocked, Bool.or_eq_false_iff] at h
  obtain ⟨⟨⟨⟨h1, h2⟩, -⟩, -⟩, -⟩ := h
  rw [List.any_eq_false] at h1 h2
  refine ⟨fun e he ha => ?_, fun e he ha => ?_⟩
  · rw [Cmd.isAtDrive_iff] at ha
    simpa [Cmd.unfinished, ha] using h1 e he
  · rw [Cmd.isAtDrive_iff] at ha
    simpa [ha] using h2 e he

/-- A command that goes to the drive unblocked, under a free drive tag, joins the commands there (R97, R98, R100). -/
theorem Traffic.WF.issue {t u : Traffic} {before after : List Cmd} {n : DriveTag} (h : t.WF)
    (hs : t.cmds = before ++ c :: after) (hu : u.cmds = before ++ d :: after) (hh : u.heldTags = t.heldTags)
    (hb : blocked before c after = false) (hfree : ∀ e ∈ t.cmds, e.driveTag ≠ some n)
    (hheld : n ∉ t.heldTags) (htag : d.tag = c.tag) (hn : d.driveTag = some n)
    (hr : d.kind = c.kind ∧ d.addr = c.addr ∧ d.count = c.count) : u.WF := by
  obtain ⟨hb1, hb2⟩ := blocked_eq_false hb
  obtain ⟨tags, driveTags, overlap, tagged, held⟩ := h
  rw [hs] at tags driveTags overlap tagged held hfree
  rw [List.pairwise_append, List.pairwise_cons] at tags driveTags overlap
  obtain ⟨tags1, ⟨tags2, tags3⟩, tags4⟩ := tags
  obtain ⟨drive1, ⟨-, drive3⟩, drive4⟩ := driveTags
  obtain ⟨over1, ⟨-, over3⟩, over4⟩ := overlap
  have conflict (e : Cmd) : d.conflicts e = c.conflicts e := Cmd.conflicts_congr hr ⟨rfl, rfl, rfl⟩
  have other (e : Cmd) (he : e ∈ before ++ d :: after) : e = d ∨ e ∈ before ++ c :: after := by
    simp only [List.mem_append, List.mem_cons] at he ⊢
    tauto
  refine ⟨?_, ?_, ?_, fun e he ha => ?_, fun e he m ha hm => ?_⟩
  · rw [hu, List.pairwise_append, List.pairwise_cons]
    refine ⟨tags1, ⟨fun e he => htag ▸ tags2 e he, tags3⟩, fun e he f hf => ?_⟩
    obtain rfl | hf := List.mem_cons.mp hf
    · rw [htag]; exact tags4 e he c (by simp)
    · exact tags4 e he f (by simp [hf])
  · rw [hu, List.pairwise_append, List.pairwise_cons]
    refine ⟨drive1, ⟨fun e he => .inr ?_, drive3⟩, fun e he f hf => ?_⟩
    · rw [hn]; exact (hfree e (by simp [he])).symm
    · obtain rfl | hf := List.mem_cons.mp hf
      · rw [hn]; exact .inr (hfree e (by simp [he]))
      · exact drive4 e he f (by simp [hf])
  · rw [hu, List.pairwise_append, List.pairwise_cons]
    refine ⟨over1, ⟨fun e he _ ha => conflict e ▸ hb2 e he ha, over3⟩, fun e he f hf ha hfa => ?_⟩
    obtain rfl | hf := List.mem_cons.mp hf
    · rw [Cmd.conflicts_comm, conflict]; exact hb1 e he ha
    · exact over4 e he f (by simp [hf]) ha hfa
  · obtain rfl | he := other e (hu ▸ he)
    · simp [hn]
    · exact tagged e he ha
  · rw [hh]
    obtain rfl | he := other e (hu ▸ he)
    · rw [hn] at hm; cases hm; exact hheld
    · exact held e he m ha hm

/-- The slot before the reset that an expired deadline begins: the command that expired is gone, unless it is posted. -/
theorem Slot.expire_follow (i : SlotId) (now : Nat) (n : DriveTag) (c : Cmd) (sl : Slot) :
    sl.CmdsKeep ((Act.start sl).expire i now n c).sl ∧
      ∀ e ∈ ((Act.start sl).expire i now n c).sl.traffic.cmds, e.isAtDrive = false := by
  have hrun : (if c.hasRange then sl.takeRun now (c.wholeRun .timeout) else sl).traffic = sl.traffic := by
    split <;> simp
  unfold Act.expire
  cases c.tag with
  | none =>
    obtain ⟨h1, h2⟩ := Act.linkReset_follow i now ((Act.start sl).mod fun sl =>
      ((if c.hasRange then sl.takeRun now (c.wholeRun .timeout) else sl).modTiming fun q =>
        { q with timeouts := satAdd Config.max32 q.timeouts 1 }).raise .timeout)
    exact ⟨(Slot.cmdsFollow_of_eq hrun).trans h1, h2⟩
  | some t =>
    dsimp only
    obtain ⟨h1, h2⟩ := Act.linkReset_follow i now
      (Act.say [reply i t .timeout] ((Act.start sl).mod fun sl =>
        (((if c.hasRange then sl.takeRun now (c.wholeRun .timeout) else sl).modTiming fun q =>
          { q with timeouts := satAdd Config.max32 q.timeouts 1 }).raise .timeout |>.modTraffic fun q =>
          { cmds := q.cmds.filter fun e => e.tag != some t, heldTags := n :: q.heldTags
            jobs := q.jobs.filter fun j => !j.generatesFor n }).finish c.serial))
    refine ⟨CmdsFollow.trans ?_ h1, h2⟩
    simp only [Act.say_sl, Act.mod_sl, Act.start_sl, Slot.finish_traffic, Slot.modTraffic_traffic, Slot.raise_traffic,
      Slot.modTiming_traffic, hrun]
    exact .filter _ _

end Ops

/-! ### Admission -/

/-- A data command as the slot takes it: a posted write without its tag, in its pass (R107, R108). -/
def Slot.accepted (sl : Slot) (c : Cmd) : Cmd :=
  if sl.posts c then { c with tag := none, serial := sl.joinSerial c } else c

theorem Slot.accept_traffic (i : SlotId) (c : Cmd) (sl : Slot) :
    ((Act.start sl).accept i c).sl.traffic =
      { sl.traffic with cmds := sl.traffic.cmds ++ [sl.accepted c] } := by
  unfold Act.accept Slot.accepted
  rw [Act.start_sl]
  split <;> simp

/-! ## The steps -/

section Steps

variable {a b : Slot}

/-- Requeued writes follow (R113). -/
theorem Slot.requeue_follow (sl : Slot) : sl.CmdsKeep sl.requeue := by
  refine CmdsFollow.map fun c _ => ?_
  split
  · rename_i hs
    exact ⟨rfl, rfl, .inl rfl, fun h => by simp [Cmd.isAtDrive] at h, fun _ => .inr (.inl hs), fun h => by simp at h,
      by simp [hs]⟩
  · exact .refl c

theorem Slot.tagFree_iff (sl : Slot) (d : DriveTag) :
    sl.tagFree d = true ↔ d ∉ sl.traffic.heldTags ∧ ∀ c ∈ sl.traffic.cmds, c.driveTag ≠ some d := by
  simp [Slot.tagFree]

theorem Slot.tagBusy_eq_false (sl : Slot) (t : Tag) :
    sl.tagBusy t = false ↔ ∀ c ∈ sl.traffic.cmds, c.tag ≠ some t := by
  simp [Slot.tagBusy]

/-- The commands and the tags kept back of a slot that completes a release. -/
theorem Slot.release_traffic (bins : List BinEntry) (sl : Slot) : (sl.release bins).traffic = sl.traffic := by
  unfold Slot.release
  dsimp only
  split <;> rfl

theorem Slot.Op.trafficWF (h : a.Op b) (ha : a.traffic.WF) : b.traffic.WF := by
  cases h with
  | touch h => rw [h.traffic]; exact ha
  | @accept i r k hk hc h =>
    have hfree := (a.tagBusy_eq_false _).mp (Slot.tagFree_of_admitted h)
    rw [Slot.accept_traffic]
    refine ha.append (c := a.accepted (r.toCmd k (a.classFor r))) ?_ ?_ ?_ rfl rfl
    all_goals unfold Slot.accepted; split
    · exact .inl rfl
    · exact .inr fun d hd => hfree d hd
    all_goals rfl
  | @holdRead r hb h =>
    exact ha.append (.inr fun d hd => (a.tagBusy_eq_false _).mp hb d hd) rfl rfl rfl rfl
  | adopt _ => simpa using ha
  | startPass write endless _ _ _ => cases write <;> exact ha
  | hold _ => exact ha
  | resume _ => simpa [Slot.setPhase] using ha
  | abort _ => exact ha
  | endSoak _ => exact ha
  | abortShip _ => simpa [Slot.setPhase] using ha
  | soak w _ => exact ha
  | close _ _ => exact ha
  | ship _ _ => simpa [Slot.setPhase, Slot.armShip, Slot.armZones] using ha
  | release bins _ => rw [Slot.release_traffic]; exact ha
  | completeRelease bins _ _ => exact ha
  | resetSlot i t now default _ _ => simpa [Act.resetSlot, Slot.clearRecords, Traffic.empty] using Traffic.wf_empty
  | issue now number i hu hd hs hw hb =>
    rw [Slot.issueCmd_traffic]
    obtain ⟨hheld, hfree⟩ := (a.tagFree_iff _).mp hd
    exact ha.issue hs rfl rfl hb hfree hheld rfl rfl ⟨rfl, rfl, rfl⟩
  | @guardFail i now before c after hs _ =>
    have hsub : CmdsFollow a.traffic.cmds (before ++ after) := by
      rw [hs]
      exact .of_sublist ((List.sublist_cons_self c after).append_left before)
    unfold Act.guardFail
    split
    · exact ha.follow_held hsub rfl
    · exact ha.follow_held (by simpa using hsub) (by simp)
  | complete i now status data ident hf =>
    obtain ⟨h1, h2⟩ := Slot.completion_follow i now _ status data ident ha hf
    exact ha.follow_held h1 h2
  | generated d g => exact ha.of_eq rfl rfl
  | checked i now t j =>
    obtain ⟨h1, h2⟩ := Slot.checkBurst_follow i now t j ha
    exact ha.follow_held h1 h2
  | expire i now hf =>
    obtain ⟨h1, h2⟩ := a.expire_follow i now _ _
    exact ha.follow_noDrive h1 h2
  | loseLink i now _ _ =>
    obtain ⟨h1, h2⟩ := Act.linkReset_follow i now (Act.start a)
    exact ha.follow_noDrive h1 h2
  | dropLink _ _ => exact ha
  | resetDone _ _ => exact ha
  | requeue => exact ha.follow a.requeue_follow fun _ _ _ _ _ hm => by cases hm
  | cameUp _ _ => exact ha
  | attach now default _ _ _ =>
    refine ha.follow_held (.filter (fun c => !c.posted) _) ?_
    simp [Slot.attach, Slot.clearRecords]
  | afterSample => simpa using ha

theorem Slot.faulted_traffic (i : SlotId) (now : Nat) (bins : List BinEntry) (cause : FaultCause) (sl : Slot) :
    (sl.faulted i now bins cause).traffic = .empty := by
  unfold Slot.faulted
  dsimp only
  split <;> simp [Traffic.empty]

theorem Slot.GradeOp.trafficWF (h : a.GradeOp b) (ha : a.traffic.WF) : b.traffic.WF := by
  cases h with
  | queued _ _ => exact ha
  | faulted i now bins _ _ => rw [Slot.faulted_traffic]; exact Traffic.wf_empty
  | tripped i now bins _ =>
    unfold Slot.tripped
    rw [Slot.raise_traffic]
    split
    · exact ha
    · rw [Slot.faulted_traffic]; exact Traffic.wf_empty
  | graded i g => exact ha.follow_held (.filter Cmd.isData _) rfl

theorem Slot.Change.trafficWF (h : a.Change b) (ha : a.traffic.WF) : b.traffic.WF := by
  cases h with
  | op h => exact h.trafficWF ha
  | grade h => exact h.trafficWF ha
  | computing => exact ha
  | granted => exact ha.of_eq rfl rfl
  | emptied lines default => exact Traffic.wf_empty
  | reset default lines =>
    unfold Slot.shelfReset
    dsimp only
    split
    · refine Traffic.wf_empty.of_eq ?_ ?_
      all_goals simp [Slot.attach, Slot.clearRecords, Slot.emptied, Traffic.empty]
    · exact Traffic.wf_empty

end Steps

/-- Settles O55: in every operation the commands of a slot follow those it had, but for one that joins under a free tag
and one that goes to the drive unblocked. -/
theorem overlappingWritesNeverMeetAtTheDrive : Obligations.OverlappingWritesNeverMeetAtTheDrive := by
  intro s t hs h
  exact step_keeps_slots Slot.Change.trafficWF h hs

end Sys2Proof.Machine


/-! PROOFS. The engine works one burst (R20, R21): what becomes of a slot's jobs in every operation, and that only a grant
begins a burst. -/

namespace Sys2Proof.Machine

open Relation

/-! ## Jobs -/

/-- Only the oldest job is under way, and each burst is within its job. -/
structure JobsOk (js : List Job) : Prop where
  oldest : ∀ j ∈ js.tail, j.granted = 0
  within : ∀ j ∈ js, j.done + j.granted ≤ j.total ∧ j.granted ≤ Config.burstBlocks

/-- What an event does to a slot's jobs: some are dropped, new ones join behind, or the burst under way ends. -/
inductive JobsStep : List Job → List Job → Prop
  | drop {js ks : List Job} (h : ks.Sublist js) : JobsStep js ks
  | join {js ks : List Job} (h : ∀ k ∈ ks, k.granted = 0 ∧ k.done = 0) : JobsStep js (js ++ ks)
  | advance {js : List Job} : JobsStep js (advanceJobs js)

section Jobs

variable {js ks : List Job}

theorem JobsStep.same (h : ks = js) : JobsStep js ks := .drop (h ▸ List.Sublist.refl _)

theorem advanceJobs_idle (h : ∀ j ∈ js, j.granted = 0) : advanceJobs js = js := by
  induction js with
  | nil => rfl
  | cons j js ih =>
    rw [advanceJobs, if_pos (h j (by simp)), ih fun k hk => h k (by simp [hk])]

/-- A job after its event: it stands among the old ones, is new, or is the oldest moved on; in no case has its burst
begun. -/
theorem JobsStep.mem (h : JobsStep js ks) (hok : JobsOk js) : ∀ k ∈ ks,
    k ∈ js ∨ k.granted = 0 ∧ (k.done = 0 ∨ k.done ≤ k.total) := by
  intro k hk
  cases h with
  | drop h => exact .inl (h.subset hk)
  | join h =>
    obtain hk | hk := List.mem_append.mp hk
    · exact .inl hk
    · exact .inr ⟨(h k hk).1, .inl (h k hk).2⟩
  | advance =>
    cases js with
    | nil => cases hk
    | cons j js =>
      have hidle := advanceJobs_idle hok.oldest
      rw [List.tail_cons] at hidle
      simp only [advanceJobs, hidle] at hk
      split at hk
      · exact .inl hk
      · split at hk
        · exact .inl (by simp [hk])
        · obtain rfl | hk := List.mem_cons.mp hk
          · exact .inr ⟨rfl, .inr (hok.within j (by simp)).1⟩
          · exact .inl (by simp [hk])

theorem JobsStep.ok (h : JobsStep js ks) (hok : JobsOk js) : JobsOk ks := by
  refine ⟨?_, fun k hk => ?_⟩
  · cases h with
    | drop h => exact fun j hj => hok.oldest j (h.tail.subset hj)
    | join h =>
      cases js with
      | nil => exact fun j hj => (h j (List.mem_of_mem_tail hj)).1
      | cons x xs =>
        intro j hj
        obtain hj | hj := List.mem_append.mp hj
        · exact hok.oldest j hj
        · exact (h j hj).1
    | advance =>
      cases js with
      | nil => exact nofun
      | cons j js =>
        have hidle := advanceJobs_idle hok.oldest
        rw [List.tail_cons] at hidle
        simp only [advanceJobs, hidle]
        split
        · exact hok.oldest
        · split
          · exact fun k hk => hok.oldest k (List.mem_of_mem_tail hk)
          · exact hok.oldest
  · obtain hk | ⟨h1, h2⟩ := h.mem hok k hk
    · exact hok.within k hk
    · rw [h1]
      exact ⟨by omega, Nat.zero_le _⟩

theorem Slot.burst_isSome (sl : Slot) : sl.burst.isSome = true ↔ ∃ j ∈ sl.traffic.jobs, j.granted ≠ 0 := by
  simp [Slot.burst]

end Jobs

/-! ## Jobs in every operation -/

section Steps

variable {a b : Slot}

theorem Slot.cancelPosted_jobs (now : Nat) (c : Cmd) (sl : Slot) :
    (Slot.cancelPosted now sl c).traffic.jobs = sl.traffic.jobs := by
  unfold Slot.cancelPosted
  dsimp only
  split <;> simp

theorem Slot.cancelAll_jobs (now : Nat) (cs : List Cmd) (sl : Slot) :
    (cs.foldl (Slot.cancelPosted now) sl).traffic.jobs = sl.traffic.jobs := by
  induction cs generalizing sl with
  | nil => rfl
  | cons c cs ih => exact (ih _).trans (Slot.cancelPosted_jobs now c sl)

/-- A link reset drops the generation jobs (R19, R120). -/
theorem Act.linkReset_jobs (i : SlotId) (now : Nat) (x : Act) :
    (x.linkReset i now).sl.traffic.jobs = x.sl.traffic.jobs.filter Job.isCheck := by
  simp [Act.linkReset, Slot.cancelAll_jobs]

theorem Slot.expire_jobs (i : SlotId) (now : Nat) (d : DriveTag) (c : Cmd) (sl : Slot) :
    JobsStep sl.traffic.jobs ((Act.start sl).expire i now d c).sl.traffic.jobs := by
  have hrun : (if c.hasRange then sl.takeRun now (c.wholeRun .timeout) else sl).traffic = sl.traffic := by
    split <;> simp
  unfold Act.expire
  rw [Act.linkReset_jobs]
  cases c.tag with
  | none =>
    refine .drop ?_
    simp [hrun]
  | some t =>
    refine .drop (List.filter_sublist.trans ?_)
    simp [hrun]

theorem Slot.completion_jobs (i : SlotId) (now : Nat) (d : DriveTag) (c : Cmd) (status : DriveStatus)
    (data : List Block) (ident : Identification) (sl : Slot) :
    JobsStep sl.traffic.jobs ((Act.start sl).completion i now d c status data ident).sl.traffic.jobs := by
  unfold Act.completion
  cases c.tag with
  | none =>
    refine .same ?_
    cases status <;> simp [Slot.postReturned]
  | some t =>
    dsimp only
    split
    · unfold Act.readReturned
      dsimp only
      split
      · refine .same ?_
        rw [Act.completeRead_traffic]
        rfl
      · exact .join (by simp)
    · refine .same ?_
      simp [Act.cmdReturned, Slot.completionEffect_traffic]

theorem Slot.checkBurst_jobs (i : SlotId) (now : Nat) (t : Tag) (j : Job) (sl : Slot) :
    (((Act.start sl).mod (Slot.modJobs advanceJobs)).checkBurst i now t j).sl.traffic.jobs =
      advanceJobs sl.traffic.jobs := by
  unfold Act.checkBurst
  split
  · rfl
  · dsimp only
    split
    · rw [Act.completeRead_traffic]
      rfl
    · rfl

theorem Slot.Op.jobsStep (h : a.Op b) : JobsStep a.traffic.jobs b.traffic.jobs := by
  cases h with
  | touch h => exact .same (by rw [h.traffic])
  | accept i hk hc h => exact .same (by rw [Slot.accept_traffic])
  | holdRead _ _ => exact .same rfl
  | adopt _ => exact .same (by simp)
  | startPass write endless _ _ _ => exact .same (by cases write <;> rfl)
  | hold _ => exact .same rfl
  | resume _ => exact .same (by simp [Slot.setPhase])
  | abort _ => exact .same rfl
  | endSoak _ => exact .same rfl
  | abortShip _ => exact .same (by simp [Slot.setPhase])
  | soak w _ => exact .same rfl
  | close _ _ => exact .same rfl
  | ship _ _ => exact .same (by simp [Slot.setPhase, Slot.armShip, Slot.armZones])
  | release bins _ => exact .same (by rw [Slot.release_traffic])
  | completeRelease bins _ _ => exact .same rfl
  | resetSlot i t now default _ _ =>
    refine .drop ?_
    simp [Act.resetSlot, Slot.clearRecords, Traffic.empty]
  | issue now number i hu hd hs hw hb =>
    rw [Slot.issueCmd_traffic]
    refine .join fun k hk => ?_
    unfold Slot.issueJobs at hk
    split at hk
    · rw [List.mem_singleton.mp hk]
      exact ⟨rfl, rfl⟩
    · cases hk
  | guardFail i now _ _ =>
    unfold Act.guardFail
    split
    · exact .same rfl
    · exact .same (by simp)
  | complete i now status data ident hf => exact Slot.completion_jobs _ _ _ _ _ _ _ _
  | generated d g => exact .advance
  | checked i now t j => rw [Slot.checkBurst_jobs]; exact .advance
  | expire i now hf => exact Slot.expire_jobs _ _ _ _ _
  | loseLink i now _ _ => rw [Act.linkReset_jobs]; exact .drop List.filter_sublist
  | dropLink _ _ => exact .same rfl
  | resetDone _ _ => exact .same rfl
  | requeue => exact .same rfl
  | cameUp _ _ => exact .same rfl
  | attach now default _ _ _ => exact .same (by simp [Slot.attach, Slot.clearRecords])
  | afterSample => exact .same (by simp)

theorem Slot.GradeOp.jobsStep (h : a.GradeOp b) : JobsStep a.traffic.jobs b.traffic.jobs := by
  cases h with
  | queued _ _ => exact .same rfl
  | faulted i now bins _ _ => rw [Slot.faulted_traffic]; exact .drop (List.nil_sublist _)
  | tripped i now bins _ =>
    unfold Slot.tripped
    rw [Slot.raise_traffic]
    split
    · exact .same rfl
    · rw [Slot.faulted_traffic]; exact .drop (List.nil_sublist _)
  | graded i g => exact .same rfl

/-- The jobs of a slot stay in order, and no burst of it begins. -/
def Slot.NoNewBurst (a b : Slot) : Prop :=
  JobsOk a.traffic.jobs → JobsOk b.traffic.jobs ∧ (b.burst.isSome = true → a.burst.isSome = true)

theorem JobsStep.noNewBurst (h : JobsStep a.traffic.jobs b.traffic.jobs) : a.NoNewBurst b := by
  refine fun hok => ⟨h.ok hok, ?_⟩
  rw [Slot.burst_isSome, Slot.burst_isSome]
  rintro ⟨j, hj, hg⟩
  obtain hj | ⟨h0, -⟩ := h.mem hok j hj
  · exact ⟨j, hj, hg⟩
  · exact absurd h0 hg

theorem Slot.NoNewBurst.trans {c : Slot} (h : a.NoNewBurst b) (g : b.NoNewBurst c) : a.NoNewBurst c := fun hok =>
  ⟨(g (h hok).1).1, fun hc => (h hok).2 ((g (h hok).1).2 hc)⟩

variable {s t : State} {i : SlotId}

theorem State.Move.noNewBurst (h : State.Move i s t) (j : SlotId) : (s.slot j).NoNewBurst (t.slot j) := by
  obtain ⟨m, hm, ht⟩ := h.slot_cases j
  have h1 : (s.slot j).NoNewBurst m := by
    obtain rfl | h | h := hm
    · exact fun hok => ⟨hok, id⟩
    · exact h.jobsStep.noNewBurst
    · exact h.jobsStep.noNewBurst
  refine h1.trans ?_
  obtain ht | ht := ht
  · rw [ht]; exact fun hok => ⟨hok, id⟩
  · rw [ht]; exact fun hok => ⟨hok, id⟩

theorem State.Moves.noNewBurst (h : State.Moves i s t) (j : SlotId) : (s.slot j).NoNewBurst (t.slot j) := by
  induction h with
  | refl => exact fun hok => ⟨hok, id⟩
  | tail _ hm ih => exact ih.trans (hm.noNewBurst j)

/-- A carrier's removal leaves its slot no traffic, and every other slot its own (R133). -/
theorem State.removeCarrier_traffic (s : State) (i j : SlotId) :
    ((s.removeCarrier i).slot j).traffic = if j = i then .empty else (s.slot j).traffic := by
  split
  · rename_i hj
    subst hj
    have he : ((s.emptySlot j).slot j).traffic = .empty :=
      congrArg Slot.traffic (State.slot_setSlot s j _)
    rw [State.removeCarrier_eq]
    obtain ⟨-, h⟩ | ⟨-, h⟩ := (s.emptySlot j).abandon_cases j
    · rw [h, he]
    · rw [h]
      obtain h | ⟨i, rest, -, h⟩ := (s.emptySlot j).unitIdle.startNext_cases
      · rw [h]; exact he
      · rw [h, State.slot_setSlot_eq]
        split
        · rename_i hij
          subst hij
          exact he
        · exact he
  · rename_i hj
    obtain h | ⟨-, h⟩ := State.beside_removeCarrier.slots j hj
    · rw [h]
    · rw [h]; rfl

theorem Slot.noNewBurst_of_empty (h : b.traffic.jobs = []) : a.NoNewBurst b := fun _ =>
  ⟨by rw [h]; exact ⟨nofun, nofun⟩, by rw [Slot.burst_isSome, h]; simp⟩

/-- What begins no burst keeps the engine at one. -/
theorem State.OneBurst.of_noNewBurst (h : s.OneBurst) (hn : ∀ j, (s.slot j).NoNewBurst (t.slot j)) : t.OneBurst := by
  have ok (j : SlotId) := hn j ⟨h.oldest j, h.within j⟩
  exact ⟨fun i j hi hj => h.single i j ((ok i).2 hi) ((ok j).2 hj), fun i => (ok i).1.oldest, fun i => (ok i).1.within⟩

/-- A grant puts the oldest job of one slot under way. -/
theorem grantOldest_ok {js : List Job} (h : JobsOk js) : JobsOk (grantOldest js) := by
  cases js with
  | nil => exact h
  | cons j js =>
    refine ⟨h.oldest, fun k hk => ?_⟩
    obtain rfl | hk := List.mem_cons.mp hk
    · have := h.within j (by simp)
      simp only [Config.burstBlocks] at this ⊢
      omega
    · exact h.within k (by simp [hk])

theorem State.OneBurst.grant (h : s.OneBurst) : s.grant.OneBurst := by
  obtain hg | ⟨w, hidle, -, hg⟩ := s.grant_cases
  · rw [hg]; exact h
  · have hslot (j : SlotId) : s.grant.slot j = if j = w then (s.slot w).modJobs grantOldest else s.slot j := by
      rw [hg]
      exact State.slot_setSlot_eq s w j _
    have only (j : SlotId) (hj : (s.grant.slot j).burst.isSome = true) : j = w := by
      by_contra hne
      rw [hslot, if_neg hne] at hj
      obtain ⟨k, hk, hgk⟩ := (Slot.burst_isSome _).mp hj
      exact hgk (s.engineIdle_iff.mp hidle j k hk)
    have ok (j : SlotId) : JobsOk (s.grant.slot j).traffic.jobs := by
      rw [hslot]
      split
      · exact grantOldest_ok ⟨h.oldest w, h.within w⟩
      · exact ⟨h.oldest j, h.within j⟩
    exact ⟨fun i j hi hj => (only i hi).trans (only j hj).symm, fun i => (ok i).oldest, fun i => (ok i).within⟩

end Steps

/-- Settles O59: only a grant of the idle engine begins a burst. -/
theorem engineWorksOneBurst : Obligations.EngineWorksOneBurst := by
  intro s t hs h
  unfold step at h
  split at h
  · cases h
    exact hs.of_noNewBurst fun j hok => ⟨hok, id⟩
  · rename_i c rest _
    have hs' : ({ s with pending := rest } : State).OneBurst := ⟨hs.single, hs.oldest, hs.within⟩
    cases exec_follows h with
    | moves _ ho hm =>
      refine hs'.of_noNewBurst fun j => ?_
      rw [← State.slot_congr ho.slots j]
      exact hm.noNewBurst j
    | grant _ ht => rw [ht]; exact hs'.grant
    | @remove i _ _ ht =>
      subst ht
      refine hs'.of_noNewBurst fun j => ?_
      have htr := State.removeCarrier_traffic { s with pending := rest } i j
      split at htr
      · exact Slot.noNewBurst_of_empty (by rw [htr]; rfl)
      · exact (JobsStep.same (by rw [htr])).noNewBurst
    | @reset lines memory _ ht =>
      subst ht
      refine hs'.of_noNewBurst fun j => Slot.noNewBurst_of_empty ?_
      rw [State.shelfReset_slot]
      unfold Slot.shelfReset
      dsimp only
      split
      · simp [Slot.attach, Slot.clearRecords, Slot.emptied, Traffic.empty]
      · rfl

end Sys2Proof.Machine


/-! PROOFS. The life of a slot (R43, R126, R128, R133, R143, R148, R150, R155, R165, R168): the invariant read phase by
phase, and what each operation makes of it. -/

namespace Sys2Proof.Machine

open Relation

/-! ## The invariant, phase by phase -/

/-- The pass of a slot in phase `ph` (R43, R159). -/
def PassFits (kind : PassKind) (st : PassState) : Phase → Prop
  | .running => st = .running ∧ (kind = .write ∨ kind = .read)
  | .held => st = .held ∧ (kind = .write ∨ kind = .read)
  | .shipping => st ≠ .held ∧ (st = .running → kind = .ship) ∧ (kind = .none → st = .none)
  | .empty | .attaching | .ready | .soak | .grading | .graded | .shipped | .released | .faulted =>
    st ≠ .running ∧ st ≠ .held ∧ (kind = .none → st = .none)

/-- The closed flag, the grade record and the grading step of a slot in phase `ph` (R146, R150, R155, R157). -/
def GradeFits (closed : Bool) (grade : Option GradeRecord) (step : GradingStep) : Phase → Prop
  | .empty | .attaching | .ready | .running | .held | .soak => closed = false ∧ grade = none ∧ step = .none
  | .grading =>
    (closed = false ∧ grade = none ∧ (step = .draining ∨ step = .queued)) ∨
      (closed = true ∧ grade = none ∧ step = .computing)
  | .graded | .shipping | .shipped => closed = true ∧ grade.isSome = true ∧ step = .none
  | .released | .faulted =>
    (closed = false ∧ grade = none ∧ step = .none) ∨
      (closed = true ∧ (step = .none ∨ (step = .computing ∧ grade = none)))

/-- Power, cause and carrier of a slot in phase `ph` (R128, R143). -/
def PowerFits (cause : Option FaultCause) (power carrier : Bool) : Phase → Prop
  | .empty | .released => power = false
  | .faulted => cause.isSome = true ∧ (power = true ↔ cause ≠ some .trip) ∧ (power = true → carrier = true)
  | .attaching | .ready | .running | .held | .soak | .grading | .graded | .shipping | .shipped =>
    power = true ∧ carrier = true

/-- Release and verdict of a slot in phase `ph` (R165, R166, R168). -/
def ReleaseFits (pending : Bool) (verdict : Verdict) : Phase → Prop
  | .graded | .shipped => verdict = .none
  | .released => pending = false ∧ verdict ≠ .none
  | .empty | .attaching | .ready | .running | .held | .soak | .grading | .shipping | .faulted =>
    pending = false ∧ verdict = .none

/-- The link of a slot under its power and its link-up deadline (R120, R122, R123, R128). -/
def LinkFits (power : Bool) (l : Link) : Prop :=
  (power = false → l.state = .down) ∧ (l.state = .resetting ↔ l.upDeadline.isSome = true)

/-- The slot has a command at the drive. -/
def Slot.DriveBusy (sl : Slot) : Prop := ∃ c ∈ sl.traffic.cmds, c.isAtDrive = true

/-- The supervisor's, pass's and closing records of a slot fit its phase. -/
structure Slot.RecordsFit (sl : Slot) : Prop where
  pass    : PassFits sl.pass.kind sl.pass.state sl.sup.phase
  grade   : GradeFits sl.sup.closed sl.closing.grade sl.closing.step sl.sup.phase
  power   : PowerFits sl.sup.cause sl.sup.power sl.sup.carrier sl.sup.phase
  release : ReleaseFits sl.closing.releasePending sl.closing.verdict sl.sup.phase

/-- The link and the commands of a slot fit its phase. -/
structure Slot.DriveFits (sl : Slot) : Prop where
  link    : LinkFits sl.sup.power sl.link
  quiet   : sl.sup.phase.down = true → sl.quiet = true
  atDrive : sl.DriveBusy → sl.link.state = .up

theorem passFits_iff (kind : PassKind) (st : PassState) (ph : Phase) : PassFits kind st ph ↔
    (ph = .running ↔ st = .running ∧ (kind = .write ∨ kind = .read)) ∧ (ph = .held ↔ st = .held) ∧
      (st = .held → kind = .write ∨ kind = .read) ∧ (st = .running → kind = .ship → ph = .shipping) ∧
      (kind = .none → st = .none) := by
  cases ph <;> cases kind <;> cases st <;> simp [PassFits]

theorem gradeFits_iff (closed : Bool) (grade : Option GradeRecord) (step : GradingStep) (ph : Phase) :
    GradeFits closed grade step ph ↔
      (closed = true → ph.closable = true) ∧
      (ph = .graded ∨ ph = .shipping ∨ ph = .shipped → closed = true ∧ grade.isSome = true ∧ step = .none) ∧
      (closed = false → grade = none) ∧ (step = .draining ∨ step = .queued → ph = .grading ∧ closed = false) ∧
      (step = .computing → closed = true ∧ grade = none) ∧ (ph = .grading → step ≠ .none) := by
  cases ph <;> cases closed <;> cases step <;> simp [GradeFits, Phase.closable]

theorem powerFits_iff (cause : Option FaultCause) (power carrier : Bool) (ph : Phase) :
    PowerFits cause power carrier ph ↔
      (ph = .faulted → cause.isSome = true) ∧
      (power = true ↔ ph ≠ .empty ∧ ph ≠ .released ∧ ¬(ph = .faulted ∧ cause = some .trip)) ∧
      (power = true → carrier = true) := by
  cases ph <;> simp +contextual [PowerFits]

theorem releaseFits_iff (pending : Bool) (verdict : Verdict) (ph : Phase) :
    ReleaseFits pending verdict ph ↔
      (pending = true → ph = .graded ∨ ph = .shipped) ∧ (verdict ≠ .none ↔ ph = .released) := by
  cases ph <;> simp [ReleaseFits]

theorem Slot.lifecycle_iff (sl : Slot) : sl.Lifecycle ↔ sl.RecordsFit ∧ sl.DriveFits := by
  constructor
  · intro h
    exact ⟨⟨(passFits_iff _ _ _).mpr ⟨h.running, h.held, h.heldKind, h.shipping, h.kindNone⟩,
      (gradeFits_iff _ _ _ _).mpr ⟨h.closed, h.graded, h.unclosed, h.waiting, h.computing, h.grading⟩,
      (powerFits_iff _ _ _ _).mpr ⟨h.cause, h.power, h.carrier⟩, (releaseFits_iff _ _ _).mpr ⟨h.pending, h.verdict⟩⟩,
      ⟨⟨h.link, h.resetting⟩, h.quiet, h.atDrive⟩⟩
  · rintro ⟨⟨hpass, hgrade, hpower, hrelease⟩, ⟨hlink, hresetting⟩, hquiet, hdrive⟩
    obtain ⟨running, held, heldKind, shipping, kindNone⟩ := (passFits_iff _ _ _).mp hpass
    obtain ⟨closed, graded, unclosed, waiting, computing, grading⟩ := (gradeFits_iff _ _ _ _).mp hgrade
    obtain ⟨cause, power, carrier⟩ := (powerFits_iff _ _ _ _).mp hpower
    obtain ⟨pending, verdict⟩ := (releaseFits_iff _ _ _).mp hrelease
    exact ⟨running, held, heldKind, shipping, kindNone, closed, graded, unclosed, waiting, computing, grading, pending,
      verdict, cause, hquiet, power, carrier, hlink, hresetting, hdrive⟩

/-! ## Going on -/

section Life

variable {a b m : Slot}

/-- How a slot's phase goes on while commands end. -/
theorem PassEnd.phase {k : PassKind} {s1 s2 : PassState} {p1 p2 : Phase} (h : PassEnd k s1 p1 s2 p2)
    (hf : PassFits k s1 p1) :
    PassFits k s2 p2 ∧ (p2 = p1 ∨ (p1 = .running ∧ p2 = .ready) ∨ (p1 = .shipping ∧ p2 = .shipped)) := by
  cases h with
  | same => exact ⟨hf, .inl rfl⟩
  | done hk =>
    have hp : p1 = .running := ((passFits_iff _ _ _).mp hf).1.mpr ⟨rfl, hk⟩
    subst hp
    exact ⟨⟨by simp, by simp, by obtain rfl | rfl := hk <;> simp⟩, .inr (.inl ⟨rfl, rfl⟩)⟩
  | wiped hk =>
    obtain ⟨-, -, -, h4, h5⟩ := (passFits_iff _ _ _).mp hf
    obtain rfl | rfl := hk
    · obtain rfl := h4 rfl rfl
      exact ⟨⟨by simp, by simp, by simp⟩, .inl rfl⟩
    · cases h5 rfl
  | shipped hk hs =>
    subst hk
    exact ⟨⟨by simp, by simp, by simp⟩, .inr (.inr ⟨rfl, rfl⟩)⟩

/-- The records of a slot go on to fit its phase. -/
theorem Slot.RecordsFit.continues (h : a.RecordsFit) (hc : a.Continues b) : b.RecordsFit := by
  obtain ⟨hpass, hgrade, hpower, hrelease⟩ := h
  obtain ⟨hpass', hphase⟩ := hc.ends.phase hpass
  have hclosing := hc.closing
  have hsup := hc.sup
  have hkind := hc.kind
  constructor
  · rw [hkind]; exact hpass'
  all_goals
    rw [hsup]
    try rw [hclosing]
    obtain hp | ⟨hq, hp⟩ | ⟨hq, hp⟩ := hphase
  · rw [hp]; exact hgrade
  · rw [hp]; rw [hq] at hgrade; exact hgrade
  · rw [hp]; rw [hq] at hgrade; exact hgrade
  · rw [hp]; exact hpower
  · rw [hp]; rw [hq] at hpower; exact hpower
  · rw [hp]; rw [hq] at hpower; exact hpower
  · rw [hp]; exact hrelease
  · rw [hp]; rw [hq] at hrelease; exact hrelease
  · rw [hp]; rw [hq] at hrelease; exact hrelease.2

/-- A slot that goes on is down only if it was. -/
theorem Slot.Continues.down (hc : a.Continues b) (h : a.RecordsFit) (hd : b.sup.phase.down = true) :
    b.sup.phase = a.sup.phase := by
  obtain ⟨-, hp | ⟨-, hp⟩ | ⟨-, hp⟩⟩ := hc.ends.phase h.pass
  · exact hp
  · rw [hp] at hd; cases hd
  · rw [hp] at hd; cases hd

/-- The two facts about commands that the life of a slot needs: control commands stay alone, and none goes to the drive. -/
structure Slot.CalmsTo (a b : Slot) : Prop where
  quiet : a.quiet = true → b.quiet = true
  drive : b.DriveBusy → a.DriveBusy

theorem Slot.CalmsTo.of_eq (h : b.traffic.cmds = a.traffic.cmds) : a.CalmsTo b := by
  refine ⟨fun hq => ?_, fun hd => ?_⟩
  · rw [Slot.quiet, h]; exact hq
  · rw [Slot.DriveBusy, h] at hd; exact hd

theorem Slot.CalmsTo.of_keep (h : a.CmdsKeep b) : a.CalmsTo b := by
  refine ⟨fun hq => ?_, fun ⟨d, hd, hda⟩ => ?_⟩
  · rw [Slot.quiet_iff] at hq ⊢
    intro d hd
    obtain ⟨c, hc, hk⟩ := h.mem d hd
    exact hk.responder.mpr (hq c hc)
  · obtain ⟨c, hc, hk⟩ := h.mem d hd
    exact ⟨c, hc, (hk.atDrive hda).1⟩

/-- What has no command at the drive, and only control commands where there were no others, calms. -/
theorem Slot.CalmsTo.of_none (hq : a.quiet = true → b.quiet = true) (hn : ∀ c ∈ b.traffic.cmds, c.isAtDrive = false) :
    a.CalmsTo b := ⟨hq, fun ⟨c, hc, hd⟩ => by rw [hn c hc] at hd; cases hd⟩

/-- With its link as it is, a slot that calms fits its phase. -/
theorem Slot.DriveFits.calms (h : a.DriveFits) (hc : a.CalmsTo b) (hp : b.sup.power = a.sup.power)
    (hl : b.link.state = a.link.state ∧ b.link.upDeadline = a.link.upDeadline)
    (hd : b.sup.phase.down = true → a.sup.phase.down = true) : b.DriveFits := by
  obtain ⟨h1, h2⟩ := hl
  refine ⟨?_, fun hb => hc.quiet (h.quiet (hd hb)), fun hb => h1 ▸ h.atDrive (hc.drive hb)⟩
  rw [LinkFits, hp, h1, h2]
  exact h.link

/-- A slot that goes on, with its link, and calms, lives on. -/
theorem Slot.Lifecycle.continues (h : a.Lifecycle) (hc : a.Continues b) (hcalm : a.CalmsTo b)
    (hl : b.link.state = a.link.state ∧ b.link.upDeadline = a.link.upDeadline) : b.Lifecycle := by
  obtain ⟨hr, hd⟩ := a.lifecycle_iff.mp h
  refine b.lifecycle_iff.mpr ⟨hr.continues hc, hd.calms hcalm hc.power hl fun hdown => ?_⟩
  rw [← hc.down hr hdown]
  exact hdown

/-- A slot with a command at the drive or waiting is in no phase that is down. -/
theorem Slot.DriveFits.not_down (h : a.DriveFits) {c : Cmd} (hc : c ∈ a.traffic.cmds) (hs : c.state ≠ .atResponder) :
    a.sup.phase.down = false := by
  rw [Bool.eq_false_iff]
  intro hd
  exact hs ((Slot.quiet_iff a).mp (h.quiet hd) c hc)

/-! ## Records that change under a phase -/

/-- The records of a slot whose phase is no pass's, nor a closed slot's: all is as at attach but the phase and the pass. -/
theorem Slot.RecordsFit.of_open {q : Phase} (h : a.RecordsFit)
    (ha : a.sup.phase = .attaching ∨ a.sup.phase = .ready ∨ a.sup.phase = .running ∨ a.sup.phase = .held ∨
      a.sup.phase = .soak)
    (hq : q = .attaching ∨ q = .ready ∨ q = .running ∨ q = .held ∨ q = .soak) (hs : b.sup = { a.sup with phase := q })
    (hc : b.closing = a.closing) (hp : PassFits b.pass.kind b.pass.state q) : b.RecordsFit := by
  obtain ⟨-, hgrade, hpower, hrelease⟩ := h
  have hg : a.sup.closed = false ∧ a.closing.grade = none ∧ a.closing.step = .none := by
    obtain h | h | h | h | h := ha
    all_goals rw [h] at hgrade; exact hgrade
  have hw : a.sup.power = true ∧ a.sup.carrier = true := by
    obtain h | h | h | h | h := ha
    all_goals rw [h] at hpower; exact hpower
  have hr : a.closing.releasePending = false ∧ a.closing.verdict = .none := by
    obtain h | h | h | h | h := ha
    all_goals rw [h] at hrelease; exact hrelease
  obtain rfl | rfl | rfl | rfl | rfl := hq
  all_goals exact ⟨by rw [hs]; exact hp, by rw [hs, hc]; exact hg, by rw [hs]; exact hw, by rw [hs, hc]; exact hr⟩

/-- A slot in an open phase is not down. -/
theorem Phase.not_down_of_open {q : Phase}
    (hq : q = .attaching ∨ q = .ready ∨ q = .running ∨ q = .held ∨ q = .soak) : q.down = false := by
  obtain rfl | rfl | rfl | rfl | rfl := hq
  all_goals rfl

/-- A change of phase and pass among the open phases, with the traffic and the link as they are. -/
theorem Slot.Lifecycle.of_open {q : Phase} (h : a.Lifecycle)
    (ha : a.sup.phase = .attaching ∨ a.sup.phase = .ready ∨ a.sup.phase = .running ∨ a.sup.phase = .held ∨
      a.sup.phase = .soak)
    (hq : q = .attaching ∨ q = .ready ∨ q = .running ∨ q = .held ∨ q = .soak) (hs : b.sup = { a.sup with phase := q })
    (hc : b.closing = a.closing) (hp : PassFits b.pass.kind b.pass.state q) (ht : b.traffic = a.traffic)
    (hl : b.link = a.link) : b.Lifecycle := by
  obtain ⟨hr, hd⟩ := a.lifecycle_iff.mp h
  refine b.lifecycle_iff.mpr ⟨hr.of_open ha hq hs hc hp, hd.calms (.of_eq (by rw [ht])) (by rw [hs]) (by rw [hl]; exact ⟨rfl, rfl⟩) ?_⟩
  intro hdown
  rw [hs] at hdown
  rw [Phase.not_down_of_open hq] at hdown
  cases hdown

/-- A phase in which no pass runs or is held. -/
def Phase.idle (p : Phase) : Bool := p != .running && p != .held && p != .shipping

theorem passFits_idle {kind : PassKind} {st : PassState} {p : Phase} (h : p.idle = true) :
    PassFits kind st p ↔ st ≠ .running ∧ st ≠ .held ∧ (kind = .none → st = .none) := by
  cases p <;> simp_all [Phase.idle, PassFits]

/-- The same life with records that it does not see. -/
theorem Slot.Lifecycle.of_eq (h : a.Lifecycle) (hs : b.sup = a.sup)
    (hp : b.pass.kind = a.pass.kind ∧ b.pass.state = a.pass.state) (hc : b.closing = a.closing)
    (ht : b.traffic.cmds = a.traffic.cmds) (hl : b.link = a.link) : b.Lifecycle := by
  obtain ⟨hr, hd⟩ := a.lifecycle_iff.mp h
  obtain ⟨hk, hst⟩ := hp
  obtain ⟨h1, h2, h3, h4⟩ := hr
  refine b.lifecycle_iff.mpr ⟨⟨?_, ?_, ?_, ?_⟩, hd.calms (.of_eq ht) (by rw [hs]) (by rw [hl]; exact ⟨rfl, rfl⟩) ?_⟩
  · rw [hk, hst, hs]; exact h1
  · rw [hs, hc]; exact h2
  · rw [hs]; exact h3
  · rw [hs, hc]; exact h4
  · rw [hs]; exact id

end Life

end Sys2Proof.Machine


/-! PROOFS. The life of a slot through every operation (R43, R126, R128, R143, R150, R155, R165, R168). -/

namespace Sys2Proof.Machine

section Ops

variable {a b : Slot}

/-- The grading unit sees the same of both slots: in its list or not, under its computation or not. -/
def Slot.StepKept (a b : Slot) : Prop :=
  (b.closing.step = .queued ↔ a.closing.step = .queued) ∧ (b.closing.step = .computing ↔ a.closing.step = .computing)

theorem Slot.StepKept.of_eq (h : b.closing.step = a.closing.step) : a.StepKept b := by
  rw [Slot.StepKept, h]
  exact ⟨.rfl, .rfl⟩

/-- The unit does not see a step that is none of its own. -/
theorem Slot.StepKept.of_other (ha : a.closing.step = .none ∨ a.closing.step = .draining)
    (hb : b.closing.step = .none ∨ b.closing.step = .draining) : a.StepKept b := by
  constructor
  all_goals
    obtain ha | ha := ha
    all_goals
      obtain hb | hb := hb
      all_goals simp [ha, hb]

theorem Slot.Continues.step (h : a.Continues b) : a.StepKept b := .of_eq (by rw [h.closing])

/-! ### Facts of a phase -/

/-- In an open phase nothing of the grading or of the release has begun, and the power is ON. -/
theorem Slot.RecordsFit.unclosed (h : a.RecordsFit)
    (hp : a.sup.phase = .attaching ∨ a.sup.phase = .ready ∨ a.sup.phase = .running ∨ a.sup.phase = .held ∨
      a.sup.phase = .soak) :
    a.sup.closed = false ∧ a.closing.grade = none ∧ a.closing.step = .none := by
  have hg := h.grade
  obtain hp | hp | hp | hp | hp := hp
  all_goals rw [hp] at hg; exact hg

/-- A data command is admitted only in a phase that is not down (R89, case 3). -/
theorem Slot.not_down_of_admitted {r : Record} (h : a.refusal r = none) (hc : r.isControl = false) :
    a.sup.phase.down = false := by
  rw [Bool.eq_false_iff]
  intro hd
  rw [Slot.refusal_slotDown (Slot.wellFormed_of_admitted h) (Slot.tagFree_of_admitted h) hc hd] at h
  cases h

/-! ### Commands come and go -/

theorem Slot.CalmsTo.of_busy {c : Cmd} (hc : c ∈ a.traffic.cmds) (hs : c.state = .atDrive) : a.CalmsTo b := by
  refine ⟨fun hq => ?_, fun _ => ⟨c, hc, (Cmd.isAtDrive_iff c).mpr hs⟩⟩
  rw [(Slot.quiet_iff a).mp hq c hc] at hs
  cases hs

theorem Slot.CalmsTo.of_states (h : ∀ d ∈ b.traffic.cmds, ∃ c ∈ a.traffic.cmds, c.state = d.state) : a.CalmsTo b := by
  refine ⟨fun hq => ?_, fun ⟨d, hd, hda⟩ => ?_⟩
  · rw [Slot.quiet_iff] at hq ⊢
    intro d hd
    obtain ⟨c, hc, hs⟩ := h d hd
    exact hs ▸ hq c hc
  · obtain ⟨c, hc, hs⟩ := h d hd
    rw [Cmd.isAtDrive_iff] at hda
    exact ⟨c, hc, (Cmd.isAtDrive_iff c).mpr (hs.trans hda)⟩

/-- A slot that is not down goes on, with its link, and no new command at the drive. -/
theorem Slot.Lifecycle.continues_up (h : a.Lifecycle) (hc : a.Continues b) (hup : a.sup.phase.down = false)
    (hd : b.DriveBusy → b.link.state = .up) (hl : b.link.state = a.link.state ∧ b.link.upDeadline = a.link.upDeadline) :
    b.Lifecycle := by
  obtain ⟨hr, hdrive⟩ := a.lifecycle_iff.mp h
  obtain ⟨h1, h2⟩ := hl
  refine b.lifecycle_iff.mpr ⟨hr.continues hc, ⟨?_, fun hdown => ?_, hd⟩⟩
  · rw [LinkFits, hc.power, h1, h2]
    exact hdrive.link
  · rw [hc.down hr hdown, hup] at hdown
    cases hdown

/-- A slot with its power ON goes on into a link reset. -/
theorem Slot.Lifecycle.continues_reset (h : a.Lifecycle) (hc : a.Continues b) (hf : a.CmdsKeep b)
    (hn : ∀ c ∈ b.traffic.cmds, c.isAtDrive = false) (hp : a.sup.power = true)
    (hl : b.link.state = .resetting ∧ b.link.upDeadline.isSome = true) : b.Lifecycle := by
  obtain ⟨hr, hdrive⟩ := a.lifecycle_iff.mp h
  obtain ⟨h1, h2⟩ := hl
  refine b.lifecycle_iff.mpr ⟨hr.continues hc, ⟨⟨?_, ?_⟩, fun hdown => ?_, ?_⟩⟩
  · rw [hc.power, hp]; nofun
  · rw [h1, h2]; simp
  · rw [hc.down hr hdown] at hdown
    exact (Slot.CalmsTo.of_keep hf).quiet (hdrive.quiet hdown)
  · rintro ⟨c, hm, hd⟩
    rw [hn c hm] at hd
    cases hd

/-- The link is UP while a command is at the drive, so the power is ON. -/
theorem Slot.Lifecycle.power_of_atDrive (h : a.Lifecycle) {c : Cmd} (hc : c ∈ a.traffic.cmds) (hs : c.state = .atDrive) :
    a.sup.power = true := by
  rw [← Bool.not_eq_false]
  intro hp
  have hup := h.atDrive ⟨c, hc, (Cmd.isAtDrive_iff c).mpr hs⟩
  rw [h.link hp] at hup
  cases hup

theorem Act.linkReset_link (i : SlotId) (now : Nat) (x : Act) :
    (x.linkReset i now).sl.link.state = .resetting ∧ (x.linkReset i now).sl.link.upDeadline.isSome = true := by
  simp [Act.linkReset]

theorem Slot.expire_link (i : SlotId) (now : Nat) (d : DriveTag) (c : Cmd) :
    ((Act.start a).expire i now d c).sl.link.state = .resetting ∧
      ((Act.start a).expire i now d c).sl.link.upDeadline.isSome = true := by
  unfold Act.expire
  exact Act.linkReset_link _ _ _

theorem Slot.completionEffect_link (c : Cmd) (status : DriveStatus) (ident : Identification) :
    (a.completionEffect c status ident).link = a.link := by
  unfold Slot.completionEffect
  repeat' split
  all_goals simp

theorem Slot.completion_link (i : SlotId) (now : Nat) (d : DriveTag) (c : Cmd) (status : DriveStatus)
    (data : List Block) (ident : Identification) :
    ((Act.start a).completion i now d c status data ident).sl.link = a.link := by
  unfold Act.completion
  cases c.tag with
  | none => simp
  | some t =>
    dsimp only
    split
    · unfold Act.readReturned Act.completeRead
      dsimp only
      split <;> simp
    · unfold Act.cmdReturned
      simp [Slot.completionEffect_link]

/-! ### Changes of phase -/

/-- A pass in an open phase that starts, is held, goes on or ends; the pass is then tested. -/
theorem Slot.Lifecycle.testPass (h : a.Lifecycle) : a.testPass.Lifecycle :=
  h.continues Slot.continues_testPass (.of_eq (by simp)) (by simp)

/-- A sample that reaches the critical temperature (R61). -/
theorem Slot.Lifecycle.thermalHold (h : a.Lifecycle) : a.thermalHold.Lifecycle := by
  unfold Slot.thermalHold
  split
  · rename_i hk
    split
    · rename_i hs
      exact h.of_open (.inr (.inr (.inl (h.running.mpr ⟨hs, hk⟩)))) (.inr (.inr (.inr (.inl rfl)))) rfl rfl ⟨rfl, hk⟩
        rfl rfl
    · split
      · exact h
      · exact h.of_eq rfl ⟨rfl, rfl⟩ rfl rfl rfl
    all_goals exact h
  · exact h

/-- A sample in SOAK (R64, R65). -/
theorem Slot.Lifecycle.soakSample (h : a.Lifecycle) : a.soakSample.Lifecycle := by
  unfold Slot.soakSample
  split
  · rename_i hs
    obtain ⟨hs, -⟩ := hs
    dsimp only
    have hp := (a.lifecycle_iff.mp h).1.pass
    rw [hs] at hp
    split
    · exact h.of_open (.inr (.inr (.inr (.inr hs)))) (.inr (.inl rfl)) rfl rfl hp rfl rfl
    · exact h.of_eq rfl ⟨rfl, rfl⟩ rfl rfl rfl
  · exact h

theorem Slot.Lifecycle.afterSample (h : a.Lifecycle) : a.afterSample.Lifecycle := by
  unfold Slot.afterSample
  split
  · exact h.thermalHold.soakSample
  · exact h.soakSample

/-- Identification in ATTACHING (R131). -/
theorem Slot.Lifecycle.identify {m : Slot} (d : Identification) (h : m.Lifecycle) (hp : m.sup.phase = .attaching) :
    (m.identify d).Lifecycle := by
  have hpass := (m.lifecycle_iff.mp h).1.pass
  rw [hp] at hpass
  exact h.of_open (.inl hp) (.inr (.inl rfl)) rfl rfl hpass rfl rfl

/-- The end of a release: a quiet slot with its power OFF and a verdict (R166, R168). -/
theorem Slot.lifecycle_completeRelease (bins : List BinEntry) (hpass : PassFits a.pass.kind a.pass.state a.sup.phase)
    (hgrade : GradeFits a.sup.closed a.closing.grade a.closing.step a.sup.phase) (hq : a.quiet = true)
    (hp : a.sup.phase = .graded ∨ a.sup.phase = .shipped ∨ a.sup.phase = .faulted) :
    (a.completeRelease bins).Lifecycle := by
  replace hgrade : GradeFits a.sup.closed a.closing.grade a.closing.step .released := by
    obtain hp | hp | hp := hp
    all_goals rw [hp] at hgrade
    · exact .inr ⟨hgrade.1, .inl hgrade.2.2⟩
    · exact .inr ⟨hgrade.1, .inl hgrade.2.2⟩
    · exact hgrade
  replace hpass : PassFits a.pass.kind a.pass.state .released := by
    obtain hp | hp | hp := hp
    all_goals rw [hp] at hpass; exact hpass
  have hverdict : a.verdictAt bins ≠ .none := by
    unfold Slot.verdictAt
    obtain hp | hp | hp := hp
    all_goals rw [hp]; dsimp only
    · nofun
    · split <;> nofun
    · nofun
  refine (Slot.lifecycle_iff _).mpr ⟨⟨hpass, hgrade, rfl, rfl, hverdict⟩, ⟨⟨fun _ => rfl, ?_⟩, fun _ => hq, ?_⟩⟩
  · simp [Slot.completeRelease, Slot.powerOff]
  · rintro ⟨c, hc, hd⟩
    rw [Cmd.isAtDrive_iff, (Slot.quiet_iff a).mp hq c hc] at hd
    cases hd

/-- A new release in GRADED, SHIPPED or FAULTED (R165, R166). -/
theorem Slot.Lifecycle.release (bins : List BinEntry) (h : a.Lifecycle)
    (hp : a.sup.phase = .graded ∨ a.sup.phase = .shipped ∨ a.sup.phase = .faulted) : (a.release bins).Lifecycle := by
  obtain ⟨⟨hpass, hgrade, hpower, hrelease⟩, hdrive⟩ := a.lifecycle_iff.mp h
  unfold Slot.release
  dsimp only
  split
  · rename_i hq
    exact Slot.lifecycle_completeRelease bins hpass hgrade hq hp
  · rename_i hq
    have hup : a.sup.phase ≠ .faulted := fun hf => hq (hdrive.quiet (by rw [hf]; rfl))
    refine (Slot.lifecycle_iff _).mpr ⟨⟨hpass, hgrade, hpower, ?_⟩, hdrive.calms (.of_eq rfl) rfl ⟨rfl, rfl⟩ id⟩
    obtain hp | hp | hp := hp
    · dsimp only [Slot.modClosing]
      rw [hp] at hrelease ⊢
      exact hrelease
    · dsimp only [Slot.modClosing]
      rw [hp] at hrelease ⊢
      exact hrelease
    · exact absurd hp hup

/-- Arming a ship pass in GRADED (R158). -/
theorem Slot.Lifecycle.ship (h : a.Lifecycle) (hp : a.sup.phase = .graded) (hr : a.closing.releasePending = false) :
    (a.armShip.setPhase .shipping).Lifecycle := by
  obtain ⟨⟨-, hgrade, hpower, hrelease⟩, hdrive⟩ := a.lifecycle_iff.mp h
  rw [hp] at hgrade hpower hrelease
  exact (Slot.lifecycle_iff _).mpr ⟨⟨⟨nofun, fun _ => rfl, nofun⟩, hgrade, hpower, hr, hrelease⟩,
    hdrive.calms (.of_eq rfl) rfl ⟨rfl, rfl⟩ nofun⟩

/-- The end of a ship pass by ABORT (R164). -/
theorem Slot.Lifecycle.abortShip (h : a.Lifecycle) (hp : a.sup.phase = .shipping) :
    (a.abortPass.setPhase .graded).Lifecycle := by
  obtain ⟨⟨hpass, hgrade, hpower, hrelease⟩, hdrive⟩ := a.lifecycle_iff.mp h
  rw [hp] at hpass hgrade hpower hrelease
  obtain ⟨-, hrel⟩ := hrelease
  have hpass' : PassFits a.abortPass.pass.kind a.abortPass.pass.state .graded := by
    obtain ⟨h1, h2, h3⟩ := hpass
    unfold Slot.abortPass
    split
    · rename_i hact
      refine ⟨nofun, nofun, fun hk => ?_⟩
      have hst := h3 hk
      rw [PassRecord.active, hst] at hact
      cases hact
    · rename_i hact
      rw [PassRecord.active, Bool.or_eq_true, beq_iff_eq, beq_iff_eq, not_or] at hact
      exact ⟨hact.1, hact.2, h3⟩
  refine (Slot.lifecycle_iff _).mpr ⟨⟨hpass', ?_, ?_, ?_⟩, hdrive.calms (.of_eq (by simp [Slot.setPhase])) ?_ ?_ nofun⟩
  · simp only [Slot.setPhase, Slot.modSup, Slot.abortPass_frame]; exact hgrade
  · simp only [Slot.setPhase, Slot.modSup, Slot.abortPass_frame]; exact hpower
  · simpa [Slot.setPhase, ReleaseFits] using hrel
  · simp [Slot.setPhase]
  · simp [Slot.setPhase]

/-- CLOSE in READY and SOAK (R145). -/
theorem Slot.Lifecycle.close (h : a.Lifecycle) (hc : a.sup.closed = false)
    (hp : a.sup.phase = .ready ∨ a.sup.phase = .soak) : ((a.setPhase .grading).setStep .draining).Lifecycle := by
  obtain ⟨⟨hpass, hgrade, hpower, hrelease⟩, hdrive⟩ := a.lifecycle_iff.mp h
  have hopen : PassFits a.pass.kind a.pass.state .grading ∧ a.closing.grade = none ∧
      (a.sup.power = true ∧ a.sup.carrier = true) ∧ a.closing.releasePending = false ∧ a.closing.verdict = .none := by
    obtain hp | hp := hp
    all_goals
      rw [hp] at hpass hgrade hpower hrelease
      exact ⟨hpass, hgrade.2.1, hpower, hrelease⟩
  obtain ⟨h1, h2, h3, h4⟩ := hopen
  exact (Slot.lifecycle_iff _).mpr ⟨⟨h1, .inl ⟨hc, h2, .inl rfl⟩, h3, h4⟩,
    hdrive.calms (.of_eq rfl) rfl ⟨rfl, rfl⟩ nofun⟩

/-- RESET-SLOT (R135). -/
theorem Slot.Lifecycle.resetSlot (i : SlotId) (t : Tag) (now : Nat) (default : Recipe) (h : a.Lifecycle)
    (hr : a.resettable = true) : ((Act.start a).resetSlot i t now default).sl.Lifecycle := by
  have hpower := (a.lifecycle_iff.mp h).1.power
  have hon : a.sup.power = true ∧ a.sup.carrier = true := by
    simp only [Slot.resettable, Bool.and_eq_true, Bool.or_eq_true, beq_iff_eq] at hr
    obtain ⟨-, (hp | hp) | ⟨hp, hc⟩⟩ := hr
    · rw [hp] at hpower; exact hpower
    · rw [hp] at hpower; exact hpower
    · rw [hp] at hpower
      have hon := hpower.2.1.mpr (by obtain hc | hc := hc <;> simp [hc])
      exact ⟨hon, hpower.2.2 hon⟩
  refine (Slot.lifecycle_iff _).mpr ⟨⟨?_, ?_, ?_, ?_⟩, ⟨?_, ?_, ?_⟩⟩
  all_goals
    simp only [Act.resetSlot, Act.say_sl, Act.mod_sl, Slot.modLink, Slot.modSup, Slot.modEvents, Slot.adopt_frame,
      Slot.clearRecords, Act.start_sl]
  · exact ⟨nofun, nofun, fun _ => rfl⟩
  · exact ⟨rfl, rfl, rfl⟩
  · exact hon
  · exact ⟨rfl, rfl⟩
  · exact ⟨fun _ => rfl, by simp⟩
  · nofun
  · rintro ⟨c, hc, -⟩
    simp [Traffic.empty] at hc

/-- Attach (R129). -/
theorem Slot.lifecycle_attach (now : Nat) (default : Recipe) (hq : a.quiet = true) (hc : a.sup.carrier = true) :
    (a.attach now default).Lifecycle := by
  refine (Slot.lifecycle_iff _).mpr ⟨⟨?_, ?_, ?_, ?_⟩, ⟨?_, ?_, ?_⟩⟩
  all_goals
    simp only [Slot.attach, Slot.modLink, Slot.modSup, Slot.adopt_frame, Slot.clearRecords]
  · exact ⟨nofun, nofun, fun _ => rfl⟩
  · exact ⟨rfl, rfl, rfl⟩
  · exact ⟨rfl, hc⟩
  · exact ⟨rfl, rfl⟩
  · exact ⟨fun _ => rfl, by simp⟩
  · nofun
  · rintro ⟨c, hm, hd⟩
    simp only at hm
    rw [Cmd.isAtDrive_iff, (Slot.quiet_iff a).mp hq c (List.mem_filter.mp hm).1] at hd
    cases hd

/-- An EMPTY slot (R133, R144). -/
theorem Slot.lifecycle_emptied (lines : Lines) (default : Recipe) : (a.emptied lines default).Lifecycle :=
  (Slot.lifecycle_iff _).mpr ⟨⟨⟨nofun, nofun, fun _ => rfl⟩, ⟨rfl, rfl, rfl⟩, rfl, ⟨rfl, rfl⟩⟩,
    ⟨⟨fun _ => rfl, by simp [Slot.emptied]⟩, fun _ => rfl, by simp [Slot.DriveBusy, Slot.emptied, Traffic.empty]⟩⟩

/-! ### Every operation -/

/-- Every operation keeps the life of a slot. -/
theorem Slot.Op.lifecycle (h : a.Op b) (ha : a.Lifecycle) : b.Lifecycle := by
  obtain ⟨hr, hd⟩ := a.lifecycle_iff.mp ha
  have pass {p q : Phase} (hp : a.sup.phase = p) (hpq : PassFits a.pass.kind a.pass.state p → PassFits a.pass.kind a.pass.state q) :
      PassFits a.pass.kind a.pass.state q := hpq (hp ▸ hr.pass)
  cases h with
  | touch h =>
    refine (Slot.lifecycle_iff _).mpr ⟨⟨?_, ?_, ?_, ?_⟩, hd.calms (.of_eq (by rw [h.traffic])) h.power (by rw [h.link]; exact ⟨rfl, rfl⟩) ?_⟩
    · rw [h.pass, h.phase]; exact hr.pass
    · rw [h.closed, h.closing, h.phase]; exact hr.grade
    · rw [powerFits_iff, h.cause, h.power, h.phase]
      obtain ⟨h1, h2, h3⟩ := (powerFits_iff _ _ _ _).mp hr.power
      exact ⟨h1, h2, fun hp => h.carrier (h3 hp)⟩
    · rw [h.closing, h.phase]; exact hr.release
    · rw [h.phase]; exact id
  | @accept i r k hk hc h =>
    refine ha.continues_up (Slot.continues_accept i _) (Slot.not_down_of_admitted h hc) ?_ ?_
    · rw [Slot.DriveBusy, Slot.accept_traffic]
      rintro ⟨c, hm, hs⟩
      have hlink : ((Act.start a).accept i (r.toCmd k (a.classFor r))).sl.link = a.link := by
        unfold Act.accept
        split <;> simp
      rw [hlink]
      obtain hm | hm := List.mem_append.mp hm
      · exact hd.atDrive ⟨c, hm, hs⟩
      · rw [List.mem_singleton.mp hm, Cmd.isAtDrive_iff, Slot.accepted] at hs
        split at hs <;> cases hs
    · unfold Act.accept
      split <;> simp
  | @holdRead r hb h =>
    refine ha.continues (Slot.continues_modCmds _) ⟨fun hq => ?_, fun ⟨c, hm, hs⟩ => ?_⟩ ⟨rfl, rfl⟩
    · rw [Slot.quiet_iff] at hq ⊢
      intro c hm
      obtain hm | hm := List.mem_append.mp hm
      · exact hq c hm
      · rw [List.mem_singleton.mp hm]; rfl
    · obtain hm | hm := List.mem_append.mp hm
      · exact ⟨c, hm, hs⟩
      · rw [List.mem_singleton.mp hm] at hs; cases hs
  | adopt _ => exact ha.of_eq (by simp) (by simp) (by simp) (by simp) (by simp)
  | startPass write endless hp _ _ =>
    cases write
    · exact ha.of_open (.inr (.inl hp)) (.inr (.inr (.inl rfl))) rfl rfl ⟨rfl, .inr rfl⟩ rfl rfl
    · exact ha.of_open (.inr (.inl hp)) (.inr (.inr (.inl rfl))) rfl rfl ⟨rfl, .inl rfl⟩ rfl rfl
  | hold hp =>
    exact ha.of_open (.inr (.inr (.inl hp))) (.inr (.inr (.inr (.inl rfl)))) rfl rfl ⟨rfl, (pass hp id).2⟩ rfl rfl
  | resume hp =>
    exact (ha.of_open (b := (a.modPass fun p => { p with state := .running, holdHost := false, holdThermal := false }).setPhase
      .running) (.inr (.inr (.inr (.inl hp)))) (.inr (.inr (.inl rfl))) rfl rfl ⟨rfl, (pass hp id).2⟩ rfl rfl).testPass
  | abort hp =>
    have hk : a.pass.kind = .write ∨ a.pass.kind = .read := by
      obtain hp | hp := hp
      · exact (pass hp id).2
      · exact (pass hp id).2
    refine ha.of_open (.inr (.inr (hp.imp id .inl))) (.inr (.inl rfl)) rfl rfl ⟨nofun, nofun, fun hn => ?_⟩ rfl rfl
    replace hn : a.pass.kind = .none := hn
    rw [hn] at hk
    obtain hk | hk := hk <;> cases hk
  | endSoak hp => exact ha.of_open (.inr (.inr (.inr (.inr hp)))) (.inr (.inl rfl)) rfl rfl (pass hp id) rfl rfl
  | abortShip hp => exact ha.abortShip hp
  | soak w hp => exact ha.of_open (.inr (.inl hp)) (.inr (.inr (.inr (.inr rfl)))) rfl rfl (pass hp id) rfl rfl
  | close hc hp => exact ha.close hc hp
  | ship hp hr => exact (ha.ship hp hr).testPass
  | release bins hp => exact ha.release bins hp
  | completeRelease bins hp hq =>
    exact Slot.lifecycle_completeRelease bins hr.pass hr.grade hq ((ha.pending hp).imp id .inl)
  | resetSlot i t now default hc hr => exact ha.resetSlot i t now default hr
  | @issue now number i d before c after hu _ hs hw _ =>
    have hl : (a.issueCmd now number i d before c after).link.state = a.link.state ∧
        (a.issueCmd now number i d before c after).link.upDeadline = a.link.upDeadline := by
      unfold Slot.issueCmd
      dsimp only
      repeat' split
      all_goals simp [Slot.toDrive]
    refine ha.continues_up (Slot.continues_issueCmd _ _ _ _ _ _ _) ?_ (fun _ => hl.1.trans hu) hl
    exact hd.not_down (c := c) (by rw [hs]; simp) (by rw [hw]; nofun)
  | @guardFail i now before c after hs _ =>
    have hm : ∀ d ∈ before ++ after, d ∈ a.traffic.cmds := by
      rw [hs]
      exact fun d hd => ((List.sublist_cons_self c after).append_left before).subset hd
    refine ha.continues (Slot.continues_guardFail _ _ _ _) (.of_states fun d hd => ⟨d, hm d ?_, rfl⟩) ?_
    all_goals unfold Act.guardFail at *
    · split at hd
      · exact hd
      · simpa using hd
    · split <;> simp
  | @complete i now d c status data ident hf =>
    obtain ⟨hc, hs, -⟩ := mem_of_atTag hf
    have hlink := a.completion_link i now d c status data ident
    obtain hcont | ⟨mid, hcont, hp, he⟩ := a.completion_cases i now _ _ status data ident
    · exact ha.continues hcont (.of_busy hc hs) (by rw [hlink]; exact ⟨rfl, rfl⟩)
    · rw [he] at hlink ⊢
      have hlink : mid.link = a.link := by simpa using hlink
      exact (ha.continues hcont (.of_busy hc hs) (by rw [hlink]; exact ⟨rfl, rfl⟩)).identify ident hp
  | generated d g => exact ha.continues ((Slot.continues_modJobs _).trans (Slot.continues_toDrive _)) (.of_eq rfl) ⟨rfl, rfl⟩
  | checked i now t j =>
    refine ha.continues (Slot.continues_checkBurst _ _ _ _) (.of_states ?_) ?_
    all_goals unfold Act.checkBurst
    · split
      · exact fun d hd => ⟨d, hd, rfl⟩
      · rename_i c hf
        have hc := List.mem_of_find?_eq_some hf
        dsimp only
        split
        · rw [Act.completeRead_traffic]
          exact fun d hd => ⟨d, (List.mem_filter.mp hd).1, rfl⟩
        · intro d hd
          obtain ⟨e, he, rfl⟩ := List.mem_map.mp hd
          split
          · exact ⟨c, hc, rfl⟩
          · exact ⟨e, he, rfl⟩
    · split
      · exact ⟨rfl, rfl⟩
      · dsimp only
        split
        · simp [Act.completeRead]
        · exact ⟨rfl, rfl⟩
  | expire i now hf =>
    obtain ⟨hc, hs, -⟩ := mem_of_atTag hf
    obtain ⟨h1, h2⟩ := a.expire_follow i now _ _
    exact ha.continues_reset (Slot.continues_expire i now _ _) h1 h2 (ha.power_of_atDrive hc hs) (Slot.expire_link _ _ _ _)
  | loseLink i now hp _ =>
    obtain ⟨h1, h2⟩ := Act.linkReset_follow i now (Act.start a)
    exact ha.continues_reset (Slot.continues_linkReset i now) h1 h2 hp (Act.linkReset_link _ _ _)
  | dropLink hf hu =>
    obtain ⟨-, hl⟩ := hd.link
    have hq := hd.quiet (by rw [hf]; rfl)
    refine (Slot.lifecycle_iff _).mpr ⟨⟨hr.pass, hr.grade, hr.power, hr.release⟩, ⟨⟨fun _ => rfl, ?_⟩, fun _ => hq, ?_⟩⟩
    · rw [hu] at hl
      simpa using hl
    · rintro ⟨c, hm, hs⟩
      rw [Cmd.isAtDrive_iff, (Slot.quiet_iff a).mp hq c hm] at hs
      cases hs
  | resetDone hp hl =>
    refine (Slot.lifecycle_iff _).mpr ⟨⟨hr.pass, hr.grade, hr.power, hr.release⟩, ⟨⟨?_, ?_⟩, hd.quiet, fun _ => rfl⟩⟩
    · simp [hp]
    · simp [Slot.resetDone]
  | requeue => exact ha.continues (Slot.continues_modTraffic _) (.of_keep a.requeue_follow) ⟨rfl, rfl⟩
  | cameUp hp hl =>
    obtain ⟨-, hres⟩ := hd.link
    refine (Slot.lifecycle_iff _).mpr ⟨⟨hr.pass, hr.grade, hr.power, hr.release⟩, ⟨⟨?_, ?_⟩, hd.quiet, fun _ => rfl⟩⟩
    · simp [hp]
    · rw [hl] at hres
      simpa using hres
  | attach now default hp hc hl => exact Slot.lifecycle_attach now default (hd.quiet (by rw [hp]; rfl)) hc
  | afterSample => exact ha.afterSample

end Ops

end Sys2Proof.Machine


/-! PROOFS. The life of every slot beside the grading unit (R126, R133, R141, R148, R150, R155, R157). -/

namespace Sys2Proof.Machine

section Grades

variable {a b : Slot}

/-! ## What the grading unit sees of an operation -/

/-- No operation of a slot's own changes whether it waits for the unit or is computed. -/
theorem Slot.Op.stepKept (h : a.Op b) (ha : a.Lifecycle) : a.StepKept b := by
  have hr := (a.lifecycle_iff.mp ha).1
  cases h with
  | touch h => exact .of_eq (by rw [h.closing])
  | accept i hk hc h => exact (Slot.continues_accept i _).step
  | holdRead _ _ => exact .of_eq rfl
  | adopt _ => exact .of_eq (by simp)
  | startPass write endless _ _ _ => cases write <;> exact .of_eq rfl
  | hold _ => exact .of_eq rfl
  | resume _ => exact .of_eq (by simp [Slot.setPhase])
  | abort _ => exact .of_eq rfl
  | endSoak _ => exact .of_eq rfl
  | abortShip _ => exact .of_eq (by simp [Slot.setPhase])
  | soak w _ => exact .of_eq rfl
  | close hc hp =>
    obtain ⟨-, -, hs⟩ := hr.unclosed (hp.elim (fun h => .inr (.inl h)) fun h => .inr (.inr (.inr (.inr h))))
    exact .of_other (.inl hs) (.inr rfl)
  | ship _ _ => exact .of_eq (by simp [Slot.setPhase, Slot.armShip, Slot.armZones])
  | release bins _ =>
    unfold Slot.release
    dsimp only
    split <;> exact .of_eq rfl
  | completeRelease bins _ _ => exact .of_eq rfl
  | resetSlot i t now default hc hres =>
    refine .of_other (.inl ?_) (.inl (by simp [Act.resetSlot, Slot.clearRecords, Closing.none]))
    simp only [Slot.resettable, Bool.and_eq_true, Bool.or_eq_true, beq_iff_eq] at hres
    obtain ⟨-, (hp | hp) | ⟨hp, -⟩⟩ := hres
    · exact (hr.unclosed (.inr (.inl hp))).2.2
    · exact (hr.unclosed (.inr (.inr (.inr (.inr hp))))).2.2
    · have hg := hr.grade
      rw [hp, hc] at hg
      obtain ⟨-, -, hs⟩ | ⟨hn, -⟩ := hg
      · exact hs
      · cases hn
  | issue now number i _ _ _ _ _ => exact .of_eq (by simp)
  | guardFail i now _ _ => exact (Slot.continues_guardFail _ _ _ _).step
  | complete i now status data ident hf =>
    obtain hc | ⟨mid, hc, -, he⟩ := a.completion_cases i now _ _ status data ident
    · exact hc.step
    · rw [he]
      have := hc.step
      rwa [Slot.StepKept] at this ⊢
  | generated d g => exact .of_eq rfl
  | checked i now t j => exact (Slot.continues_checkBurst _ _ _ _).step
  | expire i now _ => exact (Slot.continues_expire i now _ _).step
  | loseLink i now _ _ => exact (Slot.continues_linkReset i now).step
  | dropLink _ _ => exact .of_eq rfl
  | resetDone _ _ => exact .of_eq rfl
  | requeue => exact .of_eq rfl
  | cameUp _ _ => exact .of_eq rfl
  | attach now default hp _ _ =>
    have hg := hr.grade
    rw [hp] at hg
    exact .of_other (.inl hg.2.2) (.inl (by simp [Slot.attach, Slot.clearRecords, Closing.none]))
  | afterSample => exact .of_eq (by simp)

/-! ## Entry to FAULTED -/

theorem Slot.finishCounts_pass (cs : List Cmd) (sl : Slot) :
    (cs.foldl (fun x c => x.finishCount c.serial) sl).pass.kind = sl.pass.kind ∧
      (cs.foldl (fun x c => x.finishCount c.serial) sl).pass.state = sl.pass.state := by
  induction cs generalizing sl with
  | nil => exact ⟨rfl, rfl⟩
  | cons c cs ih =>
    obtain ⟨n, hn⟩ := Slot.finishCount_pass c.serial sl
    obtain ⟨h1, h2⟩ := ih (sl.finishCount c.serial)
    rw [List.foldl_cons, h1, h2, hn]
    exact ⟨rfl, rfl⟩

theorem Slot.continues_dropPosted (now : Nat) : a.Continues (a.dropPosted now) := by
  unfold Slot.dropPosted
  refine Slot.Continues.trans ?_ (Slot.continues_modCmds _)
  generalize a.traffic.cmds.filter Cmd.posted = cs
  induction cs generalizing a with
  | nil => exact .refl a
  | cons c cs ih =>
    exact (((Slot.continues_takeRun _ _).trans (Slot.continues_raise _)).trans (Slot.continues_finishCount _)).trans ih

/-- The pass after an entry to FAULTED: of the same kind, ABORTED when it ran or was held (R126). -/
theorem Act.fault_pass (i : SlotId) (now : Nat) (cause : FaultCause) (x : Act) :
    (x.fault i now cause).sl.pass.kind = x.sl.pass.kind ∧ (x.fault i now cause).sl.pass.state ≠ .running ∧
      (x.fault i now cause).sl.pass.state ≠ .held ∧
      (x.sl.pass.state = .none → (x.fault i now cause).sl.pass.state = .none) := by
  have hdrop : (x.sl.dropPosted now).pass.kind = x.sl.pass.kind ∧ (x.sl.dropPosted now).pass.state = x.sl.pass.state := by
    have hp : ∀ (cs : List Cmd) (sl : Slot), (cs.foldl (fun sl c =>
        ((sl.takeRun now (c.wholeRun .writeFail)).raise .postFail).finishCount c.serial) sl).pass.kind = sl.pass.kind ∧
        (cs.foldl (fun sl c =>
        ((sl.takeRun now (c.wholeRun .writeFail)).raise .postFail).finishCount c.serial) sl).pass.state =
          sl.pass.state := by
      intro cs
      induction cs with
      | nil => exact fun _ => ⟨rfl, rfl⟩
      | cons c cs ih =>
        intro sl
        obtain ⟨n, hn⟩ := Slot.finishCount_pass c.serial ((sl.takeRun now (c.wholeRun .writeFail)).raise .postFail)
        obtain ⟨m, hm⟩ := Slot.takeRun_pass now (c.wholeRun .writeFail) sl
        obtain ⟨h1, h2⟩ := ih (((sl.takeRun now (c.wholeRun .writeFail)).raise .postFail).finishCount c.serial)
        rw [List.foldl_cons, h1, h2, hn, Slot.raise_pass, hm]
        exact ⟨rfl, rfl⟩
    exact hp _ x.sl
  obtain ⟨hk, hs⟩ := hdrop
  have hkind : (x.sl.dropPosted now).abortPass.pass.kind = x.sl.pass.kind := by
    unfold Slot.abortPass
    split
    · exact hk
    · exact hk
  have hfinal : (x.fault i now cause).sl.pass.kind = (x.sl.dropPosted now).abortPass.pass.kind ∧
      (x.fault i now cause).sl.pass.state = (x.sl.dropPosted now).abortPass.pass.state := by
    unfold Act.fault
    dsimp only [Act.say_sl, Act.mod_sl]
    simp only [Slot.raise_pass, Slot.modClosing_pass, Slot.modSup_pass, Slot.modLink_pass, Slot.modTraffic_pass]
    exact Slot.finishCounts_pass _ _
  obtain ⟨h1, h2⟩ := hfinal
  rw [h1, h2, hkind]
  unfold Slot.abortPass
  split
  · rename_i hact
    refine ⟨rfl, nofun, nofun, fun hn => ?_⟩
    rw [PassRecord.active, hs, hn] at hact
    cases hact
  · rename_i hact
    rw [PassRecord.active, Bool.or_eq_true, beq_iff_eq, beq_iff_eq, not_or] at hact
    exact ⟨rfl, hact.1, hact.2, fun hn => hs.trans hn⟩

theorem Act.fault_closing (i : SlotId) (now : Nat) (cause : FaultCause) (x : Act) :
    (x.fault i now cause).sl.closing = { x.sl.closing with step := x.sl.closing.step.afterFault } := by
  simp [Act.fault]

theorem Act.fault_sup (i : SlotId) (now : Nat) (cause : FaultCause) (x : Act) :
    (x.fault i now cause).sl.sup =
      { x.sl.sup with phase := .faulted, cause := some cause, attachDeadline := none } := by
  simp [Act.fault]

theorem Act.fault_link (i : SlotId) (now : Nat) (cause : FaultCause) (x : Act) :
    (x.fault i now cause).sl.link = x.sl.link.abandon := by
  simp [Act.fault]

theorem Act.fault_traffic (i : SlotId) (now : Nat) (cause : FaultCause) (x : Act) :
    (x.fault i now cause).sl.traffic = .empty := by
  simp [Act.fault]

/-- The grade of a slot that faults (R157). -/
theorem GradeFits.faulted {closed : Bool} {grade : Option GradeRecord} {step : GradingStep} {p : Phase}
    (h : GradeFits closed grade step p) : GradeFits closed grade step.afterFault .faulted := by
  obtain ⟨-, -, h3, h4, h5, -⟩ := (gradeFits_iff _ _ _ _).mp h
  cases closed with
  | false =>
    have hc : step ≠ .computing := fun h => by cases (h5 h).1
    refine .inl ⟨rfl, h3 rfl, ?_⟩
    cases step
    case computing => exact absurd rfl hc
    all_goals rfl
  | true =>
    refine .inr ⟨rfl, ?_⟩
    cases step
    case computing => exact .inr ⟨rfl, (h5 rfl).2⟩
    all_goals exact .inl rfl

/-- A slot that enters FAULTED with the power as its cause says fits its new phase, released at once when a release waits
(R126, R166, R167). -/
theorem Slot.lifecycle_faulted {p : Phase} (i : SlotId) (now : Nat) (bins : List BinEntry) (cause : FaultCause)
    (hpass : a.pass.kind = .none → a.pass.state = .none)
    (hgrade : GradeFits a.sup.closed a.closing.grade a.closing.step p) (hverdict : a.closing.verdict = .none)
    (hpower : PowerFits (some cause) a.sup.power a.sup.carrier .faulted)
    (hlink : a.sup.power = false → a.link.state = .down) : (a.faulted i now bins cause).Lifecycle := by
  have hsup := Act.fault_sup i now cause (Act.start a)
  have hclosing := Act.fault_closing i now cause (Act.start a)
  have htraffic := Act.fault_traffic i now cause (Act.start a)
  have hl := Act.fault_link i now cause (Act.start a)
  obtain ⟨hk, hrun, hheld, hnone⟩ := Act.fault_pass i now cause (Act.start a)
  unfold Slot.faulted
  dsimp only
  generalize ((Act.start a).fault i now cause).sl = m at *
  rw [Act.start_sl] at hsup hclosing hl hk hnone
  have hq : m.quiet = true := by simp [Slot.quiet, htraffic, Traffic.empty]
  have hpass' : PassFits m.pass.kind m.pass.state .faulted := ⟨hrun, hheld, fun h => hnone (hpass (hk ▸ h))⟩
  have hgrade' : GradeFits m.sup.closed m.closing.grade m.closing.step .faulted := by
    rw [hsup, hclosing]
    exact hgrade.faulted
  have hphase : m.sup.phase = .faulted := by rw [hsup]
  split
  · exact Slot.lifecycle_completeRelease bins (hphase ▸ hpass') (hphase ▸ hgrade') hq (.inr (.inr hphase))
  · rename_i hrel
    refine (Slot.lifecycle_iff m).mpr ⟨⟨hphase ▸ hpass', hphase ▸ hgrade', ?_, ?_⟩, ⟨?_, fun _ => hq, ?_⟩⟩
    · rw [hsup]; exact hpower
    · rw [hphase]
      exact ⟨by simpa using hrel, by rw [hclosing]; exact hverdict⟩
    · rw [hsup, hl]
      refine ⟨fun hp => ?_, ?_⟩
      · simp [Link.abandon, hlink hp]
      · simp only [Link.abandon]
        split <;> simp_all
    · rintro ⟨c, hm, -⟩
      rw [htraffic] at hm
      cases hm

/-- In a powered slot no verdict stands. -/
theorem Slot.Lifecycle.verdict_none (h : a.Lifecycle) (hp : a.sup.power = true) : a.closing.verdict = .none := by
  by_contra hv
  exact (h.power.mp hp).2.1 (h.verdict.mp hv)

theorem Slot.Lifecycle.faulted (h : a.Lifecycle) (i : SlotId) (now : Nat) (bins : List BinEntry) {cause : FaultCause}
    (hc : cause ≠ .trip)
    (hp : a.sup.power = true ∨ a.link.state = .resetting ∨ a.sup.phase = .attaching) :
    (a.faulted i now bins cause).Lifecycle := by
  have hon : a.sup.power = true := by
    obtain hp | hp | hp := hp
    · exact hp
    · rw [← Bool.not_eq_false]
      intro hoff
      rw [h.link hoff] at hp
      cases hp
    · exact h.power.mpr (by simp [hp])
  refine Slot.lifecycle_faulted i now bins cause h.kindNone (a.lifecycle_iff.mp h).1.grade (h.verdict_none hon)
    ⟨rfl, ?_, fun _ => h.carrier hon⟩ h.link
  simpa [hon] using hc

/-- A trip (R141). -/
theorem Slot.Lifecycle.tripped (h : a.Lifecycle) (i : SlotId) (now : Nat) (bins : List BinEntry)
    (hon : a.sup.power = true) : (a.tripped i now bins).Lifecycle := by
  have hraise {m : Slot} (hm : m.Lifecycle) : (m.raise .trip).Lifecycle := hm.of_eq rfl ⟨rfl, rfl⟩ rfl rfl rfl
  obtain ⟨hr, hd⟩ := a.lifecycle_iff.mp h
  unfold Slot.tripped
  refine hraise ?_
  split
  · rename_i hp
    have hq := hd.quiet (by rw [hp]; rfl)
    refine (Slot.lifecycle_iff _).mpr ⟨⟨hr.pass, hr.grade, ?_, hr.release⟩, ⟨⟨fun _ => rfl, ?_⟩, fun _ => hq, ?_⟩⟩
    · change PowerFits (some .trip) false a.sup.carrier a.sup.phase
      rw [hp]
      exact ⟨rfl, by simp, nofun⟩
    · simp [Slot.tripPower, Slot.powerOff]
    · rintro ⟨c, hm, hs⟩
      rw [Cmd.isAtDrive_iff, (Slot.quiet_iff a).mp hq c hm] at hs
      cases hs
  · exact Slot.lifecycle_faulted i now bins .trip h.kindNone hr.grade (h.verdict_none hon) ⟨rfl, by simp [Slot.tripPower, Slot.powerOff], nofun⟩
      fun _ => rfl

/-! ## The other operations of the grading unit -/

theorem Slot.Lifecycle.queued (h : a.Lifecycle) (hs : a.closing.step = .draining) : (a.setStep .queued).Lifecycle := by
  obtain ⟨hr, hd⟩ := a.lifecycle_iff.mp h
  obtain ⟨hp, hc⟩ := h.waiting (.inl hs)
  refine (Slot.lifecycle_iff _).mpr ⟨⟨hr.pass, ?_, hr.power, hr.release⟩, hd.calms (.of_eq rfl) rfl ⟨rfl, rfl⟩ id⟩
  change GradeFits a.sup.closed a.closing.grade .queued a.sup.phase
  rw [hp]
  exact .inl ⟨hc, h.unclosed hc, .inr rfl⟩

/-- The start of a computation (R150). -/
theorem Slot.Lifecycle.computing_start (h : a.Lifecycle) (hs : a.closing.step = .queued) : a.computing.Lifecycle := by
  obtain ⟨hr, hd⟩ := a.lifecycle_iff.mp h
  obtain ⟨hp, hc⟩ := h.waiting (.inr hs)
  refine (Slot.lifecycle_iff _).mpr ⟨⟨hr.pass, ?_, hr.power, hr.release⟩, hd.calms (.of_eq rfl) rfl ⟨rfl, rfl⟩ id⟩
  change GradeFits true a.closing.grade .computing a.sup.phase
  rw [hp]
  exact .inr ⟨rfl, h.unclosed hc, rfl⟩

/-- The end of a computation (R155). -/
theorem Slot.Lifecycle.graded_end (h : a.Lifecycle) (hs : a.closing.step = .computing) (i : SlotId) (g : GradeRecord) :
    ((Act.start a).graded i g).sl.Lifecycle := by
  obtain ⟨hr, hd⟩ := a.lifecycle_iff.mp h
  obtain ⟨hc, -⟩ := h.computing hs
  have hcalm : a.CalmsTo ((Act.start a).graded i g).sl := .of_states fun d hd => ⟨d, (List.mem_filter.mp hd).1, rfl⟩
  have hgrade := hr.grade
  by_cases hp : a.sup.phase = .grading
  · have hpass := hr.pass
    have hpower := hr.power
    have hrelease := hr.release
    rw [hp] at hpass hpower hrelease
    have hphase : ((Act.start a).graded i g).sl.sup.phase = .graded := if_pos hp
    refine (Slot.lifecycle_iff _).mpr ⟨⟨?_, ?_, ?_, ?_⟩, hd.calms hcalm rfl ⟨rfl, rfl⟩ ?_⟩
    · rw [hphase]; exact hpass
    · rw [hphase]; exact ⟨hc, rfl, rfl⟩
    · rw [hphase]; exact hpower
    · rw [hphase]; exact hrelease.2
    · rw [hphase]; nofun
  · have hphase : ((Act.start a).graded i g).sl.sup.phase = a.sup.phase := if_neg hp
    refine (Slot.lifecycle_iff _).mpr ⟨⟨?_, ?_, ?_, ?_⟩, hd.calms hcalm rfl ⟨rfl, rfl⟩ ?_⟩
    · rw [hphase]; exact hr.pass
    · rw [hphase]
      rw [hs, hc] at hgrade
      change GradeFits a.sup.closed (some g) .none a.sup.phase
      rw [hc]
      cases hq : a.sup.phase <;> rw [hq] at hgrade
      case grading => exact absurd hq hp
      case released | faulted => exact .inr ⟨rfl, .inl rfl⟩
      all_goals simp [GradeFits] at hgrade
    · rw [hphase]; exact hr.power
    · rw [hphase]; exact hr.release
    · rw [hphase]; exact id

/-- A slot after the shelf reset (R181). -/
theorem Slot.lifecycle_shelfReset (default : Recipe) (lines : Lines) : (a.shelfReset default lines).Lifecycle := by
  have he : ({ a.emptied lines default with command := .none } : Slot).Lifecycle :=
    (Slot.lifecycle_emptied (a := a) lines default).of_eq rfl ⟨rfl, rfl⟩ rfl rfl rfl
  unfold Slot.shelfReset
  dsimp only
  split
  · rename_i hl
    rw [Bool.and_eq_true] at hl
    exact Slot.lifecycle_attach 0 default (he.quiet rfl) hl.1
  · exact he

end Grades

end Sys2Proof.Machine


/-! PROOFS. The slots beside the grading unit in every move of the part (R148, R157). -/

namespace Sys2Proof.Machine

section Unit

variable {s t : State} {i : SlotId}

/-- The grading unit's list and computation as in R148, but for a unit that is about to start its next computation. -/
structure State.GraderFits (s : State) : Prop where
  nodup     : s.grader.queue.Nodup
  queued    : ∀ j, j ∈ s.grader.queue ↔ (s.slot j).closing.step = .queued
  computing : ∀ j, (∃ c, s.grader.current = some c ∧ c.slot = j) ↔ (s.slot j).closing.step = .computing

theorem State.GraderWF.fits (h : s.GraderWF) : s.GraderFits := ⟨h.nodup, h.queued, h.computing⟩

/-- The start of the next computation leaves the unit as R148 has it. -/
theorem State.lifecycle_startNext (hl : ∀ j, (s.slot j).Lifecycle) (hg : s.GraderFits) : s.startNext.Lifecycle := by
  obtain ⟨nodup, queued, computing⟩ := hg
  cases hc : s.grader.current with
  | some c =>
    rw [s.startNext_id (.inl (by rw [hc]; rfl))]
    exact ⟨hl, nodup, queued, computing, by rw [hc]; nofun⟩
  | none =>
    cases hq : s.grader.queue with
    | nil =>
      rw [s.startNext_id (.inr hq)]
      exact ⟨hl, nodup, queued, computing, fun _ => hq⟩
    | cons k rest =>
      have hs : s.grader = { queue := k :: rest, current := none } := by
        cases hgr : s.grader
        rw [hgr] at hc hq
        cases hc; cases hq; rfl
      have hk : (s.slot k).closing.step = .queued := (queued k).mp (by rw [hq]; exact List.mem_cons_self)
      rw [hq, List.nodup_cons] at nodup
      obtain ⟨hk1, hk2⟩ := nodup
      have hslot (j : SlotId) : s.startNext.slot j = if j = k then (s.slot k).computing else s.slot j := by
        rw [s.startNext_starts k rest hs, State.slot_setSlot_eq]
        rfl
      have hgr : s.startNext.grader = { queue := rest, current := some (s.computationOf k) } := by
        rw [s.startNext_starts k rest hs]
        rfl
      refine ⟨fun j => ?_, ?_, fun j => ?_, fun j => ?_, ?_⟩
      · rw [hslot]
        split
        · exact (hl k).computing_start hk
        · exact hl j
      · rw [hgr]; exact hk2
      · rw [hgr, hslot]
        split
        · rename_i hj
          subst hj
          exact ⟨fun h => absurd h hk1, nofun⟩
        · rename_i hj
          rw [← queued j, hq, List.mem_cons, or_iff_right hj]
      · rw [hgr, hslot]
        split
        · rename_i hj
          subst hj
          exact ⟨fun _ => rfl, fun _ => ⟨_, rfl, rfl⟩⟩
        · rename_i hj
          rw [← computing j, hc]
          refine ⟨?_, by simp⟩
          rintro ⟨c, h1, h2⟩
          cases h1
          exact absurd h2.symm hj
      · rw [hgr]; nofun

theorem State.Lifecycle.startNext (h : s.Lifecycle) : s.startNext.Lifecycle :=
  State.lifecycle_startNext h.1 h.2.fits

/-- A part whose slots live on and whose grading unit sees the same. -/
theorem State.Lifecycle.of_kept (h : s.Lifecycle) (hg : t.grader = s.grader)
    (hs : ∀ j, (t.slot j).Lifecycle ∧ (s.slot j).StepKept (t.slot j)) : t.Lifecycle := by
  obtain ⟨-, nodup, queued, computing, idle⟩ := h
  refine ⟨fun j => (hs j).1, ?_, fun j => ?_, fun j => ?_, ?_⟩
  · rw [hg]; exact nodup
  · rw [hg, queued j]; exact (hs j).2.1.symm
  · rw [hg, computing j]; exact (hs j).2.2.symm
  · rw [hg]; exact idle

theorem State.Lifecycle.of_eq (h : s.Lifecycle) (hg : t.grader = s.grader) (hs : t.slots = s.slots) : t.Lifecycle :=
  h.of_kept hg fun j => by rw [State.slot_congr hs j]; exact ⟨h.1 j, .of_eq rfl⟩

/-- Only slot `i` changes, and the grading unit sees the same of it. -/
theorem State.Lifecycle.of_one (h : s.Lifecycle) (hg : t.grader = s.grader) (hne : ∀ j ≠ i, t.slot j = s.slot j)
    (hi : (t.slot i).Lifecycle) (hk : (s.slot i).StepKept (t.slot i)) : t.Lifecycle := by
  refine h.of_kept hg fun j => ?_
  by_cases hj : j = i
  · subst hj; exact ⟨hi, hk⟩
  · rw [hne j hj]; exact ⟨h.1 j, .of_eq rfl⟩

/-- The list of the grading unit without slot `i`, which no longer waits in it. -/
theorem State.Lifecycle.withdrawn (h : s.Lifecycle)
    (hg : t.grader = { s.grader with queue := s.grader.queue.filter (· != i) })
    (hne : ∀ j ≠ i, t.slot j = s.slot j) (hi : (t.slot i).Lifecycle) (hq : (t.slot i).closing.step ≠ .queued)
    (hc : (t.slot i).closing.step = .computing ↔ (s.slot i).closing.step = .computing) : t.Lifecycle := by
  obtain ⟨hl, nodup, queued, computing, idle⟩ := h
  refine ⟨fun j => ?_, ?_, fun j => ?_, fun j => ?_, ?_⟩
  · by_cases hj : j = i
    · subst hj; exact hi
    · rw [hne j hj]; exact hl j
  · rw [hg]; exact nodup.filter _
  · rw [hg, List.mem_filter, bne_iff_ne]
    by_cases hj : j = i
    · subst hj
      exact ⟨fun h => absurd rfl h.2, fun h => absurd h hq⟩
    · rw [hne j hj, queued j, and_iff_left hj]
  · rw [hg]
    dsimp only
    rw [computing j]
    by_cases hj : j = i
    · subst hj; exact hc.symm
    · rw [hne j hj]
  · rw [hg]
    intro hn
    dsimp only
    rw [idle hn]
    rfl

/-! ## The moves -/

theorem GradingStep.afterFault_ne_queued (g : GradingStep) : g.afterFault ≠ .queued := by cases g <;> nofun

theorem GradingStep.afterFault_computing (g : GradingStep) : g.afterFault = .computing ↔ g = .computing := by
  cases g <;> simp [GradingStep.afterFault]

theorem Slot.faulted_step (k : SlotId) (now : Nat) (bins : List BinEntry) (cause : FaultCause) (sl : Slot) :
    (sl.faulted k now bins cause).closing.step = sl.closing.step.afterFault := by
  unfold Slot.faulted
  dsimp only
  split
  · change ((Act.start sl).fault k now cause).sl.closing.step = _
    rw [Act.fault_closing, Act.start_sl]
  · rw [Act.fault_closing, Act.start_sl]

theorem State.testRelease_grader (s : State) (i : SlotId) : (s.testRelease i).grader = s.grader := by
  unfold State.testRelease
  split <;> simp

theorem State.testRelease_slot_ne (s : State) {i j : SlotId} (hj : j ≠ i) : (s.testRelease i).slot j = s.slot j := by
  unfold State.testRelease
  split
  · exact State.slot_modSlot_ne _ _ hj
  · rfl

theorem State.faultSlot_grader (s : State) (i : SlotId) (cause : FaultCause) :
    (s.faultSlot i cause).grader = { s.grader with queue := s.grader.queue.filter (· != i) } :=
  State.testRelease_grader _ _

theorem State.faultSlot_slot_ne (s : State) {i j : SlotId} (cause : FaultCause) (hj : j ≠ i) :
    (s.faultSlot i cause).slot j = s.slot j :=
  (State.testRelease_slot_ne _ hj).trans (State.commit_slot_ne s _ hj)

theorem State.trip_slot_ne (s : State) {i j : SlotId} (hj : j ≠ i) : (s.trip i).slot j = s.slot j := by
  rw [State.trip_eq, State.slot_modSlot_ne _ _ hj, State.tripFault]
  split
  · rw [State.slot_modSlot_ne _ _ hj, State.slot_modSlot_ne _ _ hj]
  · rw [State.faultSlot_slot_ne _ _ hj, State.slot_modSlot_ne _ _ hj]

/-- A trip withdraws the slot's request, but on a slot already FAULTED, which has none. -/
theorem State.trip_grader (s : State) (i : SlotId) :
    (s.trip i).grader =
      if (s.slot i).sup.phase = .faulted then s.grader
      else { s.grader with queue := s.grader.queue.filter (· != i) } := by
  have hp : ((s.modSlot i Slot.tripPower).slot i).sup.phase = (s.slot i).sup.phase := by
    rw [State.slot_modSlot]
    rfl
  rw [State.trip_eq, State.modSlot, State.setSlot_grader, State.tripFault, hp]
  split
  · rfl
  · exact State.faultSlot_grader _ _ _

theorem Slot.tripped_step (k : SlotId) (now : Nat) (bins : List BinEntry) (sl : Slot) :
    (sl.tripped k now bins).closing.step =
      if sl.sup.phase = .faulted then sl.closing.step else sl.closing.step.afterFault := by
  unfold Slot.tripped
  rw [Slot.raise_closing]
  split
  · rfl
  · exact Slot.faulted_step _ _ _ _ _

theorem State.Lifecycle.trip (h : s.Lifecycle) (hp : (s.slot i).sup.power = true) : (s.trip i).Lifecycle := by
  have hi : ((s.trip i).slot i).Lifecycle := by
    rw [State.trip_slot]
    exact (h.1 i).tripped i _ _ hp
  have hne : ∀ j ≠ i, (s.trip i).slot j = s.slot j := fun j hj => State.trip_slot_ne s hj
  have hg := s.trip_grader i
  have hs : ((s.trip i).slot i).closing.step = if (s.slot i).sup.phase = .faulted then (s.slot i).closing.step
      else (s.slot i).closing.step.afterFault := by
    rw [State.trip_slot, Slot.tripped_step]
  split at hg
  · rename_i hf
    rw [if_pos hf] at hs
    exact h.of_one hg hne hi (.of_eq hs)
  · rename_i hf
    rw [if_neg hf] at hs
    refine h.withdrawn hg hne hi ?_ ?_
    · rw [hs]; exact GradingStep.afterFault_ne_queued _
    · rw [hs]; exact GradingStep.afterFault_computing _

/-- The end of the drain joins the slot to the list (R147, R148). -/
theorem State.Lifecycle.testDrain (h : s.Lifecycle) : (s.testDrain i).Lifecycle := by
  obtain he | ⟨hs, -, he⟩ := s.testDrain_cases i
  · rw [he]; exact h
  rw [he]
  obtain ⟨hl, nodup, queued, computing, -⟩ := h
  have hi : i ∉ s.grader.queue := fun hm => by
    rw [queued i, hs] at hm
    cases hm
  have hslot (j : SlotId) : (({ s with grader := { s.grader with queue := s.grader.queue ++ [i] } } : State).setSlot i
      ((s.slot i).setStep .queued)).slot j = if j = i then (s.slot i).setStep .queued else s.slot j := by
    rw [State.slot_setSlot_eq]
    rfl
  refine State.lifecycle_startNext (fun j => ?_) ⟨?_, fun j => ?_, fun j => ?_⟩
  · rw [hslot]
    split
    · exact (hl i).queued hs
    · exact hl j
  · rw [State.setSlot_grader]
    exact List.nodup_append.mpr ⟨nodup, List.nodup_singleton i, fun j hj k hk => by
      rw [List.mem_singleton.mp hk]
      exact fun hji => hi (hji ▸ hj)⟩
  · rw [hslot, State.setSlot_grader, List.mem_append, List.mem_singleton]
    split
    · rename_i hj
      exact ⟨fun _ => rfl, fun _ => .inr hj⟩
    · rename_i hj
      rw [or_iff_left hj]
      exact queued j
  · rw [hslot, State.setSlot_grader]
    dsimp only
    rw [computing j]
    split
    · rename_i hj
      subst hj
      rw [hs]
      exact ⟨nofun, nofun⟩
    · rfl

/-- The unit goes idle: slot `i`, which it computed, takes a slot with no step, and the next computation starts (R148,
R155, R157). -/
theorem State.Lifecycle.next {u : State} {c : Computation} (h : s.Lifecycle) (hc : s.grader.current = some c)
    (hi : c.slot = i) (hg : u.grader = { s.grader with current := none }) (hne : ∀ j ≠ i, u.slot j = s.slot j)
    (hl : (u.slot i).Lifecycle) (hs : (u.slot i).closing.step = .none) : u.startNext.Lifecycle := by
  subst hi
  obtain ⟨hlife, nodup, queued, computing, -⟩ := h
  have hcs : (s.slot c.slot).closing.step = .computing := (computing _).mp ⟨c, hc, rfl⟩
  refine State.lifecycle_startNext (fun j => ?_) ⟨?_, fun j => ?_, fun j => ?_⟩
  · by_cases hj : j = c.slot
    · rw [hj]; exact hl
    · rw [hne j hj]; exact hlife j
  · rw [hg]; exact nodup
  · rw [hg]
    dsimp only
    rw [queued j]
    by_cases hj : j = c.slot
    · rw [hj, hs, hcs]; exact ⟨nofun, nofun⟩
    · rw [hne j hj]
  · rw [hg]
    refine ⟨(by rintro ⟨d, hd, -⟩; cases hd), fun hj => ?_⟩
    by_cases hjc : j = c.slot
    · rw [hjc, hs] at hj; cases hj
    · rw [hne j hjc, ← computing j] at hj
      obtain ⟨d, hd, hdj⟩ := hj
      rw [hc] at hd
      cases hd
      exact absurd hdj.symm hjc

theorem State.Lifecycle.completeComputation {c : Computation} (h : s.Lifecycle) (hc : s.grader.current = some c) :
    s.completeComputation.Lifecycle := by
  rw [State.completeComputation_of hc]
  have hcs : (s.slot c.slot).closing.step = .computing := (h.2.computing _).mp ⟨c, hc, rfl⟩
  refine h.next hc rfl rfl (fun j hj => State.commit_slot_ne _ _ hj) ?_ ?_
  · rw [State.commit_slot]
    exact (h.1 c.slot).graded_end hcs _ _
  · rw [State.commit_slot]; rfl

theorem State.Move.lifecycle (h : State.Move i s t) (hs : s.Lifecycle) : t.Lifecycle := by
  cases h with
  | @op sl out h =>
    refine hs.of_one (i := i) rfl (fun j hj => State.slot_setSlot_ne s sl hj) ?_ ?_
    · have : ((s.setSlot i sl).say out).slot i = sl := State.slot_setSlot s i sl
      rw [this]; exact h.lifecycle (hs.1 i)
    · have : ((s.setSlot i sl).say out).slot i = sl := State.slot_setSlot s i sl
      rw [this]; exact h.stepKept (hs.1 i)
  | advance due => exact hs.of_kept (by cases due <;> rfl) fun j => by rw [State.advanceTo_slot]; exact ⟨hs.1 j, .of_eq rfl⟩
  | drain => exact hs.testDrain
  | start => exact hs.startNext
  | @fault cause hc hp =>
    refine hs.withdrawn (i := i) (State.faultSlot_grader s i _) (fun j hj => State.faultSlot_slot_ne s _ hj) ?_ ?_ ?_
    all_goals rw [State.faultSlot_slot]
    · exact (hs.1 i).faulted i _ _ hc hp
    · rw [Slot.faulted_step]; exact GradingStep.afterFault_ne_queued _
    · rw [Slot.faulted_step]; exact GradingStep.afterFault_computing _
  | trip hp => exact hs.trip hp
  | complete hc hi => exact hs.completeComputation hc

theorem State.Moves.lifecycle (h : State.Moves i s t) (hs : s.Lifecycle) : t.Lifecycle := by
  induction h with
  | refl => exact hs
  | tail _ hm ih => exact hm.lifecycle ih

/-- A carrier's removal (R133). -/
theorem State.Lifecycle.removeCarrier (h : s.Lifecycle) : (s.removeCarrier i).Lifecycle := by
  have he : (s.emptySlot i).slot i =
      (s.slot i).emptied { carrier := false, latch := (s.slot i).sup.latch } s.shelf.recipe := State.slot_setSlot _ _ _
  have hne : ∀ j ≠ i, (s.emptySlot i).slot j = s.slot j := fun j hj => State.slot_setSlot_ne _ _ hj
  have hl : ((s.emptySlot i).slot i).Lifecycle := by rw [he]; exact Slot.lifecycle_emptied _ _
  have hs : ((s.emptySlot i).slot i).closing.step = .none := by rw [he]; rfl
  rw [State.removeCarrier_eq]
  -- Without its computation the emptied slot is one that the unit does not see.
  obtain ⟨hc, ha⟩ | ⟨⟨c, hc, hci⟩, ha⟩ := (s.emptySlot i).abandon_cases i
  · rw [ha]
    refine h.withdrawn (i := i) rfl hne hl (by rw [hs]; nofun) ?_
    rw [hs, ← h.2.computing i]
    exact ⟨nofun, fun ⟨c, h1, h2⟩ => absurd h2 (hc c h1)⟩
  · rw [ha]
    subst hci
    have hcs : (s.slot c.slot).closing.step = .computing := (h.2.computing _).mp ⟨c, hc, rfl⟩
    have hnq : c.slot ∉ s.grader.queue := fun hm => by
      rw [h.2.queued, hcs] at hm
      cases hm
    refine h.next hc rfl ?_ hne hl hs
    have hf : s.grader.queue.filter (· != c.slot) = s.grader.queue :=
      List.filter_eq_self.mpr fun j hj => bne_iff_ne.mpr fun hjc => hnq (hjc ▸ hj)
    change ({ queue := s.grader.queue.filter (· != c.slot), current := none } : Grader) = _
    rw [hf]

theorem State.lifecycle_shelfReset (s : State) (lines : List Lines) (memory : Option Block) :
    (s.shelfReset lines memory).Lifecycle := by
  have hstep (j : SlotId) : ((s.shelfReset lines memory).slot j).closing.step = .none := by
    rw [State.shelfReset_slot, Slot.shelfReset]
    dsimp only
    split
    · simp [Slot.attach, Slot.clearRecords, Closing.none]
    · rfl
  refine ⟨fun j => ?_, .nil, fun j => ?_, fun j => ?_, fun _ => rfl⟩
  · rw [State.shelfReset_slot]; exact Slot.lifecycle_shelfReset _ _
  · rw [hstep]; simp [State.shelfReset]
  · rw [hstep]; simp [State.shelfReset]

theorem State.Lifecycle.grant (h : s.Lifecycle) : s.grant.Lifecycle := by
  obtain he | ⟨i, -, -, he⟩ := s.grant_cases
  · rw [he]; exact h
  · rw [he]
    have hslot : (({ s.modSlot i (Slot.modJobs grantOldest) with engineLast := i } : State).slot i) =
        (s.slot i).modJobs grantOldest := State.slot_setSlot _ _ _
    refine h.of_one (i := i) rfl (fun j hj => State.slot_setSlot_ne _ _ hj) ?_ ?_
    · rw [hslot]; exact (h.1 i).of_eq rfl ⟨rfl, rfl⟩ rfl rfl rfl
    · rw [hslot]; exact .of_eq rfl

end Unit

/-- Settles O56: every move of the part keeps the slots' lives and the grading unit's list. -/
theorem lifecycleIsKept : Obligations.LifecycleIsKept := by
  intro s t hs h
  unfold step at h
  split at h
  · cases h
    exact hs.of_eq rfl rfl
  · rename_i c rest _
    have hs' : ({ s with pending := rest } : State).Lifecycle := hs.of_eq rfl rfl
    cases exec_follows h with
    | moves _ ho hm => exact hm.lifecycle (hs'.of_eq ho.grader ho.slots)
    | grant _ ht => rw [ht]; exact hs'.grant
    | remove _ _ ht => rw [ht]; exact hs'.removeCarrier
    | reset _ ht => rw [ht]; exact State.lifecycle_shelfReset _ _ _

end Sys2Proof.Machine


/-! PROOFS. What stays with a closed slot (R59, R79, R150, R155): table, recipe, coverage and grade record through every
move of the part. -/

namespace Sys2Proof.Machine

section Frozen

variable {a b m : Slot}

/-- Recipe, coverage and a grade record once written stay. -/
structure Slot.GradeKept (a b : Slot) : Prop where
  active   : b.active = a.active
  covered  : b.tally.writeCovered = a.tally.writeCovered
  verified : b.tally.verified = a.tally.verified
  grade    : ∀ g, a.closing.grade = some g → b.closing.grade = some g

theorem Slot.GradeKept.of_eq (ha : b.active = a.active) (ht : b.tally = a.tally)
    (hg : b.closing.grade = a.closing.grade) : a.GradeKept b :=
  ⟨ha, by rw [ht], by rw [ht], by rw [hg]; exact fun _ => id⟩

theorem Slot.GradeKept.refl (a : Slot) : a.GradeKept a := .of_eq rfl rfl rfl

theorem Slot.GradeKept.trans (h : a.GradeKept m) (g : m.GradeKept b) : a.GradeKept b :=
  ⟨g.active.trans h.active, g.covered.trans h.covered, g.verified.trans h.verified,
    fun r hr => g.grade r (h.grade r hr)⟩

/-- A slot that goes on with no write or read pass running keeps them. -/
theorem Slot.Continues.gradeKept (h : a.Continues b)
    (hp : ¬(a.pass.state = .running ∧ (a.pass.kind = .write ∨ a.pass.kind = .read))) : a.GradeKept b := by
  obtain hr | ⟨h1, h2⟩ := h.covered
  · exact absurd hr hp
  · exact ⟨h.active, h1, h2, by rw [h.closing]; exact fun _ => id⟩

/-- A closed slot is in none of the phases before GRADING (R150). -/
theorem Slot.Lifecycle.not_open (h : a.Lifecycle) (hc : a.sup.closed = true)
    (hp : a.sup.phase = .empty ∨ a.sup.phase = .attaching ∨ a.sup.phase = .ready ∨ a.sup.phase = .running ∨
      a.sup.phase = .held ∨ a.sup.phase = .soak) : False := by
  have hcl := h.closed hc
  obtain hp | hp | hp | hp | hp | hp := hp
  all_goals rw [hp] at hcl; cases hcl

/-- In a closed slot no write or read pass runs (R43). -/
theorem Slot.Lifecycle.no_pass (h : a.Lifecycle) (hc : a.sup.closed = true) :
    ¬(a.pass.state = .running ∧ (a.pass.kind = .write ∨ a.pass.kind = .read)) := fun hr =>
  h.not_open hc (.inr (.inr (.inr (.inl (h.running.mpr hr)))))

/-- Every operation of a closed slot keeps its grade. -/
theorem Slot.Op.gradeKept (h : a.Op b) (ha : a.Lifecycle) (hc : a.sup.closed = true) : a.GradeKept b := by
  have goesOn {x : Slot} (hx : a.Continues x) : a.GradeKept x := hx.gradeKept (ha.no_pass hc)
  have openPhase {p : Prop} := fun hp => (ha.not_open hc hp).elim (C := p)
  cases h with
  | touch h => exact .of_eq h.active h.tally (by rw [h.closing])
  | accept i hk _ h => exact goesOn (Slot.continues_accept i _)
  | holdRead _ _ => exact .of_eq rfl rfl rfl
  | adopt hp =>
    refine openPhase ?_
    obtain hp | hp | hp := hp
    all_goals simp [hp]
  | startPass write endless hp _ _ => exact openPhase (by simp [hp])
  | hold hp => exact openPhase (by simp [hp])
  | resume hp => exact openPhase (by simp [hp])
  | abort hp =>
    refine openPhase ?_
    obtain hp | hp := hp
    all_goals simp [hp]
  | endSoak hp => exact openPhase (by simp [hp])
  | abortShip _ => exact .of_eq (by simp [Slot.setPhase]) (by simp [Slot.setPhase]) (by simp [Slot.setPhase])
  | soak w hp => exact openPhase (by simp [hp])
  | close hn _ => rw [hc] at hn; cases hn
  | ship hp _ =>
    have harmed : a.GradeKept (a.armShip.setPhase .shipping) := ⟨rfl, rfl, rfl, fun _ => id⟩
    exact harmed.trans (Slot.continues_testPass.gradeKept fun ⟨_, hk⟩ => by obtain hk | hk := hk <;> cases hk)
  | release bins _ =>
    unfold Slot.release
    dsimp only
    split <;> exact .of_eq rfl rfl rfl
  | completeRelease bins _ _ => exact .of_eq rfl rfl rfl
  | resetSlot i t now default hn _ => rw [hc] at hn; cases hn
  | issue now number i _ _ _ _ _ => exact goesOn (Slot.continues_issueCmd _ _ _ _ _ _ _)
  | guardFail i now _ _ => exact goesOn (Slot.continues_guardFail _ _ _ _)
  | complete i now status data ident hf =>
    obtain hcont | ⟨mid, hcont, hp, -⟩ := a.completion_cases i now _ _ status data ident
    · exact goesOn hcont
    · obtain ⟨hn, -⟩ := ((a.lifecycle_iff.mp ha).1.continues hcont).unclosed (.inl hp)
      rw [hcont.closed, hc] at hn
      cases hn
  | generated d g => exact .of_eq rfl rfl rfl
  | checked i now t j => exact goesOn (Slot.continues_checkBurst _ _ _ _)
  | expire i now _ => exact goesOn (Slot.continues_expire i now _ _)
  | loseLink i now _ _ => exact goesOn (Slot.continues_linkReset i now)
  | dropLink _ _ => exact .of_eq rfl rfl rfl
  | resetDone _ _ => exact .of_eq rfl rfl rfl
  | requeue => exact .of_eq rfl rfl rfl
  | cameUp _ _ => exact .of_eq rfl rfl rfl
  | attach now default hp _ _ => exact openPhase (by simp [hp])
  | afterSample =>
    have hsoak {x : Slot} : x.GradeKept x.soakSample := by
      unfold Slot.soakSample
      dsimp only
      repeat' split
      all_goals exact ⟨rfl, rfl, rfl, fun _ => id⟩
    unfold Slot.afterSample
    split
    · exact Slot.GradeKept.trans (.of_eq (by simp) (by simp) (by simp)) hsoak
    · exact hsoak

theorem Slot.gradeKept_faulted (i : SlotId) (now : Nat) (bins : List BinEntry) (cause : FaultCause) :
    a.GradeKept (a.faulted i now bins cause) := by
  unfold Slot.faulted
  dsimp only
  split
  all_goals exact .of_eq (by simp [Act.fault]) (by simp [Act.fault]) (by simp [Act.fault, Slot.completeRelease, Slot.setPhase, Slot.powerOff])

/-- What stays with a closed slot. -/
structure Slot.Frozen (a b : Slot) : Prop where
  closed   : b.sup.closed = true
  extents  : b.defects.extents = a.defects.extents
  overflow : b.defects.overflow = a.defects.overflow
  kept     : a.GradeKept b

theorem Slot.Frozen.trans (h : a.Frozen m) (g : m.Frozen b) : a.Frozen b :=
  ⟨g.closed, g.extents.trans h.extents, g.overflow.trans h.overflow, h.kept.trans g.kept⟩

theorem Slot.Frozen.of_moves (hm : a.TableMoves b) (hk : a.GradeKept b) (hc : a.sup.closed = true) : a.Frozen b := by
  obtain ⟨h1, h2⟩ := hm.frozen hc
  exact ⟨hm.closed.trans hc, h1, h2, hk⟩

theorem Slot.Frozen.of_eq (h : b = a) (hc : a.sup.closed = true) : a.Frozen b := by
  subst h
  exact ⟨hc, rfl, rfl, .refl _⟩

theorem Slot.frozen_computing (a : Slot) : a.Frozen a.computing := ⟨rfl, rfl, rfl, ⟨rfl, rfl, rfl, fun _ => id⟩⟩

theorem Slot.Op.frozen (h : a.Op b) (ha : a.Lifecycle) (hc : a.sup.closed = true) : a.Frozen b := by
  obtain hm | ⟨-, hn | hp⟩ := h.tableMoves
  · exact .of_moves hm (h.gradeKept ha hc) hc
  · rw [hc] at hn; cases hn
  · exact (ha.not_open hc (.inl hp)).elim

theorem Slot.frozen_faulted (i : SlotId) (now : Nat) (bins : List BinEntry) (cause : FaultCause)
    (hc : a.sup.closed = true) : a.Frozen (a.faulted i now bins cause) :=
  .of_moves (Slot.tableMoves_faulted i now bins cause) (Slot.gradeKept_faulted i now bins cause) hc

theorem Slot.frozen_tripped (i : SlotId) (now : Nat) (bins : List BinEntry) (hp : a.sup.power = true)
    (hc : a.sup.closed = true) : a.Frozen (a.tripped i now bins) := by
  refine .of_moves (Slot.GradeOp.tripped i now bins hp).tableMoves ?_ hc
  unfold Slot.tripped
  split
  · exact .of_eq rfl rfl rfl
  · obtain ⟨h1, h2, h3, h4⟩ := Slot.gradeKept_faulted (a := a.tripPower) i now bins .trip
    exact ⟨h1, h2, h3, h4⟩

theorem Slot.frozen_graded (i : SlotId) (r : GradeRecord) (hg : a.closing.grade = none) (hc : a.sup.closed = true) :
    a.Frozen ((Act.start a).graded i r).sl :=
  ⟨hc, rfl, rfl, ⟨rfl, rfl, rfl, fun g h => by rw [hg] at h; cases h⟩⟩

end Frozen

section Moves

variable {s t : State} {i j : SlotId}

theorem State.frozen_startNext (hc : (s.slot j).sup.closed = true) : (s.slot j).Frozen (s.startNext.slot j) := by
  obtain he | ⟨k, rest, -, he⟩ := s.startNext_cases
  · exact .of_eq (by rw [he]) hc
  · rw [he, State.slot_setSlot_eq]
    split
    · rename_i hj
      subst hj
      exact (s.slot j).frozen_computing
    · exact .of_eq rfl hc

/-- Every move keeps what a closed slot holds. -/
theorem State.Move.frozen (h : State.Move i s t) (hs : s.Lifecycle) (hc : (s.slot j).sup.closed = true) :
    (s.slot j).Frozen (t.slot j) := by
  by_cases hj : j = i
  · subst hj
    cases h with
    | @op sl out h =>
      have hsl : ((s.setSlot j sl).say out).slot j = sl := State.slot_setSlot s j sl
      rw [hsl]
      exact h.frozen (hs.1 j) hc
    | advance due => exact .of_eq (by simp) hc
    | drain =>
      obtain he | ⟨hd, -, -⟩ := s.testDrain_cases j
      · exact .of_eq (by rw [he]) hc
      · obtain ⟨-, hn⟩ := (hs.1 j).waiting (.inl hd)
        rw [hc] at hn
        cases hn
    | start => exact State.frozen_startNext hc
    | fault _ _ =>
      rw [State.faultSlot_slot]
      exact Slot.frozen_faulted _ _ _ _ hc
    | trip hp =>
      rw [State.trip_slot]
      exact Slot.frozen_tripped _ _ _ hp hc
    | @complete c hcur hi =>
      subst hi
      have hstep := (hs.2.computing c.slot).mp ⟨c, hcur, rfl⟩
      obtain ⟨-, hg⟩ := (hs.1 c.slot).computing hstep
      rw [State.completeComputation_of hcur]
      have hgraded : (s.slot c.slot).Frozen
          ((s.unitIdle.commit c.slot ((Act.start (s.slot c.slot)).graded c.slot c.record)).slot c.slot) := by
        rw [State.commit_slot]
        exact Slot.frozen_graded _ _ hg hc
      exact hgraded.trans (State.frozen_startNext hgraded.closed)
  · obtain he | ⟨-, he⟩ := h.beside.slots j hj
    · exact .of_eq he hc
    · rw [he]; exact (s.slot j).frozen_computing

theorem State.Moves.frozen (h : State.Moves i s t) (hs : s.Lifecycle) (hc : (s.slot j).sup.closed = true) :
    (s.slot j).Frozen (t.slot j) := by
  induction h with
  | refl => exact .of_eq rfl hc
  | tail hms hm ih => exact ih.trans (hm.frozen (State.Moves.lifecycle hms hs) ih.closed)

theorem State.frozen_grant (hc : (s.slot j).sup.closed = true) : (s.slot j).Frozen (s.grant.slot j) := by
  obtain he | ⟨k, -, -, he⟩ := s.grant_cases
  · exact .of_eq (by rw [he]) hc
  · have hslot : (s.grant).slot j = if j = k then (s.slot k).modJobs grantOldest else s.slot j := by
      rw [he]
      exact State.slot_setSlot_eq s k j _
    rw [hslot]
    split
    · rename_i hj
      subst hj
      exact ⟨hc, rfl, rfl, .of_eq rfl rfl rfl⟩
    · exact .of_eq rfl hc

/-- Another slot's carrier removal starts at most this slot's computation. -/
theorem State.frozen_removeCarrier (hj : j ≠ i) (hc : (s.slot j).sup.closed = true) :
    (s.slot j).Frozen ((s.removeCarrier i).slot j) := by
  obtain he | ⟨-, he⟩ := (State.beside_removeCarrier (s := s) (i := i)).slots j hj
  · exact .of_eq he hc
  · rw [he]; exact (s.slot j).frozen_computing

end Moves

/-- Settles O60: a command is moves of slots that live, and every move keeps what a closed slot holds. -/
theorem closedSlotKeepsItsGrade : Obligations.ClosedSlotKeepsItsGrade := by
  intro c s t i hs hc h hremove hreset
  have hf : (s.slot i).Frozen (t.slot i) := by
    cases exec_follows h with
    | @moves k s0 _ ho hm =>
      have hi := State.slot_congr ho.slots i
      rw [← hi] at hc ⊢
      exact hm.frozen (hs.of_eq ho.grader ho.slots) hc
    | grant _ ht => rw [ht]; exact State.frozen_grant hc
    | @remove k hk _ ht =>
      rw [ht]
      exact State.frozen_removeCarrier (fun hi => hremove (hi ▸ hk)) hc
    | reset hr _ => exact (hreset _ _ hr).elim
  obtain ⟨h1, h2, h3, h4, h5, h6, h7⟩ := hf
  exact ⟨h1, h2, h3, h4, h5, h6, h7⟩

end Sys2Proof.Machine


/-! PROOFS. Zone maps and the remaining count (R1, R23, R26, R38, R45, R54): what ranges, arming, laps and adoptions do to
them, and that every operation keeps them. -/

namespace Sys2Proof.Machine

section Ranges

variable {g : Region} {zs : List Zone}

/-! ## Ranges keep the frontiers inside their zones -/

/-- Every zone's frontiers lie inside it (R26). -/
def ZonesFit (g : Region) (zs : List Zone) : Prop :=
  ∀ k z, zs[k]? = some z → z.wf ≤ g.lengthOf k ∧ z.rf ≤ g.lengthOf k

/-- No zone holds an epoch that is neither counted nor the wipe epoch (R45). -/
def EpochsKnown (n : Nat) (zs : List Zone) : Prop := ∀ z ∈ zs, z.current ≤ n ∨ z.current = Config.wipeEpoch

theorem Region.lengthOf_eq (h : g.enabled = true) (k : Nat) :
    min g.zoneLength (g.stop - (g.first + k * g.zoneLength)) = g.lengthOf k := by
  rw [Region.lengthOf, Region.blocks, if_pos h, Nat.sub_sub]

/-- A change of portions that keeps the frontiers inside keeps them inside in all zones. -/
theorem ZonesFit.portions {m : ZoneMap} (h : ZonesFit m.region m.zones) (he : m.region.enabled = true)
    {f : Nat → Nat → Nat → Zone → Zone} (lo hi : Nat)
    (hf : ∀ a b len z, b ≤ len → z.wf ≤ len ∧ z.rf ≤ len → (f a b len z).wf ≤ len ∧ (f a b len z).rf ≤ len) :
    ZonesFit m.region (m.portions f lo hi) := by
  intro k z hz
  rw [ZoneMap.portions, overZones_getElem?] at hz
  obtain ⟨y, hy, hyz⟩ := Option.map_eq_some_iff.mp hz
  have hfit := h k y hy
  dsimp only at hyz
  rw [Region.lengthOf_eq he] at hyz
  subst hyz
  split
  · exact hf _ _ _ y (by omega) hfit
  · exact hfit

theorem EpochsKnown.portions {m : ZoneMap} {n : Nat} (h : EpochsKnown n m.zones) {f : Nat → Nat → Nat → Zone → Zone}
    (lo hi : Nat) (hf : ∀ a b len z, (f a b len z).current = z.current) : EpochsKnown n (m.portions f lo hi) :=
  overZones_forall _ f (fun a b len z hz => by rw [hf]; exact hz) _ _ _ _ _ _ h

/-! ## What an issue does to one zone -/

theorem Zone.stamp_fits (e : Nat) (held : Bool) (a b len : Nat) (z : Zone) (hb : b ≤ len) (h : z.wf ≤ len ∧ z.rf ≤ len) :
    (z.stamp e held a b len).wf ≤ len ∧ (z.stamp e held a b len).rf ≤ len := by
  obtain ⟨hw, hr⟩ := h
  unfold Zone.stamp Zone.outrun Zone.stampHeld Zone.stampRunning
  repeat' split
  all_goals exact ⟨by grind, hr⟩

theorem Zone.foreign_fits (a b len : Nat) (z : Zone) (_hb : b ≤ len) (h : z.wf ≤ len ∧ z.rf ≤ len) :
    (z.foreign a b len).wf ≤ len ∧ (z.foreign a b len).rf ≤ len :=
  ⟨(Nat.min_le_left _ _).trans h.1, h.2⟩

theorem Zone.readOver_fits (held : Bool) (a b len : Nat) (z : Zone) (hb : b ≤ len) (h : z.wf ≤ len ∧ z.rf ≤ len) :
    (z.readOver held a b len).wf ≤ len ∧ (z.readOver held a b len).rf ≤ len := by
  obtain ⟨hw, hr⟩ := h
  unfold Zone.readOver
  repeat' split
  all_goals exact ⟨hw, by grind⟩

theorem Zone.stamp_current (e : Nat) (held : Bool) (a b len : Nat) (z : Zone) :
    (z.stamp e held a b len).current = z.current := by
  unfold Zone.stamp Zone.outrun Zone.stampHeld Zone.stampRunning
  repeat' split
  all_goals rfl

theorem Zone.readOver_current (held : Bool) (a b len : Nat) (z : Zone) :
    (z.readOver held a b len).current = z.current := by
  unfold Zone.readOver
  repeat' split
  all_goals rfl

/-! ## Arming -/

theorem Zone.fits_arm (e len : Nat) (z : Zone) (h : z.wf ≤ len ∧ z.rf ≤ len) :
    (z.arm e len).wf ≤ len ∧ (z.arm e len).rf ≤ len := by
  obtain ⟨hw, hr⟩ := h
  unfold Zone.arm
  repeat' split
  all_goals exact ⟨by grind, hr⟩

theorem Zone.current_arm (e len : Nat) (z : Zone) : (z.arm e len).current = e := by
  unfold Zone.arm
  by_cases h : z.current = e
  · rw [if_pos h]
    exact h
  · rw [if_neg h]
    repeat' split
    all_goals rfl

/-- Arming with an epoch that the zone does not have starts its write frontier again (R29). -/
theorem Zone.wf_arm (e len : Nat) (z : Zone) (h : z.current ≠ e) : (z.arm e len).wf = 0 := by
  unfold Zone.arm
  rw [if_neg h]
  repeat' split
  all_goals rfl

/-- Every zone of the map that a region gives begins inside the region (R25). -/
theorem Region.zone_begins (g : Region) {k : Nat} (hk : k < g.zoneCount) : k * g.zoneLength < g.blocks := by
  have hz : 0 < g.zoneLength := by
    rw [Nat.pos_iff_ne_zero]
    intro h0
    rw [Region.zoneCount, h0, Nat.div_zero] at hk
    omega
  rw [Region.zoneCount, Nat.lt_iff_add_one_le, Nat.le_div_iff_mul_le hz, Nat.succ_mul] at hk
  omega

/-- What is done to every zone is done to each of them, all of it. -/
theorem ZoneMap.every_getElem? (m : ZoneMap) (he : m.region.enabled = true) (hc : m.zones.length = m.region.zoneCount)
    (f : Nat → Zone → Zone) (k : Nat) :
    (m.every f)[k]? = m.zones[k]?.map (f (m.region.lengthOf k)) := by
  rw [ZoneMap.every, ZoneMap.portions, overZones_getElem?]
  cases hz : m.zones[k]? with
  | none => rfl
  | some z =>
    have hk : k < m.region.zoneCount := by
      rw [← hc]
      exact (List.getElem?_eq_some_iff.mp hz).1
    have hb := m.region.zone_begins hk
    simp only [Region.blocks, if_pos he] at hb
    simp only [Option.map_some]
    rw [Region.lengthOf_eq he, if_pos]
    rw [← Region.lengthOf_eq he]
    have hz0 : 0 < m.region.zoneLength := by
      rw [Nat.pos_iff_ne_zero]
      intro h0
      rw [Region.zoneCount, h0, Nat.div_zero] at hk
      omega
    omega

theorem ZoneMap.mem_every (m : ZoneMap) (he : m.region.enabled = true) (hc : m.zones.length = m.region.zoneCount)
    {f : Nat → Zone → Zone} {z : Zone} (hz : z ∈ m.every f) : ∃ len, ∃ y ∈ m.zones, z = f len y := by
  obtain ⟨k, hk, hkz⟩ := List.mem_iff_getElem.mp hz
  have hget := m.every_getElem? he hc f k
  rw [List.getElem?_eq_getElem hk, hkz] at hget
  obtain ⟨y, hy, hyz⟩ := Option.map_eq_some_iff.mp hget.symm
  exact ⟨_, y, List.mem_of_getElem? hy, hyz.symm⟩

theorem sumWF_zero (h : ∀ z ∈ zs, z.wf = 0) : sumWF zs = 0 := by
  rw [sumWF]
  exact List.sum_eq_zero fun n hn => by
    obtain ⟨z, hz, rfl⟩ := List.mem_map.mp hn
    exact h z hz

theorem sumRF_clear (zs : List Zone) : sumRF (zs.map Zone.clearRF) = 0 := by
  rw [sumRF]
  exact List.sum_eq_zero fun n hn => by
    simp only [List.mem_map] at hn
    obtain ⟨_, ⟨z, _, rfl⟩, rfl⟩ := hn
    rfl

theorem ZonesFit.clear (h : ZonesFit g zs) : ZonesFit g (zs.map Zone.clearRF) := by
  intro k z hz
  rw [List.getElem?_map] at hz
  obtain ⟨y, hy, rfl⟩ := Option.map_eq_some_iff.mp hz
  exact ⟨(h k y hy).1, Nat.zero_le _⟩

theorem EpochsKnown.clear {n : Nat} (h : EpochsKnown n zs) : EpochsKnown n (zs.map Zone.clearRF) := by
  intro z hz
  obtain ⟨y, hy, rfl⟩ := List.mem_map.mp hz
  exact h y hy

end Ranges

section Maps

variable {a b m : Slot}

/-! ## The slot's map and count -/

/-- Map and count of a slot are as R23, R26, R38, R45 and R54 require. -/
def Slot.MapOk (sl : Slot) : Prop := sl.MapWF ∧ sl.Counted

theorem Slot.mapOk_iff (sl : Slot) : sl.MapOk ↔
    sl.zmap.region = deriveRegion sl.active sl.ident ∧ sl.key = slotKey sl.ident sl.active ∧
      sl.zmap.zones.length = (if sl.zmap.region.enabled then sl.zmap.region.zoneCount else 0) ∧
      ZonesFit sl.zmap.region sl.zmap.zones ∧ EpochsKnown sl.tally.writeEpochs sl.zmap.zones ∧
      (sl.pass.active = true → sl.pass.remaining = sl.zmap.region.blocks - sl.pass.kind.covered sl.zmap.zones) :=
  ⟨fun ⟨⟨h1, h2, h3, h4⟩, ⟨h5, h6⟩⟩ => ⟨h1, h2, h3, h4, h6, h5⟩,
    fun ⟨h1, h2, h3, h4, h6, h5⟩ => ⟨⟨h1, h2, h3, h4⟩, ⟨h5, h6⟩⟩⟩

/-- The records of map and count are the same, and a pass that is active was. -/
structure Slot.MapKept (a b : Slot) : Prop where
  ident  : b.ident = a.ident
  key    : b.key = a.key
  active : b.active = a.active
  zmap   : b.zmap = a.zmap
  epochs : b.tally.writeEpochs = a.tally.writeEpochs
  pass   : b.pass.active = true → a.pass.active = true ∧ b.pass.remaining = a.pass.remaining ∧ b.pass.kind = a.pass.kind

theorem Slot.MapOk.kept (h : a.MapOk) (hk : a.MapKept b) : b.MapOk := by
  rw [Slot.mapOk_iff] at h ⊢
  obtain ⟨h1, h2, h3, h4, h5, h6⟩ := h
  rw [hk.zmap, hk.active, hk.ident, hk.key, hk.epochs]
  refine ⟨h1, h2, h3, h4, h5, fun hp => ?_⟩
  obtain ⟨hp, hr, hkind⟩ := hk.pass hp
  rw [hr, hkind]
  exact h6 hp

theorem Slot.MapKept.of_pass (hi : b.ident = a.ident) (hk : b.key = a.key) (ha : b.active = a.active)
    (hz : b.zmap = a.zmap) (ht : b.tally = a.tally) (hp : b.pass = a.pass) : a.MapKept b :=
  ⟨hi, hk, ha, hz, by rw [ht], by rw [hp]; exact fun h => ⟨h, rfl, rfl⟩⟩

/-- A slot whose map records and pass are those of one that is as required. -/
theorem Slot.MapOk.of_eq (h : a.MapOk) (hi : b.ident = a.ident) (hk : b.key = a.key) (ha : b.active = a.active)
    (hz : b.zmap = a.zmap) (ht : b.tally = a.tally) (hp : b.pass = a.pass) : b.MapOk :=
  h.kept (.of_pass hi hk ha hz ht hp)

theorem Slot.MapOk.modCmds (h : a.MapOk) (f : List Cmd → List Cmd) : (a.modCmds f).MapOk :=
  h.of_eq rfl rfl rfl rfl rfl rfl

theorem Slot.MapOk.modTraffic (h : a.MapOk) (f : Traffic → Traffic) : (a.modTraffic f).MapOk :=
  h.of_eq rfl rfl rfl rfl rfl rfl

theorem Slot.MapOk.modTiming (h : a.MapOk) (f : Timing → Timing) : (a.modTiming f).MapOk :=
  h.of_eq rfl rfl rfl rfl rfl rfl

theorem Slot.MapOk.modLink (h : a.MapOk) (f : Link → Link) : (a.modLink f).MapOk :=
  h.of_eq rfl rfl rfl rfl rfl rfl

theorem Slot.MapOk.raise (h : a.MapOk) (f : EventFlag) : (a.raise f).MapOk := h.of_eq rfl rfl rfl rfl rfl rfl

theorem Slot.MapOk.takeRun (h : a.MapOk) (now : Nat) (r : Run) : (a.takeRun now r).MapOk := by
  obtain ⟨n, hn⟩ := a.takeRun_pass now r
  exact h.kept ⟨by simp, by simp, by simp, by simp, by simp, by rw [hn]; exact fun h => ⟨h, rfl, rfl⟩⟩

theorem Slot.MapOk.takeRuns (h : a.MapOk) (now : Nat) (rs : List Run) : (a.takeRuns now rs).MapOk := by
  induction rs generalizing a with
  | nil => exact h
  | cons r rs ih => exact ih (h.takeRun now r)

theorem Slot.MapOk.takeCoverage (h : a.MapOk) (rs : List (Nat × Nat)) : (a.takeCoverage rs).MapOk :=
  h.of_eq (by simp) (by simp) (by simp) (by simp) (by simp) (by simp)

theorem Slot.MapOk.join (h : a.MapOk) (c : Cmd) : (a.join c).MapOk := by
  refine h.kept ⟨by simp, by simp, by simp, by simp, by simp, ?_⟩
  unfold Slot.join
  split <;> exact fun h => ⟨h, rfl, rfl⟩

theorem Slot.MapOk.joinAtIssue (h : a.MapOk) (c : Cmd) : (a.joinAtIssue c).MapOk := by
  unfold Slot.joinAtIssue
  split
  · exact h
  · exact h.join c

theorem Slot.MapOk.finishCount (h : a.MapOk) (n : Option Nat) : (a.finishCount n).MapOk := by
  obtain ⟨m, hm⟩ := Slot.finishCount_pass n a
  exact h.kept ⟨by simp, by simp, by simp, by simp, by simp, by rw [hm]; exact fun h => ⟨h, rfl, rfl⟩⟩

/-! ## The end of a pass -/

theorem Slot.endLap_zmap (sl : Slot) :
    sl.endLap.zmap = { sl.zmap with zones := sl.zmap.zones.map Zone.clearRF } := by
  simp [Slot.endLap, Slot.clearReadFrontiers]

theorem Slot.endLap_pass (sl : Slot) :
    sl.endLap.pass = { sl.pass with laps := satAdd Config.max32 sl.pass.laps 1, remaining := sl.zmap.region.blocks } := by
  simp [Slot.endLap, Slot.clearReadFrontiers]

theorem Slot.endLap_writeEpochs (sl : Slot) : sl.endLap.tally.writeEpochs = sl.tally.writeEpochs := by
  simp [Slot.endLap, Slot.clearReadFrontiers, Tally.readDone]

/-- A lap starts with every read frontier at 0 and all blocks remaining (R57). -/
theorem Slot.MapOk.endLap (h : a.MapOk) (hk : a.pass.kind = .read) : a.endLap.MapOk := by
  rw [Slot.mapOk_iff] at h ⊢
  obtain ⟨h1, h2, h3, h4, h5, -⟩ := h
  obtain ⟨-, -, hident, hkey, -, hactive, -⟩ := a.endLap_frame
  rw [a.endLap_zmap, a.endLap_pass, a.endLap_writeEpochs, hident, hkey, hactive]
  refine ⟨h1, h2, (List.length_map _).trans h3, h4.clear, h5.clear, fun _ => ?_⟩
  dsimp only
  rw [hk, PassKind.covered, sumRF_clear, Nat.sub_zero]

theorem Slot.completePass_pass (sl : Slot) : sl.completePass.pass = { sl.pass with state := .complete } := by
  unfold Slot.completePass
  dsimp only
  split
  case h_3 => simp
  all_goals rfl

theorem Slot.completePass_writeEpochs (sl : Slot) : sl.completePass.tally.writeEpochs = sl.tally.writeEpochs := by
  unfold Slot.completePass
  dsimp only
  split
  case h_3 => simp
  all_goals rfl

theorem Slot.MapOk.completePass (h : a.MapOk) : a.completePass.MapOk := by
  refine h.kept ⟨by simp, by simp, by simp, by simp, a.completePass_writeEpochs, fun hp => ?_⟩
  rw [a.completePass_pass] at hp
  cases hp

theorem Slot.MapOk.testPass (h : a.MapOk) : a.testPass.MapOk := by
  unfold Slot.testPass
  split
  · split
    · rename_i hk
      exact h.endLap hk.1
    · exact h.completePass
  · exact h

theorem Slot.MapOk.finish (h : a.MapOk) (n : Option Nat) : (a.finish n).MapOk := by
  unfold Slot.finish
  dsimp only
  split
  · exact (h.finishCount n).testPass
  · exact h.finishCount n

theorem Slot.MapOk.finishes (h : a.MapOk) (cs : List Cmd) : (cs.foldl (fun x c => x.finish c.serial) a).MapOk := by
  induction cs generalizing a with
  | nil => exact h
  | cons c cs ih => exact ih (h.finish c.serial)

theorem Slot.MapOk.finishCounts (h : a.MapOk) (cs : List Cmd) :
    (cs.foldl (fun x c => x.finishCount c.serial) a).MapOk := by
  induction cs generalizing a with
  | nil => exact h
  | cons c cs ih => exact ih (h.finishCount c.serial)

/-! ## Whole events -/

theorem Slot.MapOk.cancelAll (h : a.MapOk) (now : Nat) (cs : List Cmd) : (cs.foldl (Slot.cancelPosted now) a).MapOk := by
  induction cs generalizing a with
  | nil => exact h
  | cons c cs ih =>
    refine ih ?_
    unfold Slot.cancelPosted
    dsimp only
    split
    · exact h.modCmds _
    · exact (((h.takeRun _ _).raise _).modCmds _).finish _

theorem Act.linkReset_mapOk (i : SlotId) (now : Nat) (x : Act) (h : x.sl.MapOk) : (x.linkReset i now).sl.MapOk :=
  Slot.MapOk.finishes (Slot.MapOk.modCmds (Slot.MapOk.cancelAll (((h.modLink _).modTiming _).modTraffic _) _ _) _) _

theorem Slot.MapOk.expire (h : a.MapOk) (i : SlotId) (now : Nat) (d : DriveTag) (c : Cmd) :
    ((Act.start a).expire i now d c).sl.MapOk := by
  have hrun : (if c.hasRange then a.takeRun now (c.wholeRun .timeout) else a).MapOk := by
    split
    · exact h.takeRun _ _
    · exact h
  unfold Act.expire
  refine Act.linkReset_mapOk _ _ _ ?_
  cases c.tag with
  | none => exact (hrun.modTiming _).raise _
  | some t =>
    dsimp only [Act.say_sl, Act.mod_sl, Act.start_sl]
    exact Slot.MapOk.finish (Slot.MapOk.modTraffic ((hrun.modTiming _).raise _) _) _

theorem Act.completeRead_mapOk (i : SlotId) (now : Nat) (t : Tag) (c : Cmd) (x : Act) (h : x.sl.MapOk) :
    (x.completeRead i now t c).sl.MapOk :=
  Slot.MapOk.finish (Slot.MapOk.modCmds ((h.takeRuns _ _).takeCoverage _) _) _

theorem Slot.MapOk.checkBurst (h : a.MapOk) (i : SlotId) (now : Nat) (t : Tag) (j : Job) :
    (((Act.start a).mod (Slot.modJobs advanceJobs)).checkBurst i now t j).sl.MapOk := by
  have hjobs : ((Act.start a).mod (Slot.modJobs advanceJobs)).sl.MapOk := h.of_eq rfl rfl rfl rfl rfl rfl
  generalize (Act.start a).mod (Slot.modJobs advanceJobs) = x at *
  unfold Act.checkBurst
  split
  · exact hjobs
  · dsimp only
    split
    · exact Act.completeRead_mapOk _ _ _ _ _ hjobs
    · rw [Act.mod_sl]
      exact hjobs.modCmds _

/-! ## The map built -/

theorem ZoneMap.mem_build {g : Region} {z : Zone} (h : z ∈ (ZoneMap.build g).zones) : z = .blank := by
  rw [ZoneMap.build] at h
  dsimp only at h
  split at h
  · exact List.eq_of_mem_replicate h
  · cases h

/-- A slot with no pass and the map built for its region. -/
theorem Slot.mapOk_build (hz : a.zmap = .build (deriveRegion a.active a.ident)) (hk : a.key = slotKey a.ident a.active)
    (hp : a.pass.active = false) : a.MapOk := by
  rw [Slot.mapOk_iff, hz, hp]
  refine ⟨rfl, hk, ?_, fun k z hm => ?_, fun z hm => ?_, nofun⟩
  · rw [ZoneMap.build]
    dsimp only
    split <;> simp
  · rw [ZoneMap.mem_build (List.mem_of_getElem? hm)]
    exact ⟨Nat.zero_le _, Nat.zero_le _⟩
  · rw [ZoneMap.mem_build hm]
    exact .inl (Nat.zero_le _)

/-- Identification in a phase without a pass builds the map of the region it derives (R131). -/
theorem Slot.mapOk_identify (d : Identification) (hp : a.pass.active = false) : (a.identify d).MapOk := by
  refine Slot.mapOk_build rfl rfl ?_
  simpa using hp

/-- An adoption without a pass (R38, R175). -/
theorem Slot.MapOk.adopt (h : a.MapOk) (r : Recipe) (hp : a.pass.active = false) : (a.adopt r).MapOk := by
  by_cases hg : deriveRegion r.clamp a.ident = a.zmap.region
  · have hz : (a.adopt r).zmap = a.zmap := by
      simp [Slot.adopt, Slot.rederive, hg]
    have ht : (a.adopt r).tally = a.tally := by
      simp [Slot.adopt, Slot.rederive, hg]
    have ha : (a.adopt r).active = r.clamp := by
      simp [Slot.adopt]
    have hk : (a.adopt r).key = slotKey a.ident r.clamp := by
      simp [Slot.adopt]
    rw [Slot.mapOk_iff] at h ⊢
    obtain ⟨-, -, h3, h4, h5, -⟩ := h
    have hpass : (a.adopt r).pass.active = false := by rw [Slot.adopt_pass]; exact hp
    rw [hz, ht, ha, hk, hpass, (Slot.adopt_frame r a).2.1]
    exact ⟨hg.symm, rfl, h3, h4, h5, nofun⟩
  · refine Slot.mapOk_build ?_ ?_ (by rw [Slot.adopt_pass]; exact hp)
    · simp [Slot.adopt, Slot.rederive, hg]
    · simp [Slot.adopt]

/-- In a phase of no pass the pass is not active (R43). -/
theorem Slot.RecordsFit.inactive (h : a.RecordsFit) (hp : a.sup.phase.idle = true) : a.pass.active = false := by
  obtain ⟨h1, h2, -⟩ := (passFits_idle hp).mp h.pass
  simp [PassRecord.active, h1, h2]

theorem Slot.MapOk.testShipped (h : a.MapOk) : a.testShipped.MapOk :=
  h.of_eq (by simp) (by simp) (by simp) (by simp) (by simp) (by simp)

theorem Slot.MapOk.completionEffect (h : a.MapOk) (hr : a.RecordsFit) (c : Cmd) (status : DriveStatus)
    (ident : Identification) : (a.completionEffect c status ident).MapOk := by
  unfold Slot.completionEffect
  split
  · split
    · rename_i hp
      exact Slot.mapOk_identify ident (hr.inactive (by rw [hp.2]; rfl))
    · split
      · exact Slot.MapOk.testShipped (h.of_eq rfl rfl rfl rfl rfl rfl)
      · exact h
  · exact h

theorem Slot.MapOk.postReturned (h : a.MapOk) (now : Nat) (d : DriveTag) (c : Cmd) (status : DriveStatus) :
    (a.postReturned now d c status).MapOk := by
  cases status with
  | good => exact (h.modCmds _).finish _
  | error e => exact (((h.takeRun _ _).raise _).modCmds _).finish _

theorem Slot.MapOk.completion (h : a.MapOk) (hl : a.Lifecycle) (i : SlotId) (now : Nat) (d : DriveTag) (c : Cmd)
    (status : DriveStatus) (data : List Block) (ident : Identification) :
    ((Act.start a).completion i now d c status data ident).sl.MapOk := by
  have htime := h.modTiming (Timing.taken (now - c.issuedAt) a.active.slow.toNat (isGood status))
  have hcont := Slot.continues_modTiming (a := a) (Timing.taken (now - c.issuedAt) a.active.slow.toNat (isGood status))
  unfold Act.completion
  cases c.tag with
  | none => exact htime.postReturned _ _ _ _
  | some t =>
    dsimp only
    split
    · unfold Act.readReturned
      dsimp only
      split
      · refine Act.completeRead_mapOk _ _ _ _ _ ?_
        rw [Act.mod_sl]
        exact Slot.MapOk.modCmds htime _
      · rw [Act.mod_sl, Act.mod_sl]
        exact Slot.MapOk.modTraffic (Slot.MapOk.modCmds htime _) _
    · unfold Act.cmdReturned
      rw [Act.say_sl, Act.mod_sl]
      refine Slot.MapOk.completionEffect ?_ ?_ _ _ _
      · exact Slot.MapOk.finish (Slot.MapOk.modCmds (Slot.MapOk.takeRuns htime _ _) _) _
      · exact (a.lifecycle_iff.mp hl).1.continues (((hcont.trans (Slot.continues_takeRuns now (c.errorRuns status))).trans
          (Slot.continues_modCmds _)).trans (Slot.continues_finish c.serial))

/-! ## Issues -/

/-- The zones after an issue fit the map as those before did (R31 to R36). -/
theorem Slot.MapOk.zonesAfter (h : a.MapOk) (c : Cmd) (e : Nat) :
    (a.zonesAfter c e).length = a.zmap.zones.length ∧ ZonesFit a.zmap.region (a.zonesAfter c e) ∧
      EpochsKnown a.tally.writeEpochs (a.zonesAfter c e) := by
  obtain ⟨-, -, hlen, hfit, hepochs, -⟩ := a.mapOk_iff.mp h
  have hportions (f : Nat → Nat → Nat → Zone → Zone)
      (hf : ∀ a b len z, b ≤ len → z.wf ≤ len ∧ z.rf ≤ len → (f a b len z).wf ≤ len ∧ (f a b len z).rf ≤ len)
      (hc : ∀ a b len z, (f a b len z).current = z.current) (lo hi : Nat) :
      (a.zmap.portions f lo hi).length = a.zmap.zones.length ∧ ZonesFit a.zmap.region (a.zmap.portions f lo hi) ∧
        EpochsKnown a.tally.writeEpochs (a.zmap.portions f lo hi) := by
    refine ⟨by simp, ?_, hepochs.portions lo hi hc⟩
    by_cases he : a.zmap.region.enabled = true
    · exact hfit.portions he lo hi hf
    · rw [if_neg he] at hlen
      rw [ZoneMap.portions, List.eq_nil_of_length_eq_zero hlen]
      exact fun k z hz => by simp [overZones] at hz
  have hsame := And.intro (rfl : a.zmap.zones.length = a.zmap.zones.length) (And.intro hfit hepochs)
  unfold Slot.zonesAfter
  dsimp only
  split
  · split
    · exact hportions _ (Zone.readOver_fits _) (Zone.readOver_current _) _ _
    · split
      · exact hportions _ (Zone.stamp_fits _ _) (Zone.stamp_current _ _) _ _
      · exact hportions _ Zone.foreign_fits (fun _ _ _ _ => rfl) _ _
    all_goals exact hsame
  · exact hsame

theorem PassKind.frontiers_sum (k : PassKind) (zs : List Zone) : (k.frontiers zs).sum = k.covered zs := by
  cases k <;> rfl

/-- Remaining follows the frontiers (R54). -/
theorem Slot.moveZones_remaining (sl : Slot) (zs : List Zone) (hp : sl.pass.active = true) :
    (sl.moveZones zs).pass.remaining = sl.zmap.region.blocks - sl.pass.kind.covered zs ∧
      (sl.moveZones zs).pass.kind = sl.pass.kind := by
  unfold Slot.moveZones
  dsimp only
  rw [if_pos hp, PassKind.frontiers_sum]
  repeat' split
  all_goals exact ⟨rfl, rfl⟩

theorem Slot.moveZones_active (sl : Slot) (zs : List Zone) : (sl.moveZones zs).pass.active = sl.pass.active := by
  unfold Slot.moveZones
  dsimp only
  repeat' split
  all_goals rfl

theorem Slot.MapOk.moveZones (h : a.MapOk) {zs : List Zone} (hlen : zs.length = a.zmap.zones.length)
    (hfit : ZonesFit a.zmap.region zs) (hepochs : EpochsKnown a.tally.writeEpochs zs) : (a.moveZones zs).MapOk := by
  rw [Slot.mapOk_iff] at h ⊢
  obtain ⟨h1, h2, h3, -, -, -⟩ := h
  obtain ⟨-, -, hident, hkey, -, hactive, htally, -⟩ := a.moveZones_frame zs
  rw [Slot.moveZones_zmap, hident, hkey, hactive, htally, a.moveZones_active]
  refine ⟨h1, h2, hlen.trans h3, hfit, hepochs, fun hp => ?_⟩
  obtain ⟨hr, hk⟩ := a.moveZones_remaining zs hp
  rw [hr, hk]

theorem Slot.MapOk.issueCmd (h : a.MapOk) (now : Nat) (n : BitVec 8) (i : SlotId) (d : DriveTag) (before : List Cmd)
    (c : Cmd) (after : List Cmd) : (a.issueCmd now n i d before c after).MapOk := by
  obtain ⟨hlen, hfit, hepochs⟩ := h.zonesAfter c (a.generationFor c).epoch
  have hjoin := h.joinAtIssue c
  obtain ⟨-, -, -, -, -, -, hzmap, htally, -⟩ := a.joinAtIssue_frame c
  have hmoved : (if c.cls = some .stamp then (a.joinAtIssue c).moveZones (a.zonesAfter c (a.generationFor c).epoch)
      else a.joinAtIssue c).MapOk := by
    split
    · exact hjoin.moveZones (by rw [hzmap]; exact hlen) (by rw [hzmap]; exact hfit) (by rw [htally]; exact hepochs)
    · exact hjoin
  unfold Slot.issueCmd
  dsimp only
  have hsent := (hmoved.modTraffic fun t =>
    { t with cmds := before ++ a.issued now d c :: after, jobs := t.jobs ++ a.issueJobs d c }).modLink fun l =>
    { l with out := l.out ++ .command d c.kind c.addr c.count c.param :: a.issueBlocks now n i d c }
  split
  · exact hsent.testPass
  · exact hsent

/-! ## Arming -/

theorem Slot.MapOk.startPass (h : a.MapOk) (write endless : Bool) (he : a.zmap.region.enabled = true)
    (hl : a.belowPassLimit write) : (a.startPass write endless).MapOk := by
  rw [Slot.mapOk_iff] at h
  obtain ⟨h1, h2, h3, h4, h5, -⟩ := h
  rw [if_pos he] at h3
  cases write with
  | false =>
    rw [Slot.startPass_read, Slot.mapOk_iff]
    refine ⟨h1, h2, ?_, h4.clear, h5.clear, fun _ => ?_⟩
    · dsimp only
      rw [if_pos he, List.length_map, h3]
    · change a.zmap.region.blocks = a.zmap.region.blocks - sumRF (a.zmap.zones.map Zone.clearRF)
      rw [sumRF_clear, Nat.sub_zero]
  | true =>
    obtain ⟨-, hl⟩ := hl
    have hmem {z : Zone} (hz : z ∈ a.zmap.every (Zone.arm (a.tally.writeEpochs + 1))) :
        z.current = a.tally.writeEpochs + 1 ∧ z.wf = 0 := by
      obtain ⟨len, y, hy, rfl⟩ := ZoneMap.mem_every _ he h3 hz
      refine ⟨Zone.current_arm _ _ _, Zone.wf_arm _ _ _ ?_⟩
      obtain hk | hk := h5 y hy
      · omega
      · rw [hk]
        have := hl rfl
        simp only [Config.wipeEpoch]
        omega
    rw [Slot.startPass_write, Slot.mapOk_iff]
    refine ⟨h1, h2, ?_, ?_, fun z hz => ?_, fun _ => ?_⟩
    · dsimp only
      rw [if_pos he, ZoneMap.every, ZoneMap.portions_length, h3]
    · exact h4.portions he _ _ fun _ _ len z _ => Zone.fits_arm _ len z
    · exact .inl (hmem hz).1.le
    · change a.zmap.region.blocks = a.zmap.region.blocks - sumWF (a.zmap.every (Zone.arm (a.tally.writeEpochs + 1)))
      rw [sumWF_zero fun z hz => (hmem hz).2, Nat.sub_zero]

theorem Slot.MapOk.armShip (h : a.MapOk) : (a.armShip.setPhase .shipping).MapOk := by
  rw [Slot.mapOk_iff] at h ⊢
  obtain ⟨h1, h2, h3, h4, h5, -⟩ := h
  refine ⟨h1, h2, ?_, ?_, ?_, fun _ => rfl⟩
  · exact (ZoneMap.portions_length _ _ _ _).trans h3
  · by_cases he : a.zmap.region.enabled = true
    · exact h4.portions he _ _ fun _ _ len z _ => Zone.fits_arm _ len z
    · rw [if_neg he] at h3
      intro k z hz
      change (a.zmap.every (Zone.arm Config.wipeEpoch))[k]? = some z at hz
      rw [ZoneMap.every, ZoneMap.portions, List.eq_nil_of_length_eq_zero h3] at hz
      simp [overZones] at hz
  · exact overZones_forall _ _ (fun _ _ len z _ => .inr (Zone.current_arm _ len z)) _ _ _ _ _ _ h5

/-! ## Slots without a drive -/

theorem Slot.mapOk_unidentified (hi : a.ident = none) (hk : a.key = none) (hz : a.zmap = .none)
    (hp : a.pass.active = false) : a.MapOk := by
  refine Slot.mapOk_build ?_ ?_ hp
  · rw [hz, hi]; rfl
  · rw [hk, hi]; rfl

theorem Slot.mapOk_clearRecords (sl : Slot) : sl.clearRecords.MapOk := Slot.mapOk_unidentified rfl rfl rfl rfl

theorem Slot.mapOk_attach (now : Nat) (default : Recipe) (sl : Slot) : (sl.attach now default).MapOk :=
  (sl.mapOk_clearRecords.adopt default rfl).of_eq rfl rfl rfl rfl rfl rfl

theorem Slot.mapOk_resetSlot (i : SlotId) (t : Tag) (now : Nat) (default : Recipe) (sl : Slot) :
    ((Act.start sl).resetSlot i t now default).sl.MapOk :=
  Slot.MapOk.of_eq ((Slot.mapOk_clearRecords { sl with traffic := .empty }).adopt default rfl) rfl rfl rfl rfl rfl rfl

theorem Slot.mapOk_emptied (lines : Lines) (default : Recipe) (sl : Slot) : (sl.emptied lines default).MapOk :=
  Slot.mapOk_unidentified rfl rfl rfl rfl

/-! ## Holding, ending, faulting -/

/-- A pass that stays of its kind with its count, active only if it was. -/
theorem Slot.MapOk.setPass (h : a.MapOk) (hi : b.ident = a.ident) (hk : b.key = a.key) (ha : b.active = a.active)
    (hz : b.zmap = a.zmap) (ht : b.tally.writeEpochs = a.tally.writeEpochs)
    (hp : b.pass.active = true → a.pass.active = true ∧ b.pass.remaining = a.pass.remaining ∧ b.pass.kind = a.pass.kind) :
    b.MapOk := h.kept ⟨hi, hk, ha, hz, ht, hp⟩

theorem Slot.MapOk.abortPass (h : a.MapOk) : a.abortPass.MapOk := by
  unfold Slot.abortPass
  split
  · exact h.setPass rfl rfl rfl rfl rfl nofun
  · exact h

theorem Slot.MapOk.afterSample (h : a.MapOk) : a.afterSample.MapOk := by
  have hsoak {x : Slot} (hx : x.MapOk) : x.soakSample.MapOk := by
    refine hx.setPass (by simp) (by simp) (by simp) (by simp) ?_ (by rw [(Slot.soakSample_frame x).2.2.2.2.2.2.1]; exact fun h => ⟨h, rfl, rfl⟩)
    unfold Slot.soakSample
    dsimp only
    repeat' split
    all_goals rfl
  have hheat : a.thermalHold.MapOk := by
    refine h.setPass (by simp) (by simp) (by simp) (by simp) (by simp) ?_
    unfold Slot.thermalHold
    split
    · split
      · rename_i hs
        exact fun _ => ⟨by rw [PassRecord.active, hs]; rfl, rfl, rfl⟩
      · split <;> exact fun h => ⟨h, rfl, rfl⟩
      all_goals exact fun h => ⟨h, rfl, rfl⟩
    · exact fun h => ⟨h, rfl, rfl⟩
  unfold Slot.afterSample
  split
  · exact hsoak hheat
  · exact hsoak h

theorem Slot.MapOk.dropPosted (h : a.MapOk) (now : Nat) : (a.dropPosted now).MapOk := by
  unfold Slot.dropPosted
  refine Slot.MapOk.modCmds ?_ _
  generalize a.traffic.cmds.filter Cmd.posted = cs
  induction cs generalizing a with
  | nil => exact h
  | cons c cs ih => exact ih (((h.takeRun _ _).raise _).finishCount _)

theorem Slot.MapOk.faulted (h : a.MapOk) (i : SlotId) (now : Nat) (bins : List BinEntry) (cause : FaultCause) :
    (a.faulted i now bins cause).MapOk := by
  have hfault : ((Act.start a).fault i now cause).sl.MapOk := by
    have hended := (h.dropPosted now).abortPass.finishCounts (inTagOrder (a.dropPosted now).abortPass.traffic.cmds)
    unfold Act.fault
    dsimp only [Act.say_sl, Act.mod_sl, Act.start_sl]
    generalize (inTagOrder (a.dropPosted now).abortPass.traffic.cmds).foldl (fun x c => x.finishCount c.serial)
      (a.dropPosted now).abortPass = m at *
    exact hended.of_eq rfl rfl rfl rfl rfl rfl
  unfold Slot.faulted
  dsimp only
  generalize ((Act.start a).fault i now cause).sl = m at *
  split
  · exact hfault.of_eq rfl rfl rfl rfl rfl rfl
  · exact hfault

/-! ## Every operation -/

theorem Slot.Op.mapOk (h : a.Op b) (hl : a.Lifecycle) (ha : a.MapOk) : b.MapOk := by
  have hr := (a.lifecycle_iff.mp hl).1
  cases h with
  | touch h => exact ha.of_eq h.ident h.key h.active h.zmap h.tally h.pass
  | accept i hk _ h =>
    unfold Act.accept
    split
    all_goals dsimp only [Act.say_sl, Act.mod_sl, Act.start_sl]
    · exact (ha.join _).modCmds _
    · exact ha.modCmds _
  | holdRead _ _ => exact ha.modCmds _
  | adopt hp =>
    refine ha.adopt _ (hr.inactive ?_)
    obtain hp | hp | hp := hp
    all_goals rw [hp]; rfl
  | startPass write endless _ he hlim => exact ha.startPass write endless he hlim
  | hold hp =>
    have hrun := (hl.running.mp hp).1
    exact ha.setPass rfl rfl rfl rfl rfl fun _ => ⟨by rw [PassRecord.active, hrun]; rfl, rfl, rfl⟩
  | resume hp =>
    have hheld := hl.held.mp hp
    have hrun : ((a.modPass fun p => { p with state := .running, holdHost := false, holdThermal := false }).setPhase
        .running).MapOk :=
      ha.setPass rfl rfl rfl rfl rfl fun _ => ⟨by rw [PassRecord.active, hheld]; rfl, rfl, rfl⟩
    exact hrun.testPass
  | abort _ => exact ha.setPass rfl rfl rfl rfl rfl nofun
  | endSoak _ => exact ha.of_eq rfl rfl rfl rfl rfl rfl
  | abortShip _ => exact ha.abortPass.of_eq rfl rfl rfl rfl rfl rfl
  | soak w _ => exact ha.setPass rfl rfl rfl rfl rfl fun h => ⟨h, rfl, rfl⟩
  | close _ _ => exact ha.of_eq rfl rfl rfl rfl rfl rfl
  | ship _ _ => exact ha.armShip.testPass
  | release bins _ =>
    unfold Slot.release
    dsimp only
    split <;> exact ha.of_eq rfl rfl rfl rfl rfl rfl
  | completeRelease bins _ _ => exact ha.of_eq rfl rfl rfl rfl rfl rfl
  | resetSlot i t now default _ _ => exact a.mapOk_resetSlot i t now default
  | issue now number i _ _ _ _ _ => exact ha.issueCmd _ _ _ _ _ _ _
  | guardFail i now _ _ =>
    unfold Act.guardFail
    split
    all_goals dsimp only [Act.say_sl, Act.mod_sl, Act.start_sl]
    · exact ha.modCmds _
    · exact (((ha.takeRun _ _).raise _).modCmds _).finish _
  | complete i now status data ident _ => exact ha.completion hl i now _ _ status data ident
  | generated d g => exact ha.of_eq rfl rfl rfl rfl rfl rfl
  | checked i now t j => exact ha.checkBurst _ _ _ _
  | expire i now _ => exact ha.expire _ _ _ _
  | loseLink i now _ _ => exact Act.linkReset_mapOk _ _ (Act.start a) ha
  | dropLink _ _ => exact ha.modLink _
  | resetDone _ _ => exact ha.of_eq rfl rfl rfl rfl rfl rfl
  | requeue => exact ha.modTraffic _
  | cameUp _ _ => exact ha.of_eq rfl rfl rfl rfl rfl rfl
  | attach now default _ _ _ => exact a.mapOk_attach now default
  | afterSample => exact ha.afterSample

theorem Slot.GradeOp.mapOk (h : a.GradeOp b) (ha : a.MapOk) : b.MapOk := by
  cases h with
  | queued _ _ => exact ha.of_eq rfl rfl rfl rfl rfl rfl
  | faulted i now bins _ _ => exact ha.faulted i now bins _
  | tripped i now bins _ =>
    have hoff : a.tripPower.MapOk := ha.of_eq rfl rfl rfl rfl rfl rfl
    unfold Slot.tripped
    refine Slot.MapOk.raise ?_ _
    split
    · exact hoff.of_eq rfl rfl rfl rfl rfl rfl
    · exact hoff.faulted i now bins .trip
  | graded i g => exact ha.of_eq rfl rfl rfl rfl rfl rfl

theorem Slot.MapOk.computing (h : a.MapOk) : a.computing.MapOk := h.of_eq rfl rfl rfl rfl rfl rfl

theorem Slot.mapOk_shelfReset (default : Recipe) (lines : Lines) (sl : Slot) : (sl.shelfReset default lines).MapOk := by
  unfold Slot.shelfReset
  dsimp only
  split
  · exact Slot.mapOk_attach _ _ _
  · exact (sl.mapOk_emptied lines default).of_eq rfl rfl rfl rfl rfl rfl

end Maps

section Steps

variable {s t : State} {i : SlotId}

/-- What every operation of a slot that lives keeps, and the start of a computation and the entry to another phase with it,
every step keeps of every slot. -/
theorem step_keeps_lives {P : Slot → Prop} (hop : ∀ {a b : Slot}, a.Op b → a.Lifecycle → P a → P b)
    (hgrade : ∀ {a b : Slot}, a.GradeOp b → a.Lifecycle → P a → P b) (hcomp : ∀ {a : Slot}, P a → P a.computing)
    (hgrant : ∀ {a : Slot}, P a → P (a.modJobs grantOldest))
    (hempty : ∀ (lines : Lines) (default : Recipe) (a : Slot), P (a.emptied lines default))
    (hreset : ∀ (default : Recipe) (lines : Lines) (a : Slot), P (a.shelfReset default lines))
    (h : step s = .next t) (hl : s.Lifecycle) (hs : ∀ j, P (s.slot j)) (j : SlotId) : P (t.slot j) := by
  have hmoves {i : SlotId} {u v : State} (hm : State.Moves i u v) (hu : u.Lifecycle) (hp : P (u.slot j)) : P (v.slot j) := by
    induction hm with
    | refl => exact hp
    | @tail x y hms hm ih =>
      have hx := (State.Moves.lifecycle hms hu).1 j
      obtain ⟨m, hcase, hy⟩ := hm.slot_cases j
      have hPm : P m := by
        obtain rfl | ho | hg := hcase
        · exact ih
        · exact hop ho hx ih
        · exact hgrade hg hx ih
      obtain hy | hy := hy
      · rw [hy]; exact hPm
      · rw [hy]; exact hcomp hPm
  unfold step at h
  split at h
  · cases h; exact hs j
  · rename_i c rest _
    have hl' : ({ s with pending := rest } : State).Lifecycle := hl.of_eq rfl rfl
    cases exec_follows h with
    | @moves k s0 _ ho hm =>
      refine hmoves hm (hl'.of_eq ho.grader ho.slots) ?_
      rw [State.slot_congr ho.slots j]
      exact hs j
    | grant _ ht =>
      obtain he | ⟨k, -, -, he⟩ := State.grant_cases { s with pending := rest }
      · rw [ht, he]; exact hs j
      · have hslot : t.slot j = if j = k then (s.slot k).modJobs grantOldest else s.slot j := by
          rw [ht, he]
          exact State.slot_setSlot_eq _ k j _
        rw [hslot]
        split
        · exact hgrant (hs k)
        · exact hs j
    | @remove k _ _ ht =>
      by_cases hj : j = k
      · subst hj
        have he : (({ s with pending := rest } : State).emptySlot j).slot j =
            (s.slot j).emptied { carrier := false, latch := (s.slot j).sup.latch } s.shelf.recipe := State.slot_setSlot _ _ _
        rw [ht, State.removeCarrier_eq]
        obtain ⟨-, ha⟩ | ⟨-, ha⟩ := State.abandon_cases (({ s with pending := rest } : State).emptySlot j) j
        · rw [ha, he]; exact hempty _ _ _
        · rw [ha]
          obtain hn | ⟨k, tail, -, hn⟩ := State.startNext_cases (({ s with pending := rest } : State).emptySlot j).unitIdle
          · rw [hn]
            change P ((({ s with pending := rest } : State).emptySlot j).slot j)
            rw [he]; exact hempty _ _ _
          · rw [hn, State.slot_setSlot_eq]
            split
            · rename_i hk
              subst hk
              refine hcomp ?_
              change P ((({ s with pending := rest } : State).emptySlot j).slot j)
              rw [he]; exact hempty _ _ _
            · change P ((({ s with pending := rest } : State).emptySlot j).slot j)
              rw [he]; exact hempty _ _ _
      · obtain he | ⟨-, he⟩ := (State.beside_removeCarrier (s := { s with pending := rest }) (i := k)).slots j hj
        · rw [ht, he]; exact hs j
        · rw [ht, he]; exact hcomp (hs j)
    | reset _ ht => rw [ht, State.shelfReset_slot]; exact hreset _ _ _

end Steps

/-- Settles O57: every operation keeps the map and the count of a slot that lives. -/
theorem mapsAndRemainingAreKept : Obligations.MapsAndRemainingAreKept := by
  intro s t hl hm hc h
  have hall (j : SlotId) : (t.slot j).MapOk :=
    step_keeps_lives (P := Slot.MapOk) Slot.Op.mapOk (fun hg _ => hg.mapOk) Slot.MapOk.computing
      (fun ha => ha.of_eq rfl rfl rfl rfl rfl rfl) (fun lines default a => a.mapOk_emptied lines default)
      (fun default lines a => a.mapOk_shelfReset default lines) h hl (fun j => ⟨hm j, hc j⟩) j
  exact ⟨fun j => (hall j).1, fun j => (hall j).2⟩

end Sys2Proof.Machine


/-! PROOFS. The pass's commands (R52, R53): outstanding counts the commands that carry the pass's serial, and a command
that leaves the slot finishes once. -/

namespace Sys2Proof.Machine

/-! ## Commands by their tags -/

section Lists

variable {cs ds : List Cmd} {c : Cmd}

/-- Tags, or drive tags, stand apart. -/
def Apart {β : Type} (f : Cmd → Option β) (cs : List Cmd) : Prop := cs.Pairwise fun c d => f c = none ∨ f c ≠ f d

/-- A list without its one command under a key. -/
theorem perm_cons_filter_key {β : Type} [DecidableEq β] {f : Cmd → Option β} {n : β} (hp : Apart f cs) (hc : c ∈ cs)
    (hn : f c = some n) : cs.Perm (c :: cs.filter fun d => f d != some n) := by
  induction cs with
  | nil => cases hc
  | cons x xs ih =>
    obtain ⟨hx, hxs⟩ := List.pairwise_cons.mp hp
    obtain rfl | hc := List.mem_cons.mp hc
    · have hrest : xs.filter (fun d => f d != some n) = xs := by
        refine List.filter_eq_self.mpr fun d hd => bne_iff_ne.mpr fun hdn => ?_
        obtain h0 | h0 := hx d hd
        · rw [hn] at h0; cases h0
        · exact h0 (hn.trans hdn.symm)
      rw [List.filter_cons_of_neg (by simp [hn]), hrest]
    · have hxn : f x ≠ some n := fun h => by
        obtain h0 | h0 := hx c hc
        · rw [h] at h0; cases h0
        · exact h0 (h.trans hn.symm)
      rw [List.filter_cons_of_pos (by simpa using hxn)]
      exact ((ih hxs hc).cons x).trans (.swap c x _)

/-- Drive tags stay apart while commands follow. -/
theorem Apart.driveTag_follow (h : Apart Cmd.driveTag cs) (hf : CmdsFollow cs ds) : Apart Cmd.driveTag ds := by
  refine hf.pairwise h fun {a b a' b'} ha hb hab => ?_
  obtain ha | ha := ha.drive
  · exact .inl ha
  · rw [ha]
    obtain hb | hb := hb.drive
    · rw [hb]
      cases a.driveTag with
      | none => exact .inl rfl
      | some n => exact .inr nofun
    · rw [hb]; exact hab

/-- The commands under a tag, in command table order, are the commands that are not posted. -/
theorem inTagOrder_perm (h : Apart Cmd.tag cs) : (inTagOrder cs).Perm (cs.filter fun c => !c.posted) := by
  have hnodup : (cs.filter fun c => !c.posted).Nodup := by
    rw [List.Nodup]
    refine (h.sublist List.filter_sublist).imp_of_mem fun {a b} ha _ hab heq => ?_
    have hposted := (List.mem_filter.mp ha).2
    subst heq
    obtain hab | hab := hab
    · rw [Cmd.posted, hab] at hposted; cases hposted
    · exact hab rfl
  have horder : (inTagOrder cs).Nodup := by
    refine (List.nodup_finRange 32).filterMap fun t u c ht hu => ?_
    have h1 : c.tag = some t := by simpa using List.find?_some ht
    have h2 : c.tag = some u := by simpa using List.find?_some hu
    exact Option.some.inj (h1.symm.trans h2)
  refine (List.perm_ext_iff_of_nodup horder hnodup).mpr fun c => ⟨fun hc => ?_, fun hc => ?_⟩
  · obtain ⟨t, -, ht⟩ := List.mem_filterMap.mp hc
    have htag : c.tag = some t := by simpa using List.find?_some ht
    exact List.mem_filter.mpr ⟨mem_of_mem_inTagOrder cs c hc, by simp [Cmd.posted, htag]⟩
  · obtain ⟨hm, hposted⟩ := List.mem_filter.mp hc
    cases ht : c.tag with
    | none => simp [Cmd.posted, ht] at hposted
    | some t => exact mem_inTagOrder cs c t hm ht fun d hd hdt => (eq_of_key h hm hd ht hdt).symm

/-! ## The count -/

/-- How many commands of a list carry serial `n`. -/
def joined (n : Nat) (cs : List Cmd) : Nat := (cs.filter fun c => c.serial == some n).length

@[simp] theorem joined_nil (n : Nat) : joined n [] = 0 := rfl

theorem joined_cons (n : Nat) (c : Cmd) (cs : List Cmd) :
    joined n (c :: cs) = joined n cs + if c.serial = some n then 1 else 0 := by
  unfold joined
  by_cases h : c.serial = some n
  · rw [List.filter_cons_of_pos (by simp [h]), if_pos h, List.length_cons]
  · rw [List.filter_cons_of_neg (by simp [h]), if_neg h, Nat.add_zero]

theorem joined_append (n : Nat) (cs ds : List Cmd) : joined n (cs ++ ds) = joined n cs + joined n ds := by
  simp [joined]

theorem joined_perm (n : Nat) (h : cs.Perm ds) : joined n cs = joined n ds := (h.filter _).length_eq

theorem joined_eq_zero {n : Nat} (h : ∀ c ∈ cs, c.serial ≠ some n) : joined n cs = 0 := by
  rw [joined, List.length_eq_zero_iff, List.filter_eq_nil_iff]
  exact fun c hc => by simpa using h c hc

theorem joined_filter (n : Nat) (p : Cmd → Bool) (cs : List Cmd) :
    joined n (cs.filter p) + joined n (cs.filter fun c => !p c) = joined n cs := by
  induction cs with
  | nil => rfl
  | cons c cs ih =>
    cases hp : p c with
    | true => rw [List.filter_cons_of_pos hp, List.filter_cons_of_neg (by simp [hp]), joined_cons, joined_cons]; omega
    | false => rw [List.filter_cons_of_neg (by simp [hp]), List.filter_cons_of_pos (by simp [hp]), joined_cons, joined_cons]; omega

theorem joined_map {n : Nat} {f : Cmd → Cmd} (h : ∀ c ∈ cs, (f c).serial = c.serial) :
    joined n (cs.map f) = joined n cs := by
  induction cs with
  | nil => rfl
  | cons c cs ih =>
    rw [List.map_cons, joined_cons, joined_cons, h c (by simp), ih fun d hd => h d (by simp [hd])]

end Lists

/-! ## Commands that are gone and have not yet finished -/

/-- The pass's commands of a slot, some of which, `gone`, have left its list and have still to finish (R53). -/
structure Slot.Owes (gone : List Cmd) (sl : Slot) : Prop where
  outstanding : sl.pass.kind ≠ .none →
    sl.pass.outstanding = joined sl.pass.serial sl.traffic.cmds + joined sl.pass.serial gone
  serial      : sl.pass.kind ≠ .none → sl.pass.serial = sl.tally.serials
  carried     : ∀ c ∈ sl.traffic.cmds, ∀ n, c.serial = some n → n ≤ sl.tally.serials
  unjoined    : ∀ c ∈ sl.traffic.cmds, c.posted = false → c.state = .waiting → c.serial = none
  control     : ∀ c ∈ sl.traffic.cmds, c.state = .atResponder → c.serial = none ∧ c.posted = false
  cancelled   : ∀ c ∈ sl.traffic.cmds, c.state = .cancelled → c.posted = true

section Owes

variable {a b : Slot} {c : Cmd} {gone done : List Cmd}

theorem Slot.passCommands_iff (sl : Slot) : sl.PassCommands ↔ sl.Owes [] :=
  ⟨fun h => ⟨h.outstanding, h.serial, h.carried, h.unjoined, h.control, h.cancelled⟩,
    fun h => ⟨h.outstanding, h.serial, h.carried, h.unjoined, h.control, h.cancelled⟩⟩

/-- Slots with the same pass, in kind, serial and count, and the same serial counter. -/
structure Slot.PassSame (a b : Slot) : Prop where
  kind        : b.pass.kind = a.pass.kind
  serial      : b.pass.serial = a.pass.serial
  outstanding : b.pass.outstanding = a.pass.outstanding
  serials     : b.tally.serials = a.tally.serials

theorem Slot.PassSame.of_eq (hp : b.pass = a.pass) (ht : b.tally.serials = a.tally.serials) : a.PassSame b :=
  ⟨by rw [hp], by rw [hp], by rw [hp], ht⟩

theorem Slot.PassSame.trans {m : Slot} (h : a.PassSame m) (g : m.PassSame b) : a.PassSame b :=
  ⟨g.kind.trans h.kind, g.serial.trans h.serial, g.outstanding.trans h.outstanding, g.serials.trans h.serials⟩

/-- Commands follow, and those that carried the pass's serial are there or gone. -/
theorem Slot.Owes.follow (h : a.Owes gone) (hs : a.PassSame b) (hf : a.CmdsKeep b)
    (hn : ∀ n, joined n b.traffic.cmds + joined n done = joined n a.traffic.cmds + joined n gone) : b.Owes done := by
  obtain ⟨h1, h2, h3, h4, h5, h6⟩ := h
  obtain ⟨hk, hser, hout, hcount⟩ := hs
  refine ⟨fun hp => ?_, fun hp => ?_, fun d hd n hdn => ?_, fun d hd hp hw => ?_, fun d hd hr => ?_, fun d hd hc => ?_⟩
  · rw [hout, hser, hn, h1 (hk ▸ hp)]
  · rw [hser, hcount]; exact h2 (hk ▸ hp)
  all_goals obtain ⟨e, he, hke⟩ := hf.mem d hd
  · rw [hcount]; exact h3 e he n (hke.serial ▸ hdn)
  · rw [hke.posted] at hp
    obtain hw | hw | hw := hke.waiting hw
    · rw [hke.serial]; exact h4 e he hp hw
    · rw [h6 e he hw] at hp; cases hp
    · rw [hw] at hp; cases hp
  · rw [hke.serial, hke.posted]
    exact h5 e he (hke.responder.mp hr)
  · rw [hke.posted]
    exact (hke.cancelled hc).elim (h6 e he) id

theorem Slot.Owes.of_eq (h : a.Owes gone) (hs : a.PassSame b) (hc : b.traffic.cmds = a.traffic.cmds) : b.Owes gone :=
  h.follow hs (by rw [Slot.CmdsKeep, hc]; exact .refl _) fun n => by rw [hc]

/-- A command that carries the pass's serial finishes (R53). -/
theorem Slot.Owes.finishCount (h : a.Owes (c :: gone)) : (a.finishCount c.serial).Owes gone := by
  obtain ⟨h1, h2, h3, h4, h5, h6⟩ := h
  unfold Slot.finishCount
  refine ⟨fun hp => ?_, fun hp => ?_, h3, h4, h5, h6⟩
  all_goals
    dsimp only [Slot.modPass] at hp ⊢
    split at hp
  · rename_i hm
    rw [if_pos hm]
    have := h1 hm.1
    rw [joined_cons, if_pos hm.2] at this
    dsimp only
    omega
  · rename_i hm
    rw [if_neg hm]
    have := h1 hp
    rw [joined_cons, if_neg fun he => hm ⟨hp, he⟩] at this
    omega
  · rename_i hm
    rw [if_pos hm]
    exact h2 hm.1
  · rename_i hm
    rw [if_neg hm]
    exact h2 hp

theorem Slot.testPass_same (sl : Slot) : sl.PassSame sl.testPass := by
  unfold Slot.testPass
  split
  · split
    · refine ⟨?_, ?_, ?_, ?_⟩
      all_goals simp [Slot.endLap, Slot.clearReadFrontiers, Tally.readDone]
    · refine ⟨?_, ?_, ?_, ?_⟩
      · rw [Slot.completePass_pass]
      · rw [Slot.completePass_pass]
      · rw [Slot.completePass_pass]
      · unfold Slot.completePass
        dsimp only
        split
        case h_3 => simp
        all_goals rfl
  · exact .of_eq rfl rfl

theorem Slot.Owes.testPass (h : a.Owes gone) : a.testPass.Owes gone := h.of_eq a.testPass_same (by simp)

theorem Slot.Owes.finish (h : a.Owes (c :: gone)) : (a.finish c.serial).Owes gone := by
  unfold Slot.finish
  dsimp only
  split
  · exact h.finishCount.testPass
  · exact h.finishCount

theorem Slot.Owes.finishes (h : a.Owes gone) : (gone.foldl (fun x c => x.finish c.serial) a).Owes [] := by
  induction gone generalizing a with
  | nil => exact h
  | cons c gone ih => exact ih h.finish

theorem Slot.Owes.finishCounts (h : a.Owes (gone ++ done)) :
    (gone.foldl (fun x c => x.finishCount c.serial) a).Owes done := by
  induction gone generalizing a with
  | nil => exact h
  | cons c gone ih => exact ih h.finishCount

theorem Slot.Owes.perm (h : a.Owes gone) (hp : gone.Perm done) : a.Owes done :=
  h.follow (.of_eq rfl rfl) (.refl _) fun n => by rw [joined_perm n hp]

/-! ## What does not touch the pass's commands -/

theorem Slot.takeRun_same (now : Nat) (r : Run) (sl : Slot) : sl.PassSame (sl.takeRun now r) := by
  obtain ⟨n, hn⟩ := sl.takeRun_pass now r
  exact ⟨by rw [hn], by rw [hn], by rw [hn], by simp⟩

theorem Slot.Owes.takeRun (h : a.Owes gone) (now : Nat) (r : Run) : (a.takeRun now r).Owes gone :=
  h.of_eq (a.takeRun_same now r) (by simp)

theorem Slot.Owes.takeRuns (h : a.Owes gone) (now : Nat) (rs : List Run) : (a.takeRuns now rs).Owes gone := by
  induction rs generalizing a with
  | nil => exact h
  | cons r rs ih => exact ih (h.takeRun now r)

theorem Slot.Owes.takeCoverage (h : a.Owes gone) (rs : List (Nat × Nat)) : (a.takeCoverage rs).Owes gone :=
  h.of_eq (.of_eq (by simp) (by simp)) (by simp)

theorem Slot.Owes.raise (h : a.Owes gone) (f : EventFlag) : (a.raise f).Owes gone := h.of_eq (.of_eq rfl rfl) rfl
theorem Slot.Owes.modTiming (h : a.Owes gone) (f : Timing → Timing) : (a.modTiming f).Owes gone := h.of_eq (.of_eq rfl rfl) rfl
theorem Slot.Owes.modLink (h : a.Owes gone) (f : Link → Link) : (a.modLink f).Owes gone := h.of_eq (.of_eq rfl rfl) rfl
theorem Slot.Owes.modJobs (h : a.Owes gone) (f : List Job → List Job) : (a.modJobs f).Owes gone := h.of_eq (.of_eq rfl rfl) rfl

/-- Commands leave the list, and are owed. -/
theorem Slot.Owes.filter (h : a.Owes []) (p : Cmd → Bool) (hp : (a.traffic.cmds.filter fun c => !p c).Perm gone) :
    (a.modCmds fun cs => cs.filter p).Owes gone :=
  h.follow (.of_eq rfl rfl) (.filter p _) fun n => by
    rw [← joined_perm n hp, joined_nil, Nat.add_zero]
    exact joined_filter n p _

/-- The command under a tag leaves the list. -/
theorem Slot.Owes.filter_tag {t : Tag} (h : a.Owes []) (hw : Apart Cmd.tag a.traffic.cmds) (hc : c ∈ a.traffic.cmds)
    (ht : c.tag = some t) : (a.modCmds fun cs => cs.filter fun d => d.tag != some t).Owes [c] := by
  refine h.follow (.of_eq rfl rfl) (.filter _ _) fun n => ?_
  rw [joined_perm n (perm_cons_filter_key hw hc ht), joined_cons, joined_cons]
  simp [Slot.modCmds, Slot.modTraffic]

/-- The command at the drive under a drive tag leaves the list. -/
theorem Slot.Owes.filter_drive {d : DriveTag} {p : Cmd → Bool} (h : a.Owes []) (hw : Apart Cmd.driveTag a.traffic.cmds)
    (hc : c ∈ a.traffic.cmds) (ht : c.driveTag = some d) (hpc : p c = false)
    (hp : ∀ e ∈ a.traffic.cmds, e.driveTag ≠ some d → p e = true) : (a.modCmds fun cs => cs.filter p).Owes [c] := by
  have hfilter : a.traffic.cmds.filter p = a.traffic.cmds.filter fun e => e.driveTag != some d := by
    refine List.filter_congr fun e he => ?_
    by_cases hed : e.driveTag = some d
    · rw [eq_of_key hw he hc hed ht, hpc, ht]
      simp
    · rw [hp e he hed]
      simp [hed]
  refine h.follow (.of_eq rfl rfl) (.filter _ _) fun n => ?_
  rw [joined_perm n (perm_cons_filter_key hw hc ht), joined_cons, joined_cons, ← hfilter]
  simp [Slot.modCmds, Slot.modTraffic]

/-- A command replaced by itself later on. -/
theorem Slot.Owes.replace {d : Cmd} {t : Tag} (h : a.Owes gone) (hw : a.traffic.WF) (hc : c ∈ a.traffic.cmds)
    (ht : c.tag = some t) (hk : c.Keeps d) :
    (a.modCmds fun cs => cs.map fun e => if e.tag == some t then d else e).Owes gone := by
  refine h.follow (.of_eq rfl rfl) (CmdsFollow.replace hw hc ht hk) fun n => ?_
  congr 1
  refine joined_map fun e he => ?_
  split
  · rename_i hm
    rw [hw.eq_of_tag he hc (by simpa using hm) ht, hk.serial]
  · rfl

end Owes

end Sys2Proof.Machine


/-! PROOFS. Outstanding through every operation (R52, R53). -/

namespace Sys2Proof.Machine

section Events

variable {a b : Slot} {c d : Cmd}

/-! ## Commands that join -/

/-- A command joins the tail of the list. -/
theorem Slot.Owes.append (h : a.Owes []) (hb : b.traffic.cmds = a.traffic.cmds ++ [d]) (hk : b.pass.kind = a.pass.kind)
    (hser : b.pass.serial = a.pass.serial) (hcount : b.tally.serials = a.tally.serials)
    (hout : a.pass.kind ≠ .none →
      b.pass.outstanding = a.pass.outstanding + if d.serial = some a.pass.serial then 1 else 0)
    (hcarried : ∀ n, d.serial = some n → n ≤ a.tally.serials)
    (hwait : d.posted = false → d.state = .waiting → d.serial = none)
    (hresp : d.state = .atResponder → d.serial = none ∧ d.posted = false) (hcancel : d.state ≠ .cancelled) : b.Owes [] := by
  obtain ⟨h1, h2, h3, h4, h5, h6⟩ := h
  have hmem {e : Cmd} (he : e ∈ b.traffic.cmds) : e ∈ a.traffic.cmds ∨ e = d := by
    rw [hb] at he
    simpa using he
  refine ⟨fun hp => ?_, fun hp => ?_, fun e he => ?_, fun e he => ?_, fun e he => ?_, fun e he => ?_⟩
  · rw [hk] at hp
    rw [hout hp, h1 hp, hser, hb, joined_append, joined_cons]
    simp
  · rw [hser, hcount]; exact h2 (hk ▸ hp)
  all_goals obtain he | rfl := hmem he
  · rw [hcount]; exact h3 e he
  · rw [hcount]; exact hcarried
  · exact h4 e he
  · exact hwait
  · exact h5 e he
  · exact hresp
  · exact h6 e he
  · exact fun hc => absurd hc hcancel

/-- A waiting command goes to the drive. -/
theorem Slot.Owes.issue {before after : List Cmd} (h : a.Owes []) (hs : a.traffic.cmds = before ++ c :: after)
    (hb : b.traffic.cmds = before ++ d :: after) (hk : b.pass.kind = a.pass.kind)
    (hser : b.pass.serial = a.pass.serial) (hcount : b.tally.serials = a.tally.serials)
    (hout : a.pass.kind ≠ .none → b.pass.outstanding + (if c.serial = some a.pass.serial then 1 else 0) =
      a.pass.outstanding + if d.serial = some a.pass.serial then 1 else 0)
    (hcarried : ∀ n, d.serial = some n → n ≤ a.tally.serials) (hd : d.state = .atDrive) : b.Owes [] := by
  obtain ⟨h1, h2, h3, h4, h5, h6⟩ := h
  have hmem {e : Cmd} (he : e ∈ b.traffic.cmds) : e ∈ a.traffic.cmds ∨ e = d := by
    rw [hb] at he
    rw [hs]
    simp only [List.mem_append, List.mem_cons] at he ⊢
    tauto
  refine ⟨fun hp => ?_, fun hp => ?_, fun e he => ?_, fun e he => ?_, fun e he => ?_, fun e he => ?_⟩
  · rw [hk] at hp
    have := hout hp
    rw [h1 hp, hs, joined_append, joined_cons, joined_nil] at this
    rw [hser, hb, joined_append, joined_cons, joined_nil]
    omega
  · rw [hser, hcount]; exact h2 (hk ▸ hp)
  all_goals obtain he | rfl := hmem he
  · rw [hcount]; exact h3 e he
  · rw [hcount]; exact hcarried
  · exact h4 e he
  · rw [hd]; nofun
  · exact h5 e he
  · rw [hd]; nofun
  · exact h6 e he
  · rw [hd]; nofun

theorem Slot.join_pass (c : Cmd) (sl : Slot) :
    (sl.join c).pass = { sl.pass with outstanding := sl.pass.outstanding + if sl.suits c then 1 else 0 } := by
  unfold Slot.join
  split
  · rfl
  · rfl

/-- Only a pass has commands that suit it. -/
theorem Slot.kind_of_suits (h : a.suits c = true) : a.pass.kind ≠ .none := by
  simp only [Slot.suits, Bool.and_eq_true, Bool.or_eq_true, beq_iff_eq] at h
  obtain ⟨-, ⟨-, hk | hk⟩ | ⟨-, hk⟩⟩ := h
  all_goals rw [hk]; nofun

/-- The serial a command that carried none carries after it was tried. -/
theorem Slot.joinSerial_eq (hc : c.serial = none) :
    a.joinSerial c = if a.suits c then some a.pass.serial else none := by rw [Slot.joinSerial, hc]

theorem Slot.Owes.joinSerial_le (h : a.Owes []) (hc : c.serial = none) (n : Nat) (hn : a.joinSerial c = some n) :
    n ≤ a.tally.serials := by
  rw [Slot.joinSerial_eq hc] at hn
  split at hn
  · rename_i hs
    cases hn
    exact (h.serial (Slot.kind_of_suits hs)).le
  · cases hn

theorem Slot.Owes.accept (h : a.Owes []) (i : SlotId) (c : Cmd) (hserial : c.serial = none) (hs : c.state = .waiting) :
    ((Act.start a).accept i c).sl.Owes [] := by
  unfold Act.accept
  split
  all_goals dsimp only [Act.say_sl, Act.mod_sl, Act.start_sl]
  · refine h.append (d := { c with tag := none, serial := a.joinSerial c }) (by simp) ?_ ?_ (by simp) (fun _ => ?_)
      (h.joinSerial_le hserial) nofun (fun hr => by rw [hs] at hr; cases hr) (by rw [hs]; nofun)
    all_goals rw [Slot.modCmds_pass, Slot.join_pass]
    dsimp only
    rw [Slot.joinSerial_eq hserial]
    split <;> simp
  · refine h.append (d := c) rfl rfl rfl rfl (fun _ => ?_) (fun n hn => ?_) (fun _ _ => hserial)
      (fun hr => by rw [hs] at hr; cases hr) (by rw [hs]; nofun)
    · rw [hserial]; rfl
    · rw [hserial] at hn; cases hn

/-! ## Issues -/

theorem Slot.moveZones_same (zs : List Zone) (sl : Slot) : sl.PassSame (sl.moveZones zs) := by
  unfold Slot.moveZones
  dsimp only
  repeat' split
  all_goals exact ⟨rfl, rfl, rfl, rfl⟩

theorem Slot.Owes.issueCmd (h : a.Owes []) (now : Nat) (n : BitVec 8) (i : SlotId) (k : DriveTag) {before : List Cmd}
    {c : Cmd} {after : List Cmd} (hs : a.traffic.cmds = before ++ c :: after) (hw : c.state = .waiting) :
    (a.issueCmd now n i k before c after).Owes [] := by
  have hc : c ∈ a.traffic.cmds := by rw [hs]; simp
  -- The issue's changes before the pass is tested, said of what they leave of the pass.
  have hmain {m : Slot} (hm : m.traffic.cmds = before ++ a.issued now k c :: after)
      (hp : (a.joinAtIssue c).PassSame m) : m.Owes [] := by
    obtain ⟨hkind, hser, hout, hcount⟩ := hp
    have hcount : m.tally.serials = a.tally.serials := by rw [hcount]; simp
    by_cases hposted : c.posted = true
    · have hjoin : a.joinAtIssue c = a := if_pos hposted
      rw [hjoin] at hkind hser hout
      have hd : (a.issued now k c).serial = c.serial := if_pos hposted
      refine h.issue hs hm hkind hser hcount (fun _ => by rw [hout, hd]) ?_ rfl
      rw [hd]
      exact h.carried c hc
    · rw [Bool.not_eq_true] at hposted
      have hserial := h.unjoined c hc hposted hw
      have hjoin : a.joinAtIssue c = a.join c := by rw [Slot.joinAtIssue, hposted]; rfl
      rw [hjoin, Slot.join_pass] at hkind hser hout
      have hd : (a.issued now k c).serial = a.joinSerial c := by rw [Slot.issued, hposted]; rfl
      refine h.issue hs hm hkind hser hcount (fun _ => ?_) ?_ rfl
      · rw [hout, hd, Slot.joinSerial_eq hserial, hserial]
        split <;> simp
      · rw [hd]; exact h.joinSerial_le hserial
  have hmoved : (a.joinAtIssue c).PassSame (if c.cls = some .stamp then
      (a.joinAtIssue c).moveZones (a.zonesAfter c (a.generationFor c).epoch) else a.joinAtIssue c) := by
    split
    · exact Slot.moveZones_same _ _
    · exact .of_eq rfl rfl
  obtain ⟨m1, m2, m3, m4⟩ := hmoved
  unfold Slot.issueCmd
  dsimp only
  split
  · exact Slot.Owes.testPass (hmain rfl ⟨m1, m2, m3, m4⟩)
  · exact hmain rfl ⟨m1, m2, m3, m4⟩

/-! ## Link resets -/

/-- One posted write cancelled at the drive: put back, or failed and finished (R112). -/
theorem Slot.Owes.cancelPosted {k : DriveTag} (h : a.Owes []) (now : Nat) (hw : Apart Cmd.driveTag a.traffic.cmds)
    (hc : c ∈ a.traffic.cmds) (hp : c.posted = true) (hs : c.state = .atDrive) (ht : c.driveTag = some k) :
    (Slot.cancelPosted now a c).Owes [] := by
  have hfollow := (a.cancelPosted_follow now c).1
  unfold Slot.cancelPosted at hfollow ⊢
  dsimp only at hfollow ⊢
  split
  · rename_i hr
    rw [if_pos hr] at hfollow
    refine h.follow (.of_eq rfl rfl) hfollow fun n => ?_
    congr 1
    refine joined_map fun e _ => ?_
    split <;> rfl
  · have hrun := (h.takeRun now (c.wholeRun .writeFail)).raise .postFail
    have hcmds : ((a.takeRun now (c.wholeRun .writeFail)).raise .postFail).traffic.cmds = a.traffic.cmds := by simp
    refine Slot.Owes.finish (hrun.filter_drive (by rw [hcmds]; exact hw) (by rw [hcmds]; exact hc) ht ?_ fun e _ he => ?_)
    · simp [hp, hs]
    · simp [ht, he]

theorem Slot.cancelPosted_mem {e : Cmd} (now : Nat) (c : Cmd) (he : e ∈ a.traffic.cmds) (hne : e.driveTag ≠ c.driveTag) :
    e ∈ (Slot.cancelPosted now a c).traffic.cmds := by
  unfold Slot.cancelPosted
  dsimp only
  split
  · exact List.mem_map.mpr ⟨e, he, by rw [if_neg]; simp [hne]⟩
  · simpa [Slot.modCmds, Slot.modTraffic, hne] using he

/-- Cancelling posted writes leaves the unposted commands. -/
theorem Slot.cancelPosted_unposted (now : Nat) (c : Cmd) (sl : Slot) :
    (Slot.cancelPosted now sl c).traffic.cmds.filter (fun e => !e.posted) = sl.traffic.cmds.filter fun e => !e.posted := by
  unfold Slot.cancelPosted
  dsimp only
  split
  · change (sl.traffic.cmds.map _).filter _ = _
    rw [List.filter_map]
    have hf : (sl.traffic.cmds.filter ((fun e : Cmd => !e.posted) ∘ fun d =>
        if (d.posted && d.state == .atDrive && d.driveTag == c.driveTag) = true then
          { d with state := .cancelled, reissues := 1, deadline := none } else d)) =
        sl.traffic.cmds.filter fun e => !e.posted := by
      refine List.filter_congr fun e _ => ?_
      dsimp only [Function.comp]
      split <;> rfl
    rw [hf]
    conv_rhs => rw [← List.map_id (sl.traffic.cmds.filter fun e => !e.posted)]
    refine List.map_congr_left fun e he => ?_
    rw [if_neg]
    · rfl
    · simp [(by simpa using (List.mem_filter.mp he).2 : e.posted = false)]
  · simp only [Slot.finish_traffic, Slot.modCmds_traffic, Slot.raise_traffic, Slot.takeRun_frame, List.filter_filter]
    refine List.filter_congr fun e _ => ?_
    cases e.posted <;> simp

theorem Slot.cancelAll_unposted (now : Nat) (cs : List Cmd) (sl : Slot) :
    (cs.foldl (Slot.cancelPosted now) sl).traffic.cmds.filter (fun e => !e.posted) =
      sl.traffic.cmds.filter fun e => !e.posted := by
  induction cs generalizing sl with
  | nil => rfl
  | cons c cs ih => rw [List.foldl_cons, ih, Slot.cancelPosted_unposted]

theorem Slot.Owes.cancelAll {cs : List Cmd} (h : a.Owes []) (now : Nat) (hw : Apart Cmd.driveTag a.traffic.cmds)
    (hcs : Apart Cmd.driveTag cs)
    (hm : ∀ c ∈ cs, c ∈ a.traffic.cmds ∧ c.posted = true ∧ c.state = .atDrive ∧ c.driveTag.isSome = true) :
    (cs.foldl (Slot.cancelPosted now) a).Owes [] := by
  induction cs generalizing a with
  | nil => exact h
  | cons c cs ih =>
    obtain ⟨hc, hp, hs, ht⟩ := hm c (by simp)
    obtain ⟨k, ht⟩ := Option.isSome_iff_exists.mp ht
    obtain ⟨hcc, hcs⟩ := List.pairwise_cons.mp hcs
    refine ih (h.cancelPosted now hw hc hp hs ht) (hw.driveTag_follow (a.cancelPosted_follow now c).1) hcs fun e he => ?_
    obtain ⟨hem, hep, hes, het⟩ := hm e (by simp [he])
    refine ⟨Slot.cancelPosted_mem now c hem fun heq => ?_, hep, hes, het⟩
    obtain h0 | h0 := hcc e he
    · rw [ht] at h0; cases h0
    · exact h0 heq.symm

/-- A drive link reset: each command at the drive is put back or finishes (R120, R53). -/
theorem Act.linkReset_owes (i : SlotId) (now : Nat) (x : Act) (h : x.sl.Owes []) (htag : Apart Cmd.tag x.sl.traffic.cmds)
    (hdrive : Apart Cmd.driveTag x.sl.traffic.cmds)
    (htagged : ∀ c ∈ x.sl.traffic.cmds, c.isAtDrive = true → c.driveTag.isSome = true) :
    (x.linkReset i now).sl.Owes [] := by
  unfold Act.linkReset
  dsimp only [Act.say_sl, Act.mod_sl]
  refine Slot.Owes.finishes ?_
  refine Slot.Owes.filter (Slot.Owes.cancelAll ?_ now ?_ ?_ ?_) _ ?_
  · exact h.of_eq (.of_eq rfl rfl) rfl
  · exact hdrive
  · exact (hdrive.sublist List.filter_sublist).sublist List.filter_sublist
  · intro c hc
    obtain ⟨hc, hp⟩ := List.mem_filter.mp hc
    obtain ⟨hc, hs⟩ := List.mem_filter.mp hc
    exact ⟨hc, hp, (Cmd.isAtDrive_iff c).mp hs, htagged c hc hs⟩
  · -- The unposted commands at the drive are those that were there when the reset began.
    have hsplit (cs : List Cmd) : (cs.filter fun c => !!(c.isAtDrive && !c.posted)) =
        (cs.filter fun c => !c.posted).filter Cmd.isAtDrive := by
      rw [List.filter_filter]
      exact List.filter_congr fun c _ => by simp
    rw [hsplit, Slot.cancelAll_unposted, ← hsplit]
    refine List.Perm.symm ((inTagOrder_perm ?_).trans (.of_eq ?_))
    · exact (htag.sublist List.filter_sublist).sublist List.filter_sublist
    · rw [hsplit, List.filter_filter, List.filter_filter, List.filter_filter]
      exact List.filter_congr fun c _ => by cases c.posted <;> cases c.isAtDrive <;> rfl

theorem Slot.Owes.expire {k : DriveTag} (h : a.Owes []) (hw : a.traffic.WF) (i : SlotId) (now : Nat)
    (hf : a.traffic.cmds.find? (Cmd.atTag k) = some c) : ((Act.start a).expire i now k c).sl.Owes [] := by
  obtain ⟨hc, -, -⟩ := mem_of_atTag hf
  generalize hm : ((if c.hasRange then a.takeRun now (c.wholeRun .timeout) else a).modTiming fun q =>
      { q with timeouts := satAdd Config.max32 q.timeouts 1 }).raise .timeout = m
  have hmo : m.Owes [] ∧ m.traffic = a.traffic := by
    subst hm
    split
    · exact ⟨((h.takeRun _ _).modTiming _).raise _, by simp⟩
    · exact ⟨(h.modTiming _).raise _, rfl⟩
  obtain ⟨hmo, hmt⟩ := hmo
  unfold Act.expire
  dsimp only [Act.mod_sl]
  cases ht : c.tag with
  | none =>
    refine Act.linkReset_owes i now _ ?_ ?_ ?_ ?_
    all_goals
      dsimp only [Act.mod_sl, Act.start_sl]
      rw [hm]
    · exact hmo
    all_goals rw [hmt]
    · exact hw.tags
    · exact hw.driveTags
    · exact hw.tagged
  | some t =>
    have hsub : (a.traffic.cmds.filter fun e => e.tag != some t).Sublist a.traffic.cmds := List.filter_sublist
    refine Act.linkReset_owes i now _ ?_ ?_ ?_ ?_
    all_goals
      dsimp only [Act.say_sl, Act.mod_sl, Act.start_sl]
      rw [hm]
    · refine Slot.Owes.finish ?_
      have hgone := hmo.filter_tag (by rw [hmt]; exact hw.tags) (by rw [hmt]; exact hc) ht
      exact hgone.of_eq (.of_eq rfl rfl) rfl
    all_goals
      rw [Slot.finish_traffic, Slot.modTraffic_traffic, hmt]
    · exact hw.tags.sublist hsub
    · exact hw.driveTags.sublist hsub
    · exact fun e he => hw.tagged e (hsub.subset he)

/-! ## Drive completions and bursts -/

theorem Act.completeRead_owes (i : SlotId) (now : Nat) {t : Tag} (c : Cmd) (x : Act) (h : x.sl.Owes [])
    (hw : Apart Cmd.tag x.sl.traffic.cmds) (hd : d ∈ x.sl.traffic.cmds) (ht : d.tag = some t) (hs : c.serial = d.serial) :
    (x.completeRead i now t c).sl.Owes [] := by
  unfold Act.completeRead
  dsimp only [Act.say_sl, Act.mod_sl]
  rw [hs]
  have hcov := (h.takeRuns now (failureRuns c.start (c.allClasses c.classes))).takeCoverage
    (goodCoverage c.start (c.allClasses c.classes))
  exact Slot.Owes.finish (hcov.filter_tag (by simpa using hw) (by simpa using hd) ht)

theorem Apart.tag_follow {cs ds : List Cmd} (h : Apart Cmd.tag cs) (hf : CmdsFollow cs ds) : Apart Cmd.tag ds :=
  hf.pairwise h fun {a b a' b'} ha hb hab => by rw [ha.tag, hb.tag]; exact hab

/-- A read that has come back from the drive (R101). -/
def Cmd.back (err : Option DriveError) (blocks : List Block) (c : Cmd) : Cmd :=
  { c with state := .checking, driveTag := none, deadline := none, driveError := err, returned := blocks }

theorem Cmd.keeps_back (err : Option DriveError) (blocks : List Block) (hs : c.state = .atDrive) :
    c.Keeps (c.back err blocks) :=
  ⟨rfl, rfl, .inl rfl, fun h => by simp [Cmd.isAtDrive, Cmd.back] at h, fun h => by simp [Cmd.back] at h,
    fun h => by simp [Cmd.back] at h, by simp [Cmd.back, hs]⟩

theorem Slot.Owes.completion {k : DriveTag} (h : a.Owes []) (hw : a.traffic.WF) (i : SlotId) (now : Nat)
    (status : DriveStatus) (data : List Block) (ident : Identification)
    (hf : a.traffic.cmds.find? (Cmd.atTag k) = some c) :
    ((Act.start a).completion i now k c status data ident).sl.Owes [] := by
  obtain ⟨hc, hs, hk⟩ := mem_of_atTag hf
  have htime := h.modTiming (Timing.taken (now - c.issuedAt) a.active.slow.toNat (isGood status))
  unfold Act.completion
  cases ht : c.tag with
  | none =>
    dsimp only [Act.mod_sl, Act.start_sl]
    have hrun : (match status with
        | .good => a.modTiming (Timing.taken (now - c.issuedAt) a.active.slow.toNat (isGood status))
        | .error e => ((a.modTiming (Timing.taken (now - c.issuedAt) a.active.slow.toNat (isGood status))).takeRun now
            (c.writeFailRun e)).raise .postFail).Owes [] ∧
        (match status with
        | .good => a.modTiming (Timing.taken (now - c.issuedAt) a.active.slow.toNat (isGood status))
        | .error e => ((a.modTiming (Timing.taken (now - c.issuedAt) a.active.slow.toNat (isGood status))).takeRun now
            (c.writeFailRun e)).raise .postFail).traffic = a.traffic := by
      cases status with
      | good => exact ⟨htime, rfl⟩
      | error e => exact ⟨(htime.takeRun _ _).raise _, by simp⟩
    obtain ⟨hrun, htr⟩ := hrun
    unfold Slot.postReturned
    refine Slot.Owes.finish (hrun.filter_drive (d := k) (by rw [htr]; exact hw.driveTags) (by rw [htr]; exact hc) hk ?_
      fun e _ he => ?_)
    · simp [Cmd.atTag, hs, hk]
    · simp [Cmd.atTag, he]
  | some t =>
    dsimp only
    split
    · unfold Act.readReturned
      dsimp only
      have hkeep := Cmd.keeps_back (detailOf status) (takeBlocks (returnedCount c (detailOf status)) data) hs
      have hrep := htime.replace hw hc ht hkeep
      split
      · refine Act.completeRead_owes i now
          (d := c.back (detailOf status) (takeBlocks (returnedCount c (detailOf status)) data)) _ _ hrep
          (Apart.tag_follow hw.tags (CmdsFollow.replace hw hc ht hkeep)) ?_ ht rfl
        exact List.mem_map.mpr ⟨c, hc, if_pos (beq_iff_eq.mpr ht)⟩
      · exact hrep.of_eq (.of_eq rfl rfl) rfl
    · unfold Act.cmdReturned
      dsimp only [Act.say_sl, Act.mod_sl, Act.start_sl]
      have hcmds : ((a.modTiming (Timing.taken (now - c.issuedAt) a.active.slow.toNat (isGood status))).takeRuns now
          (c.errorRuns status)).traffic.cmds = a.traffic.cmds := by simp
      have hgone := Slot.Owes.finish ((htime.takeRuns now (c.errorRuns status)).filter_tag (by rw [hcmds]; exact hw.tags)
        (by rw [hcmds]; exact hc) ht)
      refine hgone.of_eq ?_ (by rw [Slot.completionEffect_traffic])
      unfold Slot.completionEffect
      split
      · split
        · exact .of_eq (by simp) (by simp)
        · split
          · exact .of_eq (by simp) (by simp)
          · exact .of_eq rfl rfl
      · exact .of_eq rfl rfl

theorem Slot.Owes.checkBurst (h : a.Owes []) (hw : a.traffic.WF) (i : SlotId) (now : Nat) (t : Tag) (j : Job) :
    (((Act.start a).mod (Slot.modJobs advanceJobs)).checkBurst i now t j).sl.Owes [] := by
  have hjobs := h.modJobs advanceJobs
  unfold Act.checkBurst
  split
  · exact hjobs
  · rename_i c hf
    have hc := List.mem_of_find?_eq_some hf
    have ht : c.tag = some t := by simpa using List.find?_some hf
    dsimp only
    split
    · exact Act.completeRead_owes i now (d := c) _ _ hjobs hw.tags hc ht rfl
    · have hk : c.Keeps { c with classes := c.classes ++ c.burstClasses j } :=
        ⟨rfl, rfl, .inr rfl, fun h => ⟨h, rfl, rfl, rfl, rfl⟩, .inl, .inl, .rfl⟩
      have hrep := h.replace hw hc ht hk
      exact hrep.of_eq (.of_eq rfl rfl) rfl

/-! ## Passes that start, slots that empty -/

/-- A new pass has a serial that no command carries yet (R44). -/
theorem Slot.Owes.arm (h : a.Owes []) (hc : b.traffic.cmds = a.traffic.cmds)
    (hser : b.pass.serial = a.tally.serials + 1) (hout : b.pass.outstanding = 0)
    (hcount : b.tally.serials = a.tally.serials + 1) : b.Owes [] := by
  obtain ⟨-, -, h3, h4, h5, h6⟩ := h
  refine ⟨fun _ => ?_, fun _ => hser.trans hcount.symm, ?_, ?_, ?_, ?_⟩
  all_goals rw [hc]
  · rw [hout, hser, joined_nil, joined_eq_zero]
    intro c hm hn
    have := h3 c hm _ hn
    omega
  · intro c hm n hn
    rw [hcount]
    exact (h3 c hm n hn).trans (Nat.le_succ _)
  · exact h4
  · exact h5
  · exact h6

/-- A slot without a pass whose commands are control commands. -/
theorem Slot.owes_idle (hk : b.pass.kind = .none)
    (hc : ∀ c ∈ b.traffic.cmds, c.state = .atResponder ∧ c.serial = none ∧ c.posted = false) : b.Owes [] := by
  refine ⟨fun h => absurd hk h, fun h => absurd hk h, fun c hm n hn => ?_, fun c hm _ _ => (hc c hm).2.1,
    fun c hm _ => (hc c hm).2, fun c hm hs => ?_⟩
  · rw [(hc c hm).2.1] at hn; cases hn
  · rw [(hc c hm).1] at hs; cases hs

theorem Slot.Owes.attach (h : a.Owes []) (hq : a.quiet = true) (now : Nat) (default : Recipe) :
    (a.attach now default).Owes [] := by
  refine Slot.owes_idle (by simp [Slot.attach, Slot.clearRecords, PassRecord.none]) fun c hc => ?_
  have hm : c ∈ a.traffic.cmds := by
    simp only [Slot.attach, Slot.modLink_traffic, Slot.modSup_traffic, Slot.adopt_frame, Slot.clearRecords] at hc
    exact (List.mem_filter.mp hc).1
  have hs := (Slot.quiet_iff a).mp hq c hm
  exact ⟨hs, h.control c hm hs⟩

/-! ## Entry to FAULTED -/

theorem Slot.finishCount_outstanding (n : Option Nat) (sl : Slot) (hk : sl.pass.kind ≠ .none) :
    (sl.finishCount n).pass.outstanding = sl.pass.outstanding - (if n = some sl.pass.serial then 1 else 0) ∧
      (sl.finishCount n).pass.kind = sl.pass.kind ∧ (sl.finishCount n).pass.serial = sl.pass.serial := by
  unfold Slot.finishCount
  dsimp only [Slot.modPass]
  by_cases hn : n = some sl.pass.serial
  · rw [if_pos ⟨hk, hn⟩, if_pos hn]
    exact ⟨rfl, rfl, rfl⟩
  · rw [if_neg fun h => hn h.2, if_neg hn]
    exact ⟨rfl, rfl, rfl⟩

/-- Commands finished one after the other each lower the count once. -/
theorem Slot.finishCounts_outstanding {f : Slot → Cmd → Slot} (hf : ∀ (sl : Slot) (c : Cmd), sl.PassSame (f sl c)) (cs : List Cmd)
    (sl : Slot) (hk : sl.pass.kind ≠ .none) :
    (cs.foldl (fun x c => (f x c).finishCount c.serial) sl).pass.outstanding =
        sl.pass.outstanding - joined sl.pass.serial cs ∧
      (cs.foldl (fun x c => (f x c).finishCount c.serial) sl).pass.kind = sl.pass.kind ∧
      (cs.foldl (fun x c => (f x c).finishCount c.serial) sl).pass.serial = sl.pass.serial := by
  induction cs generalizing sl with
  | nil => exact ⟨rfl, rfl, rfl⟩
  | cons c cs ih =>
    obtain ⟨fk, fs, fo, -⟩ := hf sl c
    obtain ⟨h1, h2, h3⟩ := Slot.finishCount_outstanding c.serial (f sl c) (by rw [fk]; exact hk)
    obtain ⟨g1, g2, g3⟩ := ih ((f sl c).finishCount c.serial) (by rw [h2, fk]; exact hk)
    rw [List.foldl_cons, g1, g2, g3, h1, h2, h3, fk, fs, fo, joined_cons]
    exact ⟨by omega, rfl, rfl⟩

/-- Kinds are the same through finished counts. -/
theorem Slot.finishCounts_kind {f : Slot → Cmd → Slot} (hf : ∀ (sl : Slot) (c : Cmd), sl.PassSame (f sl c)) (cs : List Cmd) (sl : Slot) :
    (cs.foldl (fun x c => (f x c).finishCount c.serial) sl).pass.kind = sl.pass.kind := by
  induction cs generalizing sl with
  | nil => rfl
  | cons c cs ih =>
    obtain ⟨n, hn⟩ := Slot.finishCount_pass c.serial (f sl c)
    rw [List.foldl_cons, ih, hn]
    exact (hf sl c).kind

theorem Slot.abortPass_same (sl : Slot) : sl.PassSame sl.abortPass := by
  unfold Slot.abortPass
  split <;> exact ⟨rfl, rfl, rfl, rfl⟩

theorem Slot.dropPosted_cmds (now : Nat) (sl : Slot) :
    (sl.dropPosted now).traffic.cmds = sl.traffic.cmds.filter fun c => !c.posted := by
  have hfold (cs : List Cmd) (x : Slot) : (cs.foldl (fun sl c =>
      ((sl.takeRun now (c.wholeRun .writeFail)).raise .postFail).finishCount c.serial) x).traffic = x.traffic := by
    induction cs generalizing x with
    | nil => rfl
    | cons c cs ih =>
      rw [List.foldl_cons, ih, (Slot.finishCount_frame _ _).2.2.2.2.2.2.2.2.2.1, Slot.raise_traffic,
        (Slot.takeRun_frame _ _ _).2.2.2.2.2.2.2.2.1]
  rw [Slot.dropPosted, Slot.modCmds_traffic, hfold]

/-- Dropping the post list lowers the count by the posted writes of the pass (R114, R53). -/
theorem Slot.dropPosted_outstanding (now : Nat) (sl : Slot) (hk : sl.pass.kind ≠ .none) :
    (sl.dropPosted now).pass.outstanding =
        sl.pass.outstanding - joined sl.pass.serial (sl.traffic.cmds.filter Cmd.posted) ∧
      (sl.dropPosted now).pass.kind = sl.pass.kind ∧ (sl.dropPosted now).pass.serial = sl.pass.serial :=
  Slot.finishCounts_outstanding (f := fun sl c => (sl.takeRun now (c.wholeRun .writeFail)).raise .postFail)
    (fun sl _ => (sl.takeRun_same now _).trans (.of_eq rfl rfl)) (sl.traffic.cmds.filter Cmd.posted) sl hk

theorem Act.fault_pass_eq (i : SlotId) (now : Nat) (cause : FaultCause) (x : Act) :
    (x.fault i now cause).sl.pass =
      ((inTagOrder (x.sl.dropPosted now).abortPass.traffic.cmds).foldl (fun x c => x.finishCount c.serial)
        (x.sl.dropPosted now).abortPass).pass := rfl

/-- No command of the pass is outstanding when a slot has entered FAULTED (R126, R53). -/
theorem Act.fault_outstanding (i : SlotId) (now : Nat) (cause : FaultCause) (h : a.Owes [])
    (hw : Apart Cmd.tag a.traffic.cmds) (hk : a.pass.kind ≠ .none) :
    ((Act.start a).fault i now cause).sl.pass.outstanding = 0 ∧
      ((Act.start a).fault i now cause).sl.pass.serial = a.pass.serial := by
  obtain ⟨ak, as, ao, -⟩ := (a.dropPosted now).abortPass_same
  obtain ⟨d1, d2, d3⟩ := a.dropPosted_outstanding now hk
  have hended : (a.dropPosted now).abortPass.traffic.cmds = a.traffic.cmds.filter fun c => !c.posted := by
    rw [(Slot.abortPass_frame _).2.2.2.2.2.2.2.2.2.1, Slot.dropPosted_cmds]
  obtain ⟨f1, -, f3⟩ := Slot.finishCounts_outstanding (f := fun sl _ => sl) (fun _ _ => .of_eq rfl rfl)
    (inTagOrder (a.dropPosted now).abortPass.traffic.cmds) (a.dropPosted now).abortPass (by rw [ak, d2]; exact hk)
  rw [Act.fault_pass_eq, Act.start_sl, f1, f3, ao, as, d1, d3, hended]
  have hsplit := joined_filter a.pass.serial Cmd.posted a.traffic.cmds
  have hperm := joined_perm a.pass.serial (inTagOrder_perm (hw.sublist (List.filter_sublist (p := fun c => !c.posted))))
  rw [List.filter_filter] at hperm
  simp only [Bool.and_self] at hperm
  have hall := h.outstanding hk
  rw [joined_nil] at hall
  exact ⟨by omega, rfl⟩

/-- A slot that enters FAULTED has no command left, and none outstanding (R126, R53). -/
theorem Act.fault_owes (i : SlotId) (now : Nat) (cause : FaultCause) (h : a.Owes []) (hw : Apart Cmd.tag a.traffic.cmds) :
    ((Act.start a).fault i now cause).sl.Owes [] := by
  have hempty := Act.fault_traffic i now cause (Act.start a)
  have hserials : ((Act.start a).fault i now cause).sl.tally = a.tally := by simp [Act.fault]
  have hkind := (Act.fault_pass i now cause (Act.start a)).1
  have hout := Act.fault_outstanding i now cause h hw
  rw [Act.start_sl] at hkind
  generalize ((Act.start a).fault i now cause).sl = m at hempty hserials hkind hout ⊢
  refine ⟨fun hk => ?_, fun hk => ?_, ?_, ?_, ?_, ?_⟩
  · rw [(hout (hkind ▸ hk)).1, hempty]; rfl
  · rw [(hout (hkind ▸ hk)).2, hserials]; exact h.serial (hkind ▸ hk)
  all_goals
    rw [hempty]
    exact fun c hc => by cases hc

theorem Slot.Owes.faulted (h : a.Owes []) (hw : Apart Cmd.tag a.traffic.cmds) (i : SlotId) (now : Nat)
    (bins : List BinEntry) (cause : FaultCause) : (a.faulted i now bins cause).Owes [] := by
  have hfault := Act.fault_owes i now cause h hw
  unfold Slot.faulted
  dsimp only
  generalize ((Act.start a).fault i now cause).sl = m at *
  split
  · exact hfault.of_eq (.of_eq rfl rfl) rfl
  · exact hfault

end Events

end Sys2Proof.Machine


/-! PROOFS. Every operation counts the pass's commands (R52, R53). -/

namespace Sys2Proof.Machine

section Ops

variable {a b : Slot}

theorem Slot.thermalHold_same (sl : Slot) : sl.PassSame sl.thermalHold := by
  unfold Slot.thermalHold
  repeat' split
  all_goals exact ⟨rfl, rfl, rfl, rfl⟩

theorem Slot.soakSample_same (sl : Slot) : sl.PassSame sl.soakSample := by
  unfold Slot.soakSample
  dsimp only
  repeat' split
  all_goals exact ⟨rfl, rfl, rfl, rfl⟩

theorem Slot.afterSample_same (sl : Slot) : sl.PassSame sl.afterSample := by
  unfold Slot.afterSample
  split
  · exact sl.thermalHold_same.trans sl.thermalHold.soakSample_same
  · exact sl.soakSample_same

theorem Slot.Op.owes (h : a.Op b) (hl : a.Lifecycle) (hw : a.traffic.WF) (ha : a.Owes []) : b.Owes [] := by
  cases h with
  | touch h => exact ha.of_eq (.of_eq h.pass (by rw [h.tally])) (by rw [h.traffic])
  | @accept i r k hk hc h => exact ha.accept i _ rfl rfl
  | @holdRead r hb h =>
    refine ha.append (d := r.toControl .read) rfl rfl rfl rfl (fun _ => ?_) (fun n hn => ?_) (fun _ _ => rfl)
      (fun _ => ⟨rfl, rfl⟩) (by simp [Record.toControl])
    · simp [Record.toControl, Record.toCmd]
    · cases hn
  | adopt _ => exact ha.of_eq (.of_eq (by simp) Slot.adopt_serials) (by simp)
  | startPass write endless _ _ _ =>
    cases write
    · exact ha.arm rfl rfl rfl rfl
    · exact ha.arm rfl rfl rfl rfl
  | hold _ => exact ha.of_eq ⟨rfl, rfl, rfl, rfl⟩ rfl
  | resume _ =>
    have hrun : ((a.modPass fun p => { p with state := .running, holdHost := false, holdThermal := false }).setPhase
        .running).Owes [] := ha.of_eq ⟨rfl, rfl, rfl, rfl⟩ rfl
    exact hrun.testPass
  | abort _ => exact ha.of_eq ⟨rfl, rfl, rfl, rfl⟩ rfl
  | endSoak _ => exact ha.of_eq ⟨rfl, rfl, rfl, rfl⟩ rfl
  | abortShip _ =>
    obtain ⟨h1, h2, h3, h4⟩ := a.abortPass_same
    exact ha.of_eq ⟨h1, h2, h3, h4⟩ (by simp [Slot.setPhase])
  | soak w _ => exact ha.of_eq ⟨rfl, rfl, rfl, rfl⟩ rfl
  | close _ _ => exact ha.of_eq ⟨rfl, rfl, rfl, rfl⟩ rfl
  | ship _ _ =>
    have harm : (a.armShip.setPhase .shipping).Owes [] := ha.arm rfl rfl rfl rfl
    exact harm.testPass
  | release bins _ =>
    unfold Slot.release
    dsimp only
    split <;> exact ha.of_eq ⟨rfl, rfl, rfl, rfl⟩ rfl
  | completeRelease bins _ _ => exact ha.of_eq ⟨rfl, rfl, rfl, rfl⟩ rfl
  | resetSlot i t now default _ _ =>
    refine Slot.owes_idle (by simp [Act.resetSlot, Slot.clearRecords, PassRecord.none]) fun c hc => ?_
    simp [Act.resetSlot, Slot.clearRecords, Traffic.empty] at hc
  | issue now number i _ _ hs hwait _ => exact ha.issueCmd _ _ _ _ hs hwait
  | @guardFail i now before c after hs hwait =>
    have hc : c ∈ a.traffic.cmds := by rw [hs]; simp
    have hsub : CmdsFollow a.traffic.cmds (before ++ after) := by
      rw [hs]
      exact .of_sublist ((List.sublist_cons_self c after).append_left before)
    have hcount (n : Nat) : joined n (before ++ after) + joined n [c] = joined n a.traffic.cmds + joined n [] := by
      rw [hs, joined_append, joined_append, joined_cons, joined_cons, joined_nil]
      omega
    unfold Act.guardFail
    cases ht : c.tag with
    | some t =>
      dsimp only [Act.say_sl, Act.mod_sl, Act.start_sl]
      refine ha.follow (.of_eq rfl rfl) hsub fun n => ?_
      have := hcount n
      rw [joined_cons, ha.unjoined c hc (by simp [Cmd.posted, ht]) hwait] at this
      simpa using this
    | none =>
      dsimp only [Act.mod_sl, Act.start_sl]
      refine Slot.Owes.finish ?_
      exact ha.follow ((a.takeRun_same now _).trans (.of_eq rfl rfl)) hsub hcount
  | complete i now status data ident hf => exact ha.completion hw i now status data ident hf
  | generated d g => exact ha.of_eq ⟨rfl, rfl, rfl, rfl⟩ rfl
  | checked i now t j => exact ha.checkBurst hw i now t j
  | expire i now hf => exact ha.expire hw i now hf
  | loseLink i now _ _ => exact Act.linkReset_owes i now (Act.start a) ha hw.tags hw.driveTags hw.tagged
  | dropLink _ _ => exact ha.of_eq ⟨rfl, rfl, rfl, rfl⟩ rfl
  | resetDone _ _ => exact ha.of_eq ⟨rfl, rfl, rfl, rfl⟩ rfl
  | requeue =>
    refine ha.follow (.of_eq rfl rfl) a.requeue_follow fun n => ?_
    congr 1
    refine joined_map fun c _ => ?_
    split <;> rfl
  | cameUp _ _ => exact ha.of_eq ⟨rfl, rfl, rfl, rfl⟩ rfl
  | attach now default hp _ _ => exact ha.attach (hl.quiet (by rw [hp]; rfl)) now default
  | afterSample => exact ha.of_eq a.afterSample_same (by simp)

theorem Slot.GradeOp.owes (h : a.GradeOp b) (hw : a.traffic.WF) (ha : a.Owes []) : b.Owes [] := by
  cases h with
  | queued _ _ => exact ha.of_eq ⟨rfl, rfl, rfl, rfl⟩ rfl
  | faulted i now bins _ _ => exact ha.faulted hw.tags i now bins _
  | tripped i now bins _ =>
    have hoff : a.tripPower.Owes [] := ha.of_eq ⟨rfl, rfl, rfl, rfl⟩ rfl
    unfold Slot.tripped
    refine Slot.Owes.raise ?_ _
    split
    · exact hoff.of_eq ⟨rfl, rfl, rfl, rfl⟩ rfl
    · exact hoff.faulted hw.tags i now bins .trip
  | graded i g =>
    -- The held reads that are answered belong to no pass.
    refine ha.follow (.of_eq rfl rfl) (.filter Cmd.isData _) fun n => ?_
    have hgone : joined n (a.traffic.cmds.filter fun c => !c.isData) = 0 := by
      refine joined_eq_zero fun c hc => ?_
      obtain ⟨hm, hd⟩ := List.mem_filter.mp hc
      rw [(ha.control c hm (by simpa [Cmd.isData] using hd)).1]
      nofun
    have hsplit := joined_filter n Cmd.isData a.traffic.cmds
    rw [hgone] at hsplit
    exact hsplit

theorem Slot.owes_emptied (lines : Lines) (default : Recipe) (sl : Slot) : (sl.emptied lines default).Owes [] :=
  Slot.owes_idle rfl fun c hc => by cases hc

theorem Slot.owes_shelfReset (default : Recipe) (lines : Lines) (sl : Slot) : (sl.shelfReset default lines).Owes [] := by
  have he : ({ sl.emptied lines default with command := .none } : Slot).Owes [] :=
    (sl.owes_emptied lines default).of_eq ⟨rfl, rfl, rfl, rfl⟩ rfl
  unfold Slot.shelfReset
  dsimp only
  split
  · exact he.attach rfl 0 default
  · exact he

end Ops

/-- Settles O58: every operation of a slot that lives, with its tags apart, counts the pass's commands. -/
theorem outstandingCountsThePassCommands : Obligations.OutstandingCountsThePassCommands := by
  intro s t hl hw hp h j
  have hkept := step_keeps_lives (P := fun sl => sl.traffic.WF ∧ sl.Owes [])
    (fun ho hl ⟨hw, ha⟩ => ⟨ho.trafficWF hw, ho.owes hl hw ha⟩)
    (fun hg _ ⟨hw, ha⟩ => ⟨hg.trafficWF hw, hg.owes hw ha⟩)
    (fun ⟨hw, ha⟩ => ⟨hw, ha.of_eq ⟨rfl, rfl, rfl, rfl⟩ rfl⟩)
    (fun ⟨hw, ha⟩ => ⟨hw.of_eq rfl rfl, ha.of_eq ⟨rfl, rfl, rfl, rfl⟩ rfl⟩)
    (fun lines default a => ⟨Traffic.wf_empty, a.owes_emptied lines default⟩)
    (fun default lines a => ⟨Slot.Change.trafficWF (a := a.emptied lines default) (.reset default lines) Traffic.wf_empty,
      a.owes_shelfReset default lines⟩) h hl (fun j => ⟨hw j, (s.slot j).passCommands_iff.mp (hp j)⟩) j
  exact (t.slot j).passCommands_iff.mpr hkept.2

end Sys2Proof.Machine


/-! PROOFS. The part right after reset (R181, R182): every slot is the same, and meets what every step keeps. -/

namespace Sys2Proof.Machine

theorem State.reset_slot (i : SlotId) : State.reset.slot i = Slot.reset := by
  fin_cases i <;> rfl

theorem Slot.reset_lifecycle : Slot.reset.Lifecycle :=
  (Slot.lifecycle_iff _).mpr ⟨⟨⟨nofun, nofun, fun _ => rfl⟩, ⟨rfl, rfl, rfl⟩, rfl, ⟨rfl, rfl⟩⟩,
    ⟨⟨fun _ => rfl, ⟨nofun, nofun⟩⟩, fun _ => rfl, fun ⟨_, hc, _⟩ => by cases hc⟩⟩

/-- The grading unit is idle, and no slot waits for it. -/
theorem State.reset_graderWF : State.reset.GraderWF := by
  refine ⟨.nil, fun i => ?_, fun i => ?_, fun _ => rfl⟩
  · rw [State.reset_slot]
    exact ⟨fun h => (by cases h), fun h => (by cases h)⟩
  · rw [State.reset_slot]
    exact ⟨fun ⟨_, h, _⟩ => (by cases h), fun h => (by cases h)⟩

/-- No burst is under way. -/
theorem State.reset_oneBurst : State.reset.OneBurst := by
  have hjobs (i : SlotId) : (State.reset.slot i).traffic.jobs = [] := by rw [State.reset_slot]; rfl
  refine ⟨fun i j h => ?_, fun i j hj => ?_, fun i j hj => ?_⟩
  · rw [Slot.burst_isSome] at h
    obtain ⟨k, hk, -⟩ := h
    rw [hjobs] at hk
    cases hk
  · rw [hjobs] at hj; cases hj
  · rw [hjobs] at hj; cases hj

/-- Settles O52. -/
theorem resetMeetsTheInvariants : Obligations.ResetMeetsTheInvariants := by
  have each {P : Slot → Prop} (h : P Slot.reset) (i : SlotId) : P (State.reset.slot i) := by
    rw [State.reset_slot]
    exact h
  have hmap : Slot.reset.MapOk := Slot.mapOk_unidentified rfl rfl rfl rfl
  exact ⟨each (P := Slot.MaskOn) (storedMask_on 0xFFFF), each (P := Slot.TableOk) (Slot.tableOk_of_empty rfl),
    each (P := fun sl => sl.traffic.WF) Traffic.wf_empty, ⟨each Slot.reset_lifecycle, State.reset_graderWF⟩,
    each (P := Slot.MapWF) hmap.1, each (P := Slot.Counted) hmap.2,
    each ((Slot.passCommands_iff _).mpr (Slot.owes_idle rfl fun c hc => by cases hc)), State.reset_oneBurst⟩

end Sys2Proof.Machine

/-! PROOFS. What the shelf link port does with records and frames (R84 to R93, R108): malformed records, commands that
wait, posted writes, the frames of a WRITE and the window access that one frame spells; and the words of a record
(10.8). -/

namespace Sys2Proof.Machine

section Records

variable {s : State} {i : SlotId} {t : Tag} {addr : BitVec 48} {count : BitVec 16}

/-! ## Malformed records -/

/-- A record whose count or range is out of bounds is malformed, whichever of READ and WRITE it is. -/
theorem Record.malformed_of_range {r : Record} (hk : r.kind = some .read ∨ r.kind = some .write)
    (h : r.count.toNat = 0 ∨ 256 < r.count.toNat ∨ 281474976710656 < r.addr.toNat + r.count.toNat
      ∨ (281474976710592 ≤ r.addr.toNat ∧ r.count.toNat ≠ 1)) : r.malformed = true := by
  rw [Record.malformed_iff r hk]
  rcases h with h | h | h | h <;> simp [h]

/-- Data omitted is malformed for every kind but a WRITE. -/
theorem Record.malformed_of_omitted {r : Record} (ho : r.omitted = true) (hk : r.kind ≠ some .write) :
    r.malformed = true := by
  simp [Record.malformed, ho, hk]

/-- A data-omitted WRITE of the control window is malformed. -/
theorem Record.malformed_of_omitsControl {r : Record} (hk : r.kind = some .write) (ho : r.omitted = true)
    (hw : 281474976710592 ≤ r.addr.toNat) : r.malformed = true := by
  rw [Record.malformed_iff r (.inr hk)]
  simp [hk, ho, hw]

/-- A WRITE with data and no legal count is refused at once. -/
theorem State.openPort_malformed (h : count.toNat = 0 ∨ 256 < count.toNat) :
    s.openPort i t addr count = s.say [reply i t .malformed] := by
  rw [State.openPort, if_pos h]
  exact s.deliver_malformed i _ (Record.malformed_of_range (.inr rfl) (h.imp_right .inl))

end Records

/-- Settles O5, case by case of R90. -/
theorem malformedRecordsAreRefused : Obligations.MalformedRecordsAreRefused := by
  intro s i t addr count
  have arrives (r : Record) (h : r.malformed = true) :
      Host.Outcome.next (φ := Fault) (ρ := Refusal) (s.arrive i r)
        = .next (s.portGivenUp.say [reply i r.tag .malformed]) :=
    congrArg _ (s.arrive_malformed i r h)
  refine ⟨fun o h => arrives _ ?read, fun h => arrives _ ?omitted, fun h => ?write, fun c data hp hlast h => ?frame,
    arrives _ (Record.malformed_of_omitted rfl (by simp [bareRecord])),
    arrives _ (Record.malformed_of_omitted rfl (by simp [bareRecord])),
    fun p => arrives _ (Record.malformed_of_omitted rfl (by simp [bareRecord])), fun kind o => arrives _ rfl⟩
  case read =>
    rcases h with rfl | h
    · exact Record.malformed_of_omitted rfl (by simp [bareRecord])
    · exact Record.malformed_of_range (.inl rfl) h
  case omitted =>
    rcases h with h | h | h | h
    · exact Record.malformed_of_range (.inr rfl) (.inl h)
    · exact Record.malformed_of_range (.inr rfl) (.inr (.inl h))
    · exact Record.malformed_of_range (.inr rfl) (.inr (.inr (.inl h)))
    · exact Record.malformed_of_omitsControl rfl rfl h
  case write =>
    show Host.Outcome.next (s.closePort.openPort i t addr count) = _
    rw [State.closePort_eq, State.openPort_malformed h]
  case frame =>
    have hm : (Collecting.record { c with frames := c.frames ++ [data] } true).malformed = true := by
      refine Record.malformed_of_range (.inr rfl) ?_
      rcases h with h | h | h
      · exact .inr (.inr (.inl h))
      · exact .inr (.inl h)
      · exact .inr (.inr (.inr h))
    rw [exec_dataFrame, State.takeFrame_last s data c hp hlast, State.deliver_malformed _ _ _ hm]
    rfl

/-! ## Commands that wait -/

section Waiting

variable {s : State} {i : SlotId} {t : Tag} {addr : BitVec 48} {count : BitVec 16}

/-- A record of a FLUSH, an IDENTIFY or an OTHER that the phase takes waits under its tag. -/
theorem State.arrive_rangeless_waits {k : CmdKind} {p : BitVec 128} (hr : k ≠ .read) (hw : k ≠ .write)
    (ht : (s.slot i).takesData t) (hp : (s.slot i).sup.phase.takes k false = true) :
    s.arrive i (bareRecord (some k) t addr count false p) =
      s.portGivenUp.setSlot i ((s.slot i).withCmd (newEntry (some t) k addr count false p none [])) := by
  obtain ⟨hctl, hcls, hpass⟩ :=
    (s.slot i).refusal_rangeless (bareRecord (some k) t addr count false p) k rfl hr hw rfl rfl ht hp
  exact s.arrive_waits i _ k none rfl hctl hcls hpass
    (Slot.posts_false _ _ (by simp [Cmd.stamped, Record.toCmd, bareRecord]))

/-- A READ of one class of the drive that the phase takes waits under its tag. -/
theorem State.arrive_read_waits {cls : AddrClass} (hc : cls = .guarded ∨ cls = .stamp ∨ cls = .clear)
    (hi : (s.slot i).rangeIn addr count cls) (ht : (s.slot i).takesData t)
    (hp : (s.slot i).sup.phase.takes .read false = true) :
    s.arrive i (bareRecord (some .read) t addr count false 0) =
      s.portGivenUp.setSlot i ((s.slot i).withCmd (newEntry (some t) .read addr count false 0 (some cls) [])) := by
  obtain ⟨hctl, hcls, hpass⟩ :=
    (s.slot i).refusal_ranged (bareRecord (some .read) t addr count false 0) .read cls rfl (.inl rfl) (fun _ => rfl) rfl
      hc hi ht hp
  exact s.arrive_waits i _ .read (some cls) rfl hctl hcls (by rw [hpass]; simp)
    (Slot.posts_false _ _ (by simp [Cmd.stamped, Record.toCmd, bareRecord]))

end Waiting

/-- Settles O7: nothing refuses these records, and the post list takes none of them. -/
theorem readsAndRangelessCommandsWait : Obligations.ReadsAndRangelessCommandsWait := by
  intro s i t addr count sl waits ht
  exact ⟨fun cls hc hi hp => congrArg _ (State.arrive_read_waits hc hi ht hp),
    fun hp => congrArg _ (State.arrive_rangeless_waits (by decide) (by decide) ht hp),
    fun hp => congrArg _ (State.arrive_rangeless_waits (by decide) (by decide) ht hp),
    fun p hp => congrArg _ (State.arrive_rangeless_waits (by decide) (by decide) ht hp)⟩

/-! ## Data-omitted writes -/

section Omitted

variable {s : State} {i : SlotId} {t : Tag} {addr : BitVec 48} {count : BitVec 16} {sl : Slot}

/-- A data-omitted WRITE into the stamp region under a running write or ship pass passes every check. -/
theorem Slot.refusal_stampWrite (ht : sl.takesData t) (hi : sl.rangeIn addr count .stamp)
    (hp : sl.sup.phase.takes .write true = true) (hrun : sl.pass.state = .running)
    (hk : sl.pass.kind = .write ∨ sl.pass.kind = .ship) :
    (bareRecord (some .write) t addr count true 0).isControl = false ∧
      sl.classFor (bareRecord (some .write) t addr count true 0) = some .stamp ∧
      sl.refusal (bareRecord (some .write) t addr count true 0) = none := by
  obtain ⟨hctl, hcls, hpass⟩ :=
    sl.refusal_ranged (bareRecord (some .write) t addr count true 0) .write .stamp rfl (.inr rfl) nofun rfl
      (.inr (.inl rfl)) hi ht hp
  have harmed : sl.armedForWrites = true := Slot.armedForWrites_iff.mpr ⟨hk, .inl hrun⟩
  exact ⟨hctl, hcls, by rw [hpass]; simp [harmed, hrun]⟩

/-- The ship record write passes every check. -/
theorem Slot.refusal_shipWrite (ht : sl.takesData t) (hi : sl.rangeIn addr count .guarded)
    (hs : sl.shipWriteNow true addr.toNat count.toNat = true) :
    (bareRecord (some .write) t addr count true 0).isControl = false ∧
      sl.classFor (bareRecord (some .write) t addr count true 0) = some .guarded ∧
      sl.refusal (bareRecord (some .write) t addr count true 0) = none := by
  have hphase : sl.sup.phase = .shipping := by
    simp only [Slot.shipWriteNow, Bool.and_eq_true, beq_iff_eq] at hs
    exact hs.1.1.1.1.1
  obtain ⟨hctl, hcls, hpass⟩ :=
    sl.refusal_ranged (bareRecord (some .write) t addr count true 0) .write .guarded rfl (.inr rfl) nofun rfl
      (.inl rfl) hi ht (by rw [hphase]; rfl)
  have hship : sl.isShipWrite (bareRecord (some .write) t addr count true 0) = true :=
    (Slot.isShipWrite_iff rfl).mpr ⟨rfl, hs⟩
  exact ⟨hctl, hcls, by rw [hpass, hship]; simp⟩

/-- A data-omitted WRITE of the stamp region is posted when posting is on and the list has room. -/
theorem Slot.posts_stampWrite :
    sl.posts ((bareRecord (some .write) t addr count true 0).toCmd .write (some .stamp)) = true ↔
      sl.active.posting.getLsbD 0 = true ∧ (sl.traffic.cmds.filter Cmd.posted).length < 8 := by
  simp only [Slot.posts, Cmd.stamped, Record.toCmd, bareRecord, Recipe.posts, Slot.postCount, Config.maxPosted,
    Bool.and_eq_true, beq_self_eq_true, true_and]
  exact and_congr_right fun _ => decide_eq_true_iff

/-- It suits the running write or ship pass. -/
theorem Slot.suits_stampWrite (hrun : sl.pass.state = .running) (hk : sl.pass.kind = .write ∨ sl.pass.kind = .ship) :
    sl.suits ((bareRecord (some .write) t addr count true 0).toCmd .write (some .stamp)) = true := by
  simp [Slot.suits, PassRecord.active, Cmd.stamped, Record.toCmd, bareRecord, hrun, hk]

end Omitted

/-- Settles O8. -/
theorem dataOmittedWriteIsPostedOrWaits : Obligations.DataOmittedWriteIsPostedOrWaits := by
  intro s i t addr count sl room ht
  refine ⟨fun hi hp hrun hk => ?stamp, fun hi hs => ?ship⟩
  case stamp =>
    obtain ⟨hctl, hcls, hpass⟩ := Slot.refusal_stampWrite ht hi hp hrun hk
    refine ⟨fun hon hroom => congrArg Host.Outcome.next ?posted, fun hnot => congrArg Host.Outcome.next ?waits⟩
    case posted =>
      exact s.arrive_posted i _ .write _ rfl hctl hcls hpass (Slot.posts_stampWrite.mpr ⟨hon, hroom⟩)
        (Slot.suits_stampWrite hrun hk)
    case waits =>
      refine s.arrive_waits i _ .write _ rfl hctl hcls hpass ?_
      rw [← Bool.not_eq_true, Slot.posts_stampWrite]
      rintro ⟨hon, hroom⟩
      rcases hnot with hoff | hfull
      · rw [hoff] at hon; cases hon
      · exact hfull hroom
  case ship =>
    obtain ⟨hctl, hcls, hpass⟩ := Slot.refusal_shipWrite ht hi hs
    exact congrArg _ (s.arrive_waits i _ .write _ rfl hctl hcls hpass
      (Slot.posts_false _ _ (by simp [Cmd.stamped, Record.toCmd, bareRecord])))

/-! ## The frames of a WRITE -/

section Frames

variable {s : State} {i : SlotId} {t : Tag} {addr : BitVec 48} {count : BitVec 16}

/-- A WRITE with data to the stamp region or the clear range, whole, waits with its frames. -/
theorem State.deliver_dataWrite {cls : AddrClass} {frames : List Block} (hc : cls = .stamp ∨ cls = .clear)
    (hi : (s.slot i).rangeIn addr count cls) (ht : (s.slot i).takesData t)
    (hp : (s.slot i).sup.phase.takes .write false = true) :
    s.deliver i (Collecting.record { slot := i, tag := t, addr := addr, count := count, frames := frames } true) =
      s.setSlot i ((s.slot i).withCmd (newEntry (some t) .write addr count false 0 (some cls) frames)) := by
  generalize hr : Collecting.record { slot := i, tag := t, addr := addr, count := count, frames := frames } true = r
  subst hr
  obtain ⟨hctl, hcls, hpass⟩ :=
    (s.slot i).refusal_ranged (Collecting.record ⟨i, t, addr, count, frames⟩ true) .write cls rfl (.inr rfl) nofun rfl
      (.inr hc) hi ht hp
  rw [s.deliver_taken i _ .write rfl hctl (by rw [hpass]; rcases hc with rfl | rfl <;> simp [Collecting.record]),
    s.accept_waits i _ (Slot.posts_false _ _ (by simp [Cmd.stamped, Record.toCmd, Collecting.record])), hcls]
  rfl

theorem State.portGivenUp_of_none (h : s.port = none) : s.portGivenUp = s := by
  simp [State.portGivenUp, h]

/-- The one frame of a WRITE to the window's block at `offset` is that block's write. -/
theorem State.takeFrame_window (offset : Nat) (data : Block)
    (hp : s.port = some { slot := i, tag := t, addr := BitVec.ofNat 48 (Config.controlBase + offset), count := 1,
                          frames := [] }) :
    s.takeFrame data = State.windowWrite i t offset data { s with port := none } := by
  rw [State.takeFrame_last s data _ hp rfl, State.windowWrite_deliver, State.portGivenUp_of_none rfl]
  simp only [windowRecord, List.nil_append]

/-- A write of the COMMAND block takes the first three words of its frame. -/
theorem State.windowWrite_command (data : Block) :
    s.windowWrite i t 1 data = s.writeCommand i t (data.getD 0 0) (data.getD 1 0) (data.getD 2 0) := by
  have htake (u : State) :
      u.windowTake i t 1 data = u.windowTake i t 1 [data.getD 0 0, data.getD 1 0, data.getD 2 0] := by
    simp [State.windowTake, wordAt]
  rw [State.writeCommand, State.windowWrite_eq _ _ _ _ _ (by decide), State.windowWrite_eq _ _ _ _ _ (by decide), htake]

end Frames

/-- Settles O9. -/
theorem framesOfAWriteAreCollected : Obligations.FramesOfAWriteAreCollected := by
  intro s i t addr count data frames c sl u w
  refine ⟨fun hfew hmany => ?opens, fun hp => ?discarded, fun hp hmore => ?kept,
    fun hp hlast ht cls hc hi hphase => ?last, fun n hp => ?window⟩
  case opens =>
    show Host.Outcome.next (s.closePort.openPort i t addr count) = _
    rw [State.closePort_eq, State.openPort_collects _ _ _ _ _ hfew hmany]
  case discarded => simp [exec_dataFrame, State.takeFrame, hp]
  case kept => rw [exec_dataFrame, State.takeFrame_more s data c hp hmore]
  case last =>
    rw [exec_dataFrame, State.takeFrame_last s data c hp hlast]
    exact congrArg _ (State.deliver_dataWrite (s := u) hc hi ht hphase)
  case window =>
    have htake : exec (.dataFrame data) s = .next (u.windowWrite i t n.val data) := by
      rw [exec_dataFrame, State.takeFrame_window n.val data hp]
    refine ⟨?command, ?unknown, ?recipe, ?shelf, fun _ _ _ => htake⟩
    case command =>
      rintro rfl x hx
      have hcommand : exec (.dataFrame data) s = .next (u.writeCommand i t (w 0) (w 1) (w 2)) :=
        htake.trans (congrArg _ (State.windowWrite_command data))
      simp only [List.mem_cons, Prod.mk.injEq, List.not_mem_nil, or_false] at hx
      rcases hx with ⟨hw, rfl⟩ | ⟨hw, rfl⟩ | ⟨hw, rfl⟩ | ⟨hw, rfl⟩ | ⟨hw, rfl⟩ | ⟨hw, rfl⟩ | ⟨hw, rfl⟩ | ⟨hw, rfl⟩
        | ⟨hw, rfl⟩ | ⟨hw, rfl⟩ | ⟨hw, rfl⟩ | ⟨hw, rfl⟩ <;> (rw [hcommand, hw]; rfl)
    case unknown =>
      rintro rfl -
      exact htake.trans (congrArg _ (State.windowWrite_command data))
    case recipe => rintro rfl; exact htake
    case shelf => rintro rfl; exact htake

/-! ## The words of a record -/

section Words

variable {i : SlotId} {t : Tag} {kind : BitVec 4} {o : Bool}

/-- The bits of a record's word 0. -/
theorem recordWord0_getLsbD (k : Nat) :
    (recordWord0 i t kind o).getLsbD k =
      if k < 3 then (BitVec.ofFin (w := 3) i).getLsbD k
      else if k < 8 then false
      else if k < 13 then (BitVec.ofFin (w := 5) t).getLsbD (k - 8)
      else if k < 16 then false
      else if k < 20 then kind.getLsbD (k - 16)
      else if k < 24 then false
      else if k = 24 then o
      else false := by
  unfold recordWord0
  refine (BitVec.getLsbD_append ..).trans ?_
  simp only [BitVec.getLsbD_append, BitVec.getLsbD_ofBool, BitVec.getLsbD_zero, Nat.sub_sub]
  grind

theorem recordSlot_recordWord0 : recordSlot (recordWord0 i t kind o) = i := by
  have : (recordWord0 i t kind o).extractLsb' 0 3 = BitVec.ofFin (w := 3) i := by
    ext k hk
    rw [BitVec.getElem_extractLsb', recordWord0_getLsbD, if_pos (by omega), Nat.zero_add,
      BitVec.getLsbD_eq_getElem hk]
  rw [recordSlot, this]

theorem recordTag_recordWord0 : recordTag (recordWord0 i t kind o) = t := by
  have : (recordWord0 i t kind o).extractLsb' 8 5 = BitVec.ofFin (w := 5) t := by
    ext k hk
    rw [BitVec.getElem_extractLsb', recordWord0_getLsbD, if_neg (by omega), if_neg (by omega), if_pos (by omega),
      Nat.add_sub_cancel_left, BitVec.getLsbD_eq_getElem hk]
  rw [recordTag, this]

theorem recordKind_recordWord0 : recordKind (recordWord0 i t kind o) = kind := by
  ext k hk
  rw [recordKind, BitVec.getElem_extractLsb', recordWord0_getLsbD, if_neg (by omega), if_neg (by omega),
    if_neg (by omega), if_neg (by omega), if_pos (by omega), Nat.add_sub_cancel_left, BitVec.getLsbD_eq_getElem hk]

theorem recordOmitted_recordWord0 : recordOmitted (recordWord0 i t kind o) = o := by
  rw [recordOmitted, recordWord0_getLsbD]; rfl

theorem recordAddr_halves (addr : BitVec 48) (count : BitVec 16) :
    recordAddr (addr.extractLsb' 0 32) (count ++ addr.extractLsb' 32 16) = addr := by
  have hlow : BitVec.extractLsb' 0 16 (count ++ addr.extractLsb' 32 16) = addr.extractLsb' 32 16 := by
    ext k hk
    refine (BitVec.getElem_extractLsb' ..).trans ((BitVec.getLsbD_append ..).trans ?_)
    simp [hk]
  rw [recordAddr]
  refine (congrArg (· ++ _) hlow).trans ?_
  ext k hk
  refine (BitVec.getElem_append ..).trans ?_
  simp
  grind

theorem recordCount_append (count low : BitVec 16) : recordCount (count ++ low) = count := by
  ext k hk
  refine (BitVec.getElem_extractLsb' ..).trans ((BitVec.getLsbD_append ..).trans ?_)
  simp [BitVec.getLsbD_eq_getElem hk]

theorem recordParam_quarters (p : BitVec 128) :
    recordParam (p.extractLsb' 0 32) (p.extractLsb' 32 32) (p.extractLsb' 64 32) (p.extractLsb' 96 32) = p := by
  ext k hk
  refine (BitVec.getElem_append ..).trans ?_
  simp
  grind
/-- The words of a record spell the command of its kind. -/
theorem decodeRecord_recordWords (addr : BitVec 48) (count : BitVec 16) (p : BitVec 128) :
    decodeRecord (recordWords i t kind addr count o p) =
      if kind = 1 then .read i t addr count o
      else if kind = 2 then (if o then .dataOmittedWrite i t addr count else .write i t addr count)
      else if kind = 3 then .flush i t addr count o
      else if kind = 4 then .identify i t addr count o
      else if kind = 5 then .other i t addr count o p
      else .unknownKindRecord i t kind addr count o := by
  simp only [decodeRecord, recordWords, recordWord, List.getD_cons_zero, List.getD_cons_succ, recordSlot_recordWord0,
    recordTag_recordWord0, recordKind_recordWord0, recordOmitted_recordWord0, recordAddr_halves, recordCount_append,
    recordParam_quarters]

/-- An unknown kind is none of the five. -/
theorem ne_of_unknownKind (h : knownRecordKind kind = false) :
    kind ≠ 1 ∧ kind ≠ 2 ∧ kind ≠ 3 ∧ kind ≠ 4 ∧ kind ≠ 5 := by
  revert kind; decide

end Words

/-- Settles O10, kind by kind. -/
theorem recordWordsRoundTrip : Obligations.RecordWordsRoundTrip := by
  intro c ws hwf henc
  cases c <;> cases henc
  case read | write | dataOmittedWrite | flush | identify | other =>
    exact ⟨rfl, by rw [decodeRecord_recordWords]; rfl⟩
  case unknownKindRecord s t kind addr count o =>
    obtain ⟨h1, h2, h3, h4, h5⟩ := ne_of_unknownKind (by simpa [Instr.wellFormed] using hwf)
    exact ⟨rfl, by rw [decodeRecord_recordWords, if_neg h1, if_neg h2, if_neg h3, if_neg h4, if_neg h5]⟩

end Sys2Proof.Machine

/-! PROOFS. The control-window commands (R46 to R51, R63, R134, R145, R158, R164, R165, R173 to R179): what each leaves,
refused or done, with its record in the COMMAND block. -/

namespace Sys2Proof.Machine

/-! ## A command and its record in the COMMAND block -/

section Recorded

variable {s w : State} {i : SlotId} {t : Tag} {code a b : Word} {o : CmdOutcome} {x : Slot}

/-- The part as a command finds it: the port given up, the command recorded in its block (R173, steps 1 and 2). -/
def State.recorded (i : SlotId) (code a b : Word) (s : State) : State :=
  s.portGivenUp.modSlot i (Slot.modCommand (CommandBlock.taken code a b))

@[simp] theorem State.recorded_slot :
    (s.recorded i code a b).slot i = (s.slot i).modCommand (CommandBlock.taken code a b) := by
  simp [State.recorded]

theorem State.recorded_shelf : (s.recorded i code a b).shelf = s.shelf := by
  simp [State.recorded, State.modSlot]

theorem State.recorded_grader : (s.recorded i code a b).grader = s.grader := by
  simp [State.recorded, State.modSlot]

theorem State.recorded_setSlot (y : Slot) : (s.recorded i code a b).setSlot i y = s.portGivenUp.setSlot i y := by
  simp [State.recorded, State.modSlot]

variable (ht : (s.slot i).tagBusy t = false)
include ht

/-- What a COMMAND block write leaves when its command leaves slot `i` as `x`, but for the block itself. -/
theorem State.writeCommand_of
    (h : runCommand i t code a b (s.recorded i code a b) =
      { state := w.setSlot i (x.modCommand (CommandBlock.taken code a b)), outcome := o }) :
    s.writeCommand i t code a b = (w.setSlot i x).answered i t code a b o := by
  rw [State.writeCommand_eq s i t code a b ht]
  exact State.takeCommand_of _ _ _ _ _ _ _ _ _ h

/-- A refused command is only recorded. -/
theorem State.writeCommand_refused
    (h : runCommand i t code a b (s.recorded i code a b) = refuseWith o (s.recorded i code a b)) :
    s.writeCommand i t code a b = s.portGivenUp.answered i t code a b o := by
  rw [State.writeCommand_eq s i t code a b ht]
  exact State.takeCommand_refused _ _ _ _ _ _ _ h

/-- A command whose effect is on its slot alone. -/
theorem State.writeCommand_doSlot {f : Slot → Slot}
    (h : runCommand i t code a b (s.recorded i code a b) = doSlot i f (s.recorded i code a b))
    (hf : f ((s.slot i).modCommand (CommandBlock.taken code a b)) = x.modCommand (CommandBlock.taken code a b)) :
    s.writeCommand i t code a b = (s.portGivenUp.setSlot i x).answered i t code a b .done := by
  refine State.writeCommand_of ht (h.trans ?_)
  rw [doSlot, State.modSlot, State.recorded_slot, hf, State.recorded_setSlot]

end Recorded

/-- An access of the window under a tag in use is refused. -/
theorem State.windowWrite_tagBusy {s : State} {i : SlotId} {t : Tag} {data : Block} {n : Nat} (hn : n < 64)
    (ht : (s.slot i).tagBusy t = true) : s.windowWrite i t n data = s.portGivenUp.say [reply i t .tagBusy] := by
  rw [State.windowWrite_eq s i t n data hn, if_pos ht]

theorem State.gradeRead_tagBusy {s : State} {i : SlotId} {t : Tag} (ht : (s.slot i).tagBusy t = true) :
    s.arrive i (gradeReadRecord t) = s.portGivenUp.say [reply i t .tagBusy] := by
  rw [State.arrive_eq, State.deliver_refused _ _ _ .tagBusy]
  · rfl
  · rw [Slot.refusal_control _ _ (gradeReadRecord_malformed t) (gradeReadRecord_isControl t), if_pos]
    rw [State.portGivenUp_slot]
    exact ht

/-! ## Refusals -/

section Refused

variable {s : State} {i : SlotId} {t : Tag} {code a b : Word}

theorem runCommand_unknown (h : 12#32 < code ∨ code = 0#32) : runCommand i t code a b s = refuseWith .unknown s := by
  unfold runCommand
  repeat rw [if_neg (by rintro rfl; revert h; decide)]

theorem runArm_unknown (h1 : a ≠ 1) (h2 : a ≠ 2) : runArm i a b s = refuseWith .unknown s := if_pos ⟨h1, h2⟩

theorem runArm_wrongPhase (ha : a = 1 ∨ a = 2) (hp : (s.slot i).sup.phase ≠ .ready) :
    runArm i a b s = refuseWith .wrongPhase s := by
  rw [runArm, if_neg (by tauto), if_pos hp]

/-- ARM that is refused after it has adopted leaves the adoption. -/
theorem armAdopted_noRegion {write endless : Bool} (h : (s.slot i).zmap.region.status ≠ .enabled) :
    armAdopted i write endless s = refuseWith .noRegion s := by
  have : (s.slot i).zmap.region.enabled = false := by simpa [Region.enabled] using h
  simp only [armAdopted, if_pos this]

theorem armAdopted_passLimit {write endless : Bool} (he : (s.slot i).zmap.region.status = .enabled)
    (h : (s.slot i).tally.serials = 65535 ∨ (write = true ∧ (s.slot i).tally.writeEpochs = 65534)) :
    armAdopted i write endless s = refuseWith .passLimit s := by
  have henabled : ¬(s.slot i).zmap.region.enabled = false := by simp [Region.enabled, he]
  simp only [armAdopted, if_neg henabled]
  exact if_pos h

/-- ARM of a known kind on a READY slot that is refused after the adoption. -/
theorem writeCommand_arm_refused {o : CmdOutcome} (ht : (s.slot i).tagBusy t = false) (ha : a = 1 ∨ a = 2)
    (hp : (s.slot i).sup.phase = .ready)
    (h : ∀ u : State, u.slot i = ((s.slot i).adopt (s.slot i).pending).modCommand (CommandBlock.taken 1 a b) →
      armAdopted i (a == 1) (b.getLsbD 0) u = refuseWith o u) :
    s.writeCommand i t 1 a b =
      (s.portGivenUp.setSlot i ((s.slot i).adopt (s.slot i).pending)).answered i t 1 a b o := by
  refine State.writeCommand_of ht ?_
  show runArm i a b _ = _
  rw [runArm_of_ready ha (by simpa using hp), h _ (by simp [Slot.adopt_modCommand])]
  simp [refuseWith, State.modSlot, State.recorded_setSlot, Slot.adopt_modCommand]

theorem runHold_wrongPhase (hp : (s.slot i).sup.phase ≠ .running) : runHold i s = refuseWith .wrongPhase s := if_pos hp

theorem runResume_wrongPhase (hp : (s.slot i).sup.phase ≠ .held) : runResume i s = refuseWith .wrongPhase s := if_pos hp

theorem runResume_thermal (hp : (s.slot i).sup.phase = .held) (hm : (s.slot i).mon.tempLive = .critical) :
    runResume i s = refuseWith .thermal s := by
  rw [runResume, if_neg (not_not.mpr hp), if_pos hm]

theorem runAbort_wrongPhase (h1 : (s.slot i).sup.phase ≠ .running) (h2 : (s.slot i).sup.phase ≠ .held)
    (h3 : (s.slot i).sup.phase ≠ .soak) (h4 : (s.slot i).sup.phase ≠ .shipping) :
    runAbort i s = refuseWith .wrongPhase s := by
  unfold runAbort; split <;> simp_all

theorem runSoak_wrongPhase (hp : (s.slot i).sup.phase ≠ .ready) : runSoak i a s = refuseWith .wrongPhase s := if_pos hp

theorem runAdopt_wrongPhase (h1 : (s.slot i).sup.phase ≠ .ready) (h2 : (s.slot i).sup.phase ≠ .soak)
    (h3 : (s.slot i).sup.phase ≠ .attaching) : runAdopt i s = refuseWith .wrongPhase s := by
  unfold runAdopt; split <;> simp_all

theorem runClose_closed (h : (s.slot i).sup.closed = true) : runClose i s = refuseWith .closed s := if_pos h

theorem runClose_wrongPhase (h : (s.slot i).sup.closed = false) (h1 : (s.slot i).sup.phase ≠ .ready)
    (h2 : (s.slot i).sup.phase ≠ .soak) : runClose i s = refuseWith .wrongPhase s := by
  rw [runClose, if_neg (by simp [h])]
  split <;> simp_all

theorem runShip_wrongPhase (h : (s.slot i).sup.phase ≠ .graded ∨ (s.slot i).closing.releasePending = true) :
    runShip i s = refuseWith .wrongPhase s := if_pos h

theorem runShip_passLimit (hp : (s.slot i).sup.phase = .graded) (hr : (s.slot i).closing.releasePending = false)
    (h : (s.slot i).tally.serials = 65535) : runShip i s = refuseWith .passLimit s := by
  have hwell : ¬((s.slot i).sup.phase ≠ .graded ∨ (s.slot i).closing.releasePending = true) := by simp [hp, hr]
  have hlimit : (s.slot i).tally.serials = Config.maxSerial := h
  simp only [runShip, if_neg hwell, if_pos hlimit]

theorem runRelease_wrongPhase (h1 : (s.slot i).sup.phase ≠ .graded) (h2 : (s.slot i).sup.phase ≠ .shipped)
    (h3 : (s.slot i).sup.phase ≠ .faulted) : runRelease i s = refuseWith .wrongPhase s := by
  unfold runRelease; split <;> simp_all

theorem runResetSlot_closed (h : (s.slot i).sup.closed = true) : runResetSlot i t s = refuseWith .closed s := if_pos h

/-- The slots that RESET-SLOT takes (R134). -/
theorem Slot.resettable_iff {sl : Slot} :
    sl.resettable = true ↔ sl.closing.releasePending = false ∧
      (sl.sup.phase = .ready ∨ sl.sup.phase = .soak ∨
        (sl.sup.phase = .faulted ∧ (sl.sup.cause = some .resetLimit ∨ sl.sup.cause = some .linkLost))) := by
  simp [Slot.resettable, or_assoc]

theorem runResetSlot_wrongPhase (h : (s.slot i).sup.closed = false) (hr : ¬(s.slot i).resettable = true) :
    runResetSlot i t s = refuseWith .wrongPhase s := by
  rw [runResetSlot, if_neg (by simp [h]), if_neg hr]

end Refused

/-- Settles O12, command by command. -/
theorem refusedWindowCommandsOnlyRecord : Obligations.RefusedWindowCommandsOnlyRecord := by
  intro s i t a b sl ad p only adopted
  refine ⟨fun ht code offset data c hc => ?tagBusy, fun ht => ?refused⟩
  case tagBusy =>
    have hwrite {n : Nat} (d : Block) (hn : n < 64) := State.windowWrite_tagBusy (data := d) hn ht
    simp only [List.mem_cons, List.not_mem_nil, or_false] at hc
    rcases hc with rfl | rfl | rfl | rfl | rfl | rfl | rfl | rfl | rfl | rfl | rfl | rfl | rfl | rfl | rfl | rfl | rfl
    iterate 15 exact congrArg _ (hwrite _ (by decide))
    · exact congrArg _ (hwrite data offset.isLt)
    · exact congrArg _ (State.gradeRead_tagBusy ht)
  case refused =>
    have refuse {code : Word} {o : CmdOutcome}
        (h : runCommand i t code a b (s.recorded i code a b) = refuseWith o (s.recorded i code a b)) :
        Host.Outcome.next (s.writeCommand i t code a b) = only code o :=
      congrArg _ (State.writeCommand_refused ht h)
    refine ⟨fun h1 h2 => refuse (runArm_unknown h1 h2), fun ha hp => refuse (runArm_wrongPhase ha (by simpa using hp)),
      fun ha hp he => congrArg _ (writeCommand_arm_refused ht ha hp fun u hu =>
        armAdopted_noRegion (by rw [hu]; exact he)),
      fun ha hp he hl => congrArg _ (writeCommand_arm_refused ht ha hp fun u hu =>
        armAdopted_passLimit (by rw [hu]; exact he) ?limit),
      fun hp => refuse (runHold_wrongPhase (by simpa using hp)),
      fun hp => refuse (runResume_wrongPhase (by simpa using hp)),
      fun hp hm => refuse (runResume_thermal (by simpa using hp) (by simpa using hm)),
      fun h1 h2 h3 h4 => refuse (runAbort_wrongPhase (by simpa using h1) (by simpa using h2) (by simpa using h3)
        (by simpa using h4)),
      fun hp => refuse (runSoak_wrongPhase (by simpa using hp)),
      fun h1 h2 h3 => refuse (runAdopt_wrongPhase (by simpa using h1) (by simpa using h2) (by simpa using h3)),
      fun hc => refuse (runClose_closed (by simpa using hc)),
      fun hc h1 h2 => refuse (runClose_wrongPhase (by simpa using hc) (by simpa using h1) (by simpa using h2)),
      fun h => refuse (runShip_wrongPhase (by simpa using h)),
      fun hp hr h => refuse (runShip_passLimit (by simpa using hp) (by simpa using hr) (by simpa using h)),
      fun h1 h2 h3 => refuse (runRelease_wrongPhase (by simpa using h1) (by simpa using h2) (by simpa using h3)),
      fun hc => refuse (runResetSlot_closed (by simpa using hc)), fun hc h => refuse ?reset,
      fun code h => refuse (runCommand_unknown h)⟩
    case limit =>
      rw [hu, Slot.modCommand_tally, Slot.adopt_serials, Slot.adopt_writeEpochs]
      simpa using hl
    case reset =>
      refine runResetSlot_wrongPhase (by simpa using hc) ?_
      rw [Slot.resettable_iff, State.recorded_slot]
      rintro ⟨hr, hphase⟩
      rcases h with h | ⟨h1, h2, h3⟩
      · exact absurd (h.symm.trans hr) (by decide)
      · exact hphase.elim h1 fun h => h.elim h2 h3

/-! ## The pass and the soak -/

section Passes

variable {s : State} {i : SlotId} {t : Tag} {a b : Word}

theorem runHold_of (hp : (s.slot i).sup.phase = .running) :
    runHold i s =
      doSlot i (fun sl => (sl.modPass fun p => { p with state := .held, holdHost := true }).setPhase .held) s :=
  if_neg (not_not.mpr hp)

/-- What RESUME does to the slot before it tests the pass (R50). -/
def Slot.resumed (sl : Slot) : Slot :=
  (sl.modPass fun p => { p with state := .running, holdHost := false, holdThermal := false }).setPhase .running

theorem Slot.resumed_modCommand {sl : Slot} (g : CommandBlock → CommandBlock) :
    (sl.modCommand g).resumed = sl.resumed.modCommand g := rfl

theorem runResume_of (hp : (s.slot i).sup.phase = .held) (hm : (s.slot i).mon.tempLive ≠ .critical) :
    runResume i s = doSlot i (fun sl => sl.resumed.testPass) s := by
  rw [runResume, if_neg (not_not.mpr hp), if_neg hm]; rfl

/-- A pass whose counts are not both 0 runs on. -/
theorem Slot.testPass_id {sl : Slot} (h : sl.pass.remaining ≠ 0 ∨ sl.pass.outstanding ≠ 0) : sl.testPass = sl := by
  rw [Slot.testPass, if_neg (by tauto)]

theorem runSoak_of (hp : (s.slot i).sup.phase = .ready) :
    runSoak i a s = doSlot i (fun sl =>
      (sl.modTally fun t => { t with soakTarget := soakMinutes a, soakGained := 0 }).setPhase .soak) s :=
  if_neg (not_not.mpr hp)

/-- The target of a soak is the parameter within 1 and 65535 minutes (R63). -/
theorem soakMinutes_eq : soakMinutes a = if a.toNat = 0 then 1 else if 65535 < a.toNat then 65535 else a.toNat := by
  unfold soakMinutes; split_ifs <;> omega

theorem runAbort_pass (hp : (s.slot i).sup.phase = .running ∨ (s.slot i).sup.phase = .held) :
    runAbort i s = doSlot i (fun sl => (sl.modPass PassRecord.abort).setPhase .ready) s := by
  unfold runAbort; rcases hp with hp | hp <;> simp [hp]

theorem runAbort_soak (hp : (s.slot i).sup.phase = .soak) : runAbort i s = doSlot i (Slot.setPhase .ready) s := by
  simp [runAbort, hp]

theorem runAbort_shipping (hp : (s.slot i).sup.phase = .shipping) :
    runAbort i s = doSlot i (fun sl => sl.abortPass.setPhase .graded) s := by
  simp [runAbort, hp]

theorem runAdopt_of (hp : (s.slot i).sup.phase = .ready ∨ (s.slot i).sup.phase = .soak ∨
    (s.slot i).sup.phase = .attaching) : runAdopt i s = doSlot i (fun sl => sl.adopt sl.pending) s := by
  unfold runAdopt; rcases hp with hp | hp | hp <;> simp [hp]

theorem exec_resume (ht : (s.slot i).tagBusy t = false) (hp : (s.slot i).sup.phase = .held)
    (hm : (s.slot i).mon.tempLive ≠ .critical) :
    exec (.resume i t a b) s =
      .next ((s.portGivenUp.setSlot i (s.slot i).resumed.testPass).answered i t 3 a b .done) :=
  congrArg Host.Outcome.next (State.writeCommand_doSlot ht (runResume_of (by simpa using hp) (by simpa using hm))
    (by rw [Slot.resumed_modCommand, Slot.testPass_modCommand]))

end Passes

/-- Settles O13. -/
theorem holdResumeAndSoak : Obligations.HoldResumeAndSoak := by
  intro s i t a b sl resumed ht
  have hresumed : (s.slot i).resumed = resumed := rfl
  refine ⟨fun hp => congrArg Host.Outcome.next ?hold, fun hp hm => ?resume, fun hp => congrArg Host.Outcome.next ?soak⟩
  case hold => exact State.writeCommand_doSlot ht (runHold_of (by simpa using hp)) rfl
  case resume =>
    rw [exec_resume ht hp hm, hresumed]
    exact ⟨fun h => by rw [Slot.testPass_id (sl := resumed) h], fun _ _ => rfl⟩
  case soak =>
    rw [← soakMinutes_eq]
    exact State.writeCommand_doSlot ht (runSoak_of (by simpa using hp)) rfl

/-- Settles O14, phase by phase. -/
theorem abortEndsThePassOrTheSoak : Obligations.AbortEndsThePassOrTheSoak := by
  intro s i t a b sl done aborted ht
  have shipping (hp : sl.sup.phase = .shipping) :
      exec (.abort i t a b) s = done (sl.abortPass.setPhase .graded) :=
    congrArg Host.Outcome.next (State.writeCommand_doSlot ht (runAbort_shipping (by simpa using hp))
      (by rw [Slot.abortPass_modCommand]; rfl))
  refine ⟨fun hp => congrArg Host.Outcome.next ?pass, fun hp => congrArg Host.Outcome.next ?soak, fun hp hrun => ?active,
    fun hp hdone => ?complete⟩
  case pass => exact State.writeCommand_doSlot ht (runAbort_pass (by simpa using hp)) rfl
  case soak => exact State.writeCommand_doSlot ht (runAbort_soak (by simpa using hp)) rfl
  case active => rw [shipping hp, Slot.abortPass, if_pos (by simp [PassRecord.active, hrun])]; rfl
  case complete => rw [shipping hp, Slot.abortPass, if_neg (by simp [PassRecord.active, hdone])]; rfl

/-! ## Adoption -/

/-- The map that a region is built with (R25, R39). -/
theorem ZoneMap.build_eq (g : Region) :
    ZoneMap.build g =
      { region := g
        zones := if g.status = .enabled then
            List.replicate g.zoneCount { state := .blank, current := 0, previous := 0, wf := 0, rf := 0 }
          else [] } := by
  simp [ZoneMap.build, Region.enabled, Zone.blank]

/-- Settles O15: the region is derived again from the clamped recipe, and the map is built again when it differs. -/
theorem adoptCopiesThePendingRecipe : Obligations.AdoptCopiesThePendingRecipe := by
  intro s i t a b sl g adopted
  have hadopt : sl.adopt sl.pending = adopted := by
    simp only [adopted, Slot.adopt, Slot.rederive]
    by_cases h : g = sl.zmap.region
    · rw [if_pos h, if_pos h, if_pos h]; rfl
    · rw [if_neg h, if_neg h, if_neg h, ← ZoneMap.build_eq]; rfl
  refine ⟨hadopt, fun ht hp => ?_⟩
  rw [← hadopt]
  exact congrArg Host.Outcome.next
    (State.writeCommand_doSlot ht (runAdopt_of (by simpa using hp)) (Slot.adopt_modCommand _ _ sl))

end Sys2Proof.Machine

/-! PROOFS. The commands that grade, ship, release or reset a slot (R134, R145, R158, R165), the event flags and the
attention line (R177, R178), the block writes of the window (R171, R174, R179), and the clamped recipe (R176). -/

namespace Sys2Proof.Machine

/-! ## CLOSE -/

/-- Of two settings of one slot the later stands, when the grading unit's record is set between them. -/
theorem State.setSlot_grader_setSlot (s : State) (i : SlotId) (x y : Slot) (g : Grader) :
    ({ s.setSlot i x with grader := g } : State).setSlot i y = ({ s with grader := g } : State).setSlot i y :=
  State.setSlot_setSlot { s with grader := g } i x y

section Close

variable {s : State} {i : SlotId} {t : Tag} {a b : Word}

/-- What CLOSE does to the slot before it tests the drain (R146). -/
def Slot.draining (sl : Slot) : Slot := (sl.setPhase .grading).setStep .draining

theorem runClose_of (hc : (s.slot i).sup.closed = false)
    (hp : (s.slot i).sup.phase = .ready ∨ (s.slot i).sup.phase = .soak) :
    runClose i s = { state := (s.setSlot i (s.slot i).draining).testDrain i, outcome := .done } := by
  rw [runClose, if_neg (by simp [hc])]
  rcases hp with hp | hp <;> rw [hp] <;> rfl

/-- CLOSE that is taken, when the drain test that follows leaves slot `i` as `x` and the rest as `w`. -/
theorem exec_close {w : State} {x : Slot} (ht : (s.slot i).tagBusy t = false) (hc : (s.slot i).sup.closed = false)
    (hp : (s.slot i).sup.phase = .ready ∨ (s.slot i).sup.phase = .soak)
    (h : ((s.portGivenUp.setSlot i
        ((s.slot i).draining.modCommand (CommandBlock.taken 7 a b))).testDrain i) =
      w.setSlot i (x.modCommand (CommandBlock.taken 7 a b))) :
    exec (.close i t a b) s = .next ((w.setSlot i x).answered i t 7 a b .done) := by
  refine congrArg Host.Outcome.next (State.writeCommand_of ht ?_)
  show runClose i _ = _
  rw [runClose_of (by simpa using hc) (by simpa using hp), State.recorded_slot, State.recorded_setSlot]
  exact congrArg (fun u => Done.mk u .done) h

end Close

/-- Settles O17: by the test of the drain at the end of the event. -/
theorem closeStartsTheDrain : Obligations.CloseStartsTheDrain := by
  intro s i t a b sl inputs weights u step ht hc hp
  have hslot : (u.setSlot i (sl.draining.modCommand (CommandBlock.taken 7 a b))).slot i =
      sl.draining.modCommand (CommandBlock.taken 7 a b) := State.slot_setSlot ..
  refine ⟨fun hleft => ?draining, fun hd hg => ?queued, fun hd hg => ?computing⟩
  case draining =>
    have hstays := State.testDrain_id (u.setSlot i (sl.draining.modCommand (CommandBlock.taken 7 a b))) i
      (.inr (by rw [hslot]; exact hleft))
    exact exec_close (x := step .draining false) ht hc hp (hstays.trans (by rw [← hc]; rfl))
  case queued =>
    have hqueues := State.testDrain_queues (u.setSlot i (sl.draining.modCommand (CommandBlock.taken 7 a b))) i
      (by rw [hslot]; rfl) (by rw [hslot]; exact hd) (by simpa [u] using hg)
    refine exec_close ht hc hp (hqueues.trans ?_)
    rw [hslot, State.setSlot_grader, State.portGivenUp_grader, ← hc]
    exact State.setSlot_grader_setSlot ..
  case computing =>
    have hcomputes := State.testDrain_computes (u.setSlot i (sl.draining.modCommand (CommandBlock.taken 7 a b))) i
      (by rw [hslot]; rfl) (by rw [hslot]; exact hd) (by simpa [u] using hg)
    refine exec_close ht hc hp (hcomputes.trans ?_)
    have hcomputation : (u.setSlot i (sl.draining.modCommand (CommandBlock.taken 7 a b))).computationOf i =
        { slot := i, inputs := inputs, weights := weights, bins := s.shelf.bins } := by
      rw [State.computationOf, hslot, State.setSlot_shelf, State.portGivenUp_shelf]
      rfl
    rw [hcomputation, hslot]
    exact State.setSlot_grader_setSlot ..

/-! ## SHIP -/

section Ship

variable {s : State} {i : SlotId} {t : Tag} {a b : Word} {sl : Slot}

/-- What SHIP does to the slot before it tests the pass (R158). -/
def Slot.wiping (sl : Slot) : Slot := sl.armShip.setPhase .shipping

theorem Slot.wiping_modCommand (g : CommandBlock → CommandBlock) :
    (sl.modCommand g).wiping = sl.wiping.modCommand g := rfl

theorem runShip_of (hp : (s.slot i).sup.phase = .graded) (hr : (s.slot i).closing.releasePending = false)
    (h : (s.slot i).tally.serials ≠ 65535) : runShip i s = doSlot i (fun sl => sl.wiping.testPass) s := by
  have hwell : ¬((s.slot i).sup.phase ≠ .graded ∨ (s.slot i).closing.releasePending = true) := by simp [hp, hr]
  have hlimit : ¬(s.slot i).tally.serials = Config.maxSerial := h
  simp only [runShip, if_neg hwell, if_neg hlimit]
  rfl

theorem exec_ship (ht : (s.slot i).tagBusy t = false) (hp : (s.slot i).sup.phase = .graded)
    (hr : (s.slot i).closing.releasePending = false) (h : (s.slot i).tally.serials ≠ 65535) :
    exec (.ship i t a b) s =
      .next ((s.portGivenUp.setSlot i (s.slot i).wiping.testPass).answered i t 8 a b .done) :=
  congrArg Host.Outcome.next (State.writeCommand_doSlot ht
    (runShip_of (by simpa using hp) (by simpa using hr) (by simpa using h))
    (by rw [Slot.wiping_modCommand, Slot.testPass_modCommand]))

/-- A running ship pass with nothing left and nothing outstanding is complete, and may ship the slot (R159, R163). -/
theorem Slot.testPass_ship (hk : sl.pass.kind = .ship) (hs : sl.pass.state = .running) (hr : sl.pass.remaining = 0)
    (ho : sl.pass.outstanding = 0) :
    sl.testPass = ((sl.modPass fun p => { p with state := .complete }).raise .passDone).testShipped := by
  rw [Slot.testPass, if_pos ⟨hs, hr, ho⟩, if_neg (by simp [hk]), Slot.completePass, hk]

/-- When a slot whose ship pass is complete is SHIPPED (R163). -/
theorem Slot.testShipped_of (hp : sl.sup.phase = .shipping) (hk : sl.pass.kind = .ship)
    (hs : sl.pass.state = .complete) (h : sl.hasShipBlock = false ∨ sl.closing.shipWritten = true) :
    sl.testShipped = (sl.setPhase .shipped).raise .shipDone := if_pos ⟨hp, hk, hs, h⟩

theorem Slot.testShipped_waits (hb : sl.hasShipBlock = true) (hw : sl.closing.shipWritten = false) :
    sl.testShipped = sl := by
  rw [Slot.testShipped, if_neg (by simp [hb, hw])]

end Ship

/-- Settles O18. -/
theorem shipArmsTheWipe : Obligations.ShipArmsTheWipe := by
  intro s i t a b sl zones left armed complete shipped ht hp hr hlimit
  have hwiping : (s.slot i).wiping = armed := rfl
  rw [exec_ship ht hp hr hlimit, hwiping]
  have hcomplete (hleft : left = 0) : armed.testPass = complete.testShipped :=
    Slot.testPass_ship (sl := armed) rfl rfl hleft rfl
  refine ⟨fun hleft => ?left, fun hleft hb hw => ?complete, fun hleft h => ?shipped⟩
  case left => rw [Slot.testPass_id (sl := armed) (.inl hleft)]
  case complete => rw [hcomplete hleft, Slot.testShipped_waits (sl := complete) hb hw]
  case shipped =>
    rw [hcomplete hleft, Slot.testShipped_of (sl := complete) rfl rfl rfl h]
    rfl

/-! ## RELEASE -/

section Release

variable {s w : State} {i : SlotId} {t : Tag} {a b : Word} {x : Slot}

/-- The slot once a release is pending (R165). -/
def Slot.releasing (sl : Slot) : Slot := sl.modClosing fun c => { c with releasePending := true }

theorem runRelease_pending (hp : (s.slot i).sup.phase = .graded ∨ (s.slot i).sup.phase = .shipped ∨
    (s.slot i).sup.phase = .faulted) (hr : (s.slot i).closing.releasePending = true) :
    runRelease i s = { state := s, outcome := .done } := by
  unfold runRelease; rcases hp with hp | hp | hp <;> simp [hp, hr]

theorem runRelease_of (hp : (s.slot i).sup.phase = .graded ∨ (s.slot i).sup.phase = .shipped ∨
    (s.slot i).sup.phase = .faulted) (hr : (s.slot i).closing.releasePending = false) :
    runRelease i s = { state := (s.setSlot i (s.slot i).releasing).testRelease i, outcome := .done } := by
  unfold runRelease; rcases hp with hp | hp | hp <;> simp [hp, hr] <;> rfl

/-- RELEASE that begins, when the test that follows leaves slot `i` as `x`. -/
theorem exec_release (ht : (s.slot i).tagBusy t = false)
    (hp : (s.slot i).sup.phase = .graded ∨ (s.slot i).sup.phase = .shipped ∨ (s.slot i).sup.phase = .faulted)
    (hr : (s.slot i).closing.releasePending = false)
    (h : (s.portGivenUp.setSlot i ((s.slot i).releasing.modCommand (CommandBlock.taken 9 a b))).testRelease i =
      s.portGivenUp.setSlot i (x.modCommand (CommandBlock.taken 9 a b))) :
    exec (.release i t a b) s = .next ((s.portGivenUp.setSlot i x).answered i t 9 a b .done) := by
  refine congrArg Host.Outcome.next (State.writeCommand_of ht ?_)
  show runRelease i _ = _
  rw [runRelease_of (by simpa using hp) (by simpa using hr), State.recorded_slot, State.recorded_setSlot]
  exact congrArg (fun u => Done.mk u .done) h

end Release

/-- Settles O19: by the test of the release at the end of the event. -/
theorem releaseWaitsForTheDrain : Obligations.ReleaseWaitsForTheDrain := by
  intro s i t a b sl done ht hp
  refine ⟨fun hr => congrArg Host.Outcome.next ?again, fun hr hleft => ?waits, fun hr hq => ?completes⟩
  case again =>
    refine State.writeCommand_of ht ((runRelease_pending (by simpa using hp) (by simpa using hr)).trans ?_)
    rw [State.recorded, State.modSlot, State.portGivenUp_slot]
  case waits =>
    refine exec_release (x := sl.releasing) ht hp hr (State.testRelease_id _ i (.inr ?_))
    rw [State.slot_setSlot]
    exact hleft
  case completes =>
    refine exec_release ht hp hr ?_
    rw [State.testRelease_completes _ i (by rw [State.slot_setSlot]; rfl) (by rw [State.slot_setSlot]; exact hq),
      State.setSlot_setSlot, State.slot_setSlot, State.setSlot_shelf, State.portGivenUp_shelf]
    rfl

/-! ## RESET-SLOT -/

section Reset

variable {s : State} {i : SlotId} {t : Tag} {a b : Word} {sl : Slot}

theorem runResetSlot_of (hc : (s.slot i).sup.closed = false) (hr : (s.slot i).resettable = true) :
    runResetSlot i t s =
      { state := s.commit i ((Act.start (s.slot i)).resetSlot i t s.now s.shelf.recipe), outcome := .done } := by
  rw [runResetSlot, if_neg (by simp [hc]), if_pos hr]

/-- The default recipe adopted by a slot without a drive: nothing to derive the region again from (R129). -/
theorem Slot.adopt_unidentified {r : Recipe} (hi : sl.ident = none) (hz : sl.zmap = .none) :
    sl.adopt r = { sl with active := r.clamp, key := none, mon := sl.mon.inside } := by
  simp [Slot.adopt, Slot.rederive, deriveRegion, slotKey, hi, hz, ZoneMap.none]

/-- The commands that RESET-SLOT ends under a free tag are all of them, and with no access of the window held each data
command is answered ABORTED (R105, R135). -/
theorem endAll_aborted {cs : List Cmd} {g : Block} (hd : ∀ c ∈ cs, c.state ≠ .atResponder) :
    endAll i .aborted (some g) cs =
      (inTagOrder cs).flatMap fun c => (c.tag.map fun u => [reply i u .aborted]).getD [] := by
  rw [endAll_answer]
  refine List.flatMap_congr fun c hc => ?_
  simp only [if_neg (hd c (mem_of_mem_inTagOrder cs c hc))]

theorem Slot.tagBusy_false_filter (ht : sl.tagBusy t = false) :
    (sl.traffic.cmds.filter fun c => c.tag != some t) = sl.traffic.cmds := by
  rw [List.filter_eq_self]
  intro c hc
  simp only [Slot.tagBusy, List.any_eq_false, beq_iff_eq] at ht
  simpa using ht c hc

end Reset

/-- Settles O20. -/
theorem resetSlotAttachesAgain : Obligations.ResetSlotAttachesAgain := by
  intro s i t a b sl ht hc hr hp hdata
  rw [← State.say_setSlot]
  refine congrArg Host.Outcome.next (State.writeCommand_of ht ?_)
  have hnow : (s.recorded i 10 a b).now = s.shelf.clock := by rw [State.now, State.recorded_shelf]
  show runResetSlot i t _ = _
  rw [runResetSlot_of (by simpa using hc) (Slot.resettable_iff.mpr ⟨by simpa using hr, by simpa using hp⟩),
    State.commit, State.recorded_slot, State.recorded_setSlot, State.recorded_shelf, hnow]
  have hended (g : Block) : endAll i .aborted (some g) ((s.slot i).traffic.cmds.filter fun c => c.tag != some t) =
      (inTagOrder sl.traffic.cmds).flatMap fun c => (c.tag.map fun u => [reply i u .aborted]).getD [] := by
    rw [Slot.tagBusy_false_filter ht, endAll_aborted hdata]
  simp only [Act.resetSlot, Act.say_sl, Act.say_out, Act.mod_sl, Act.mod_out, Act.start_sl, Act.start_out,
    Slot.modCommand_traffic, List.nil_append]
  rw [hended, Slot.adopt_unidentified rfl rfl]
  rfl

/-! ## Event flags, masks and the attention line -/

section Events

variable {s : State} {i : SlotId} {t : Tag} {a b : Word} {sl : Slot}

theorem Slot.attention_iff : sl.attention = true ↔ sl.events.flags &&& sl.events.mask ≠ 0 := by
  simp [Slot.attention]

theorem State.attentionLine_iff : s.attentionLine = true ↔ ∃ k, (s.slot k).attention = true := by
  simp [State.attentionLine, mem_slotIds]

/-- The sum of the powers of two of the slots where `p` holds, as the bits of a number. -/
theorem slotPowers_eq (p : SlotId → Bool) :
    (slotIds.map fun i => if p i then 2 ^ i.val else 0).sum =
      Nat.bit (p 0) (Nat.bit (p 1) (Nat.bit (p 2) (Nat.bit (p 3) (Nat.bit (p 4) (Nat.bit (p 5) (Nat.bit (p 6)
        (Nat.bit (p 7) 0))))))) := by
  have hpower (k : SlotId) : (if p k then 2 ^ k.val else 0) = 2 ^ k.val * (p k).toNat := by cases p k <;> simp
  simp only [slotIds, List.map_cons, List.map_nil, List.sum_cons, List.sum_nil, hpower, Nat.bit_val]
  norm_num
  ring

/-- Bit `k` of the attention summary is slot `k`'s. -/
theorem State.attentionSummary_testBit (k : SlotId) : s.attentionSummary.testBit k.val = (s.slot k).attention := by
  rw [State.attentionSummary, slotPowers_eq fun i => (s.slot i).attention]
  fin_cases k <;> simp [Nat.testBit_bit_succ]

theorem State.attentionSummary_lt : s.attentionSummary < 256 := by
  have hbit (b : Bool) (n m : Nat) (h : n < m) : Nat.bit b n < 2 * m := by
    cases b <;> simp [Nat.bit_val] <;> omega
  rw [State.attentionSummary, slotPowers_eq fun i => (s.slot i).attention]
  exact hbit _ _ 128 <| hbit _ _ 64 <| hbit _ _ 32 <| hbit _ _ 16 <| hbit _ _ 8 <| hbit _ _ 4 <| hbit _ _ 2 <|
    hbit _ _ 1 (by decide)

/-- Byte 1 of a word. -/
theorem ofBytes_byte1 (b0 b1 b2 b3 : BitVec 8) : (ofBytes b0 b1 b2 b3).extractLsb' 8 8 = b1 := by
  ext k hk
  refine (BitVec.getElem_extractLsb' ..).trans ((BitVec.getLsbD_append ..).trans ?_)
  rw [if_neg (by omega), Nat.add_sub_cancel_left]
  refine (BitVec.getLsbD_append ..).trans ?_
  rw [if_pos hk, BitVec.getLsbD_eq_getElem hk]

/-- TRIP and FAULT count under a mask that has them on. -/
theorem counts_of_alwaysOn {flags mask : BitVec 16} (hm : mask &&& 0xC000 = 0xC000)
    (hf : flags &&& 0x4000 = 0x4000 ∨ flags &&& 0x8000 = 0x8000) : flags &&& mask ≠ 0 := by
  intro h0
  rcases hf with hf | hf
  · have h := congrArg (fun x => x.getLsbD 14) h0
    have hm := congrArg (fun x => x.getLsbD 14) hm
    have hf := congrArg (fun x => x.getLsbD 14) hf
    simp at h hm hf
    simp_all
  · have h := congrArg (fun x => x.getLsbD 15) h0
    have hm := congrArg (fun x => x.getLsbD 15) hm
    have hf := congrArg (fun x => x.getLsbD 15) hf
    simp at h hm hf
    simp_all

/-- The bit of SENSE is selected by bit 9 of the parameter. -/
theorem sense_selected (m : BitVec 16) : m &&& EventFlag.sense.bit = 0 ↔ m.getLsbD 9 = false := by
  have hbit : EventFlag.sense.bit = BitVec.twoPow 16 9 := by decide
  rw [hbit, BitVec.and_twoPow]
  cases m.getLsbD 9 <;> decide

theorem Slot.clearFlags_eq (m : BitVec 16) :
    sl.clearFlags m =
      { sl with
        events := { sl.events with flags := sl.events.flags &&& ~~~m }
        mon := if m.getLsbD 9 then { sl.mon with currentSticky := false, tempSticky := false } else sl.mon } := by
  cases h : m.getLsbD 9
  · rw [Slot.clearFlags, if_pos ((sense_selected m).mpr h)]; rfl
  · rw [Slot.clearFlags, if_neg (by rw [sense_selected, h]; decide)]; rfl

end Events

/-- Settles O21. -/
theorem eventFlagsAndMasks : Obligations.EventFlagsAndMasks := by
  intro s i t a b sl m counts
  have hcounts (k : SlotId) : (s.slot k).attention = true ↔ counts k := Slot.attention_iff
  refine ⟨?line, fun k => ?summary, ?byte, fun k hm hf => counts_of_alwaysOn (hm k) hf, fun ht => ⟨?clear, ?mask⟩⟩
  case line => simp only [State.attentionLine_iff, hcounts]
  case summary => rw [State.attentionSummary_testBit, hcounts]
  case byte =>
    show ((ofBytes _ (BitVec.ofNat 8 s.attentionSummary) 0 0).extractLsb' 8 8).toNat = _
    rw [ofBytes_byte1, BitVec.toNat_ofNat, Nat.mod_eq_of_lt State.attentionSummary_lt]
  case clear =>
    refine congrArg Host.Outcome.next (State.writeCommand_doSlot (f := Slot.clearFlags m) ht rfl ?_)
    rw [Slot.clearFlags_modCommand, Slot.clearFlags_eq]
  case mask => exact congrArg Host.Outcome.next (State.writeCommand_doSlot ht rfl rfl)

/-! ## Block writes -/

/-- Settles O22. -/
theorem windowBlocksTakeAWrite : Obligations.WindowBlocksTakeAWrite := by
  intro s i t data ht
  have taken (n : Nat) (hn : n < 64) : s.windowWrite i t n data = s.portGivenUp.windowTake i t n data := by
    rw [State.windowWrite_eq s i t n data hn, if_neg (by simp [ht])]
  refine ⟨congrArg Host.Outcome.next ((taken 2 (by decide)).trans ?recipe),
    congrArg Host.Outcome.next ((taken 32 (by decide)).trans ?shelf),
    fun offset h1 h2 h32 => congrArg Host.Outcome.next ((taken offset.val offset.isLt).trans ?readOnly)⟩
  case recipe => simp [State.windowTake, State.modSlot]
  case shelf => simp [State.windowTake, Shelf.written, binsOfBlock]
  case readOnly =>
    have hval (n : Nat) (hn : n < 64) (h : offset ≠ ⟨n, hn⟩) : offset.val ≠ n := fun he => h (Fin.ext he)
    rw [State.windowTake, if_neg (hval 1 _ h1), if_neg (hval 2 _ h2), if_neg (hval 32 _ h32)]

/-! ## The clamped recipe -/

section Clamp

theorem atMost_toNat {n : Nat} (top x : BitVec n) : (atMost top x).toNat = min top.toNat x.toNat := by
  unfold atMost
  split
  · next h => rw [BitVec.lt_def] at h; omega
  · next h => rw [BitVec.lt_def] at h; omega

theorem atMost_atMost {n : Nat} (top x : BitVec n) : atMost top (atMost top x) = atMost top x :=
  BitVec.eq_of_toNat_eq (by simp only [atMost_toNat]; omega)

theorem clampTimeout_toNat (x : BitVec 8) : (clampTimeout x).toNat = max 1 (min 120 x.toNat) := by
  unfold clampTimeout
  split
  · next h => subst h; rfl
  · next h =>
    have hpos : x.toNat ≠ 0 := fun h0 => h (BitVec.eq_of_toNat_eq h0)
    have htop : (120 : BitVec 8).toNat = 120 := rfl
    rw [atMost_toNat, htop]
    omega

theorem clampSlow_toNat (x : BitVec 16) : (clampSlow x).toNat = max 50 (min 5000 (x.toNat / 50 * 50)) := by
  simp only [clampSlow, BitVec.toNat_ofNat]
  split_ifs <;> omega

theorem clampTimeout_clampTimeout (x : BitVec 8) : clampTimeout (clampTimeout x) = clampTimeout x :=
  BitVec.eq_of_toNat_eq (by simp only [clampTimeout_toNat]; omega)

theorem clampSlow_clampSlow (x : BitVec 16) : clampSlow (clampSlow x) = clampSlow x :=
  BitVec.eq_of_toNat_eq (by simp only [clampSlow_toNat]; omega)

theorem and_lowBit_toNat (x : BitVec 8) : (x &&& 1).toNat = x.toNat % 2 := by
  rw [BitVec.toNat_and]
  exact Nat.and_one_is_mod _

theorem and_low48_toNat (x : BitVec 64) : (x &&& 0x0000FFFFFFFFFFFF).toNat = x.toNat % 281474976710656 := by
  rw [BitVec.toNat_and]
  exact Nat.and_two_pow_sub_one_eq_mod _ 48

theorem Recipe.clamp_clamp (r : Recipe) : r.clamp.clamp = r.clamp := by
  simp only [Recipe.clamp, atMost_atMost, clampTimeout_clampTimeout, clampSlow_clampSlow, BitVec.and_assoc,
    BitVec.and_self]

/-- The guard size by its code (R23). -/
theorem Recipe.guardSize_eq (r : Recipe) (h : r.guardCode.toNat ≤ 4) :
    r.guardSize = [0, 512, 1024, 2048, 4096].getD r.guardCode.toNat 0 := by
  unfold Recipe.guardSize
  generalize r.guardCode.toNat = n at h ⊢
  interval_cases n <;> rfl

end Clamp

/-- Settles O16, field by field. -/
theorem clampedRecipeIsInRange : Obligations.ClampedRecipeIsInRange := by
  intro r c
  have hguard : c.guardCode.toNat = min 4 r.guardCode.toNat := atMost_toNat _ _
  refine ⟨and_low48_toNat _, and_low48_toNat _, hguard, atMost_toNat _ _, clampTimeout_toNat _, clampSlow_toNat _,
    and_lowBit_toNat _, and_lowBit_toNat _, and_lowBit_toNat _, atMost_toNat _ _, atMost_toNat _ _, atMost_toNat _ _,
    atMost_toNat _ _, atMost_toNat _ _, rfl, rfl, rfl, rfl, rfl, rfl, rfl, rfl, r.clamp_clamp, fun d => ?region⟩
  case region =>
    exact ⟨congrArg (max c.s0.toNat) (c.guardSize_eq (by omega)), rfl, rfl⟩

end Sys2Proof.Machine

/-! PROOFS. The issue of a command (R97 to R100): what blocks it, what its issue leaves of the slot for each class of
command, the guard test, and how pass control counts the frontiers that move (R54, R58). -/

namespace Sys2Proof.Machine

section Issue

variable {s : State} {i : SlotId} {d : DriveTag} {before after : List Cmd} {c : Cmd} {sl : Slot} {now : Nat}
  {number : BitVec 8}

theorem exec_issue : exec (.issue i d) s = .next (s.issueSlot i d) := rfl

/-! ## What blocks a command -/

theorem Cmd.unfinished_iff {x : Cmd} :
    x.unfinished = true ↔ x.state = .waiting ∨ x.state = .atDrive ∨ x.state = .cancelled := by
  simp [Cmd.unfinished, or_assoc]

theorem Cmd.waitingOrAtDrive_iff {x : Cmd} :
    x.waitingOrAtDrive = true ↔ x.state = .waiting ∨ x.state = .atDrive := by
  simp [Cmd.waitingOrAtDrive]

theorem Cmd.conflicts_iff {x y : Cmd} :
    x.conflicts y = true ↔ (x.kind = .read ∨ x.kind = .write) ∧ (y.kind = .read ∨ y.kind = .write) ∧
      (x.kind = .write ∨ y.kind = .write) ∧ x.start < y.start + y.length ∧ y.start < x.start + x.length := by
  simp only [Cmd.conflicts, Cmd.overlaps, Cmd.hasRange, Bool.and_eq_true, Bool.or_eq_true, beq_iff_eq,
    decide_eq_true_eq]
  tauto

/-- R98, clause by clause. -/
theorem blocked_iff {x : Cmd} :
    blocked before x after = true ↔
      (∃ y ∈ before, y.unfinished = true ∧ x.conflicts y = true) ∨
      (∃ y ∈ after, y.state = .atDrive ∧ x.conflicts y = true) ∨
      (x.kind = .flush ∧ ∃ y ∈ before, y.kind = .write ∧ y.unfinished = true) ∨
      (x.kind = .other ∧ ∃ y ∈ before, y.waitingOrAtDrive = true) ∨
      (∃ y ∈ before, y.kind = .other ∧ y.waitingOrAtDrive = true) := by
  simp [blocked, or_assoc]

/-! ## The issue, step by step -/

/-- The zones move when the command is of the stamp region, after it has tried to join its pass. -/
def Slot.movedFor (sl : Slot) (c : Cmd) : Slot :=
  if c.cls = some .stamp then (sl.joinAtIssue c).moveZones (sl.zonesAfter c (sl.generationFor c).epoch)
  else sl.joinAtIssue c

/-- The command goes to the drive: the slot before pass control's test (R100). -/
def Slot.sent (now : Nat) (number : BitVec 8) (i : SlotId) (d : DriveTag) (before : List Cmd) (c : Cmd)
    (after : List Cmd) (sl : Slot) : Slot :=
  { sl.movedFor c with
    traffic := { sl.traffic with
      cmds := before ++ sl.issued now d c :: after
      jobs := sl.traffic.jobs ++ sl.issueJobs d c }
    link := { sl.link with
      out := sl.link.out ++ .command d c.kind c.addr c.count c.param :: sl.issueBlocks now number i d c } }

theorem Slot.joinAtIssue_traffic : (sl.joinAtIssue c).traffic = sl.traffic := by
  unfold Slot.joinAtIssue Slot.join; split_ifs <;> rfl

theorem Slot.joinAtIssue_link : (sl.joinAtIssue c).link = sl.link := by
  unfold Slot.joinAtIssue Slot.join; split_ifs <;> rfl

theorem Slot.movedFor_traffic : (sl.movedFor c).traffic = sl.traffic := by
  unfold Slot.movedFor
  split
  · rw [Slot.moveZones_traffic, Slot.joinAtIssue_traffic]
  · exact Slot.joinAtIssue_traffic

theorem Slot.movedFor_link : (sl.movedFor c).link = sl.link := by
  unfold Slot.movedFor
  split
  · rw [Slot.moveZones_link, Slot.joinAtIssue_link]
  · exact Slot.joinAtIssue_link

theorem Slot.issueCmd_eq :
    sl.issueCmd now number i d before c after =
      if sl.issueFell (sl.zonesAfter c (sl.generationFor c).epoch) then
        (sl.sent now number i d before c after).testPass
      else sl.sent now number i d before c after := by
  have hsent : sl.sent now number i d before c after =
      ((sl.movedFor c).modTraffic fun t =>
        { t with cmds := before ++ sl.issued now d c :: after, jobs := t.jobs ++ sl.issueJobs d c }).toDrive
          (.command d c.kind c.addr c.count c.param :: sl.issueBlocks now number i d c) := by
    rw [Slot.sent, ← sl.movedFor_traffic (c := c), ← sl.movedFor_link (c := c)]
    rfl
  rw [hsent]
  rfl

/-- The first command of the queue that is not blocked, and passes the guard test, is issued. -/
theorem exec_issue_issues (hs : (s.slot i).traffic.cmds = before ++ c :: after) (hup : (s.slot i).link.state = .up)
    (hfree : (s.slot i).tagFree d = true) (hw : c.state = .waiting) (hb : blocked before c after = false)
    (hfirst : ∀ pre x post, before = pre ++ x :: post → x.state = .waiting →
      blocked pre x (post ++ c :: after) = true)
    (hg : (s.slot i).guardTest c = true) :
    exec (.issue i d) s =
      .next (s.setSlot i ((s.slot i).issueCmd s.shelf.clock s.shelf.number i d before c after)) := by
  have hready : firstReady [] (s.slot i).traffic.cmds = some (before, c, after) := by
    rw [hs]; simpa using firstReady_some [] before c after hw (by simpa using hb) (by simpa using hfirst)
  rw [exec_issue, State.issueSlot_issues s i d before c after hup hfree hready hg]

/-! ## Joining at the issue -/

/-- A command that is neither stamped nor verified joins no pass. -/
theorem Slot.suits_plain (hs : c.stamped = false) (hv : c.verified = false) : sl.suits c = false := by
  simp [Slot.suits, hs, hv]

theorem Slot.joinAtIssue_plain (hs : sl.suits c = false) : sl.joinAtIssue c = sl := by
  unfold Slot.joinAtIssue Slot.join; split_ifs <;> simp_all

theorem PassRecord.active_iff {p : PassRecord} : p.active = true ↔ p.state = .running ∨ p.state = .held := by
  simp [PassRecord.active]

/-- No zone moves at the issue of a command outside the stamp region. -/
theorem Slot.zonesAfter_outside {e : Nat} (hc : c.cls ≠ some .stamp) : sl.zonesAfter c e = sl.zmap.zones := by
  simp only [Slot.zonesAfter, if_neg hc]

theorem Slot.issueFell_iff {zones : List Zone} :
    sl.issueFell zones = true ↔ (sl.pass.state = .running ∨ sl.pass.state = .held) ∧
      0 < advanced (sl.pass.kind.frontiers sl.zmap.zones) (sl.pass.kind.frontiers zones) := by
  simp [Slot.issueFell, PassRecord.active_iff]

theorem Slot.issueFell_still : sl.issueFell sl.zmap.zones = false := by
  simp [Slot.issueFell]

end Issue

/-- Settles O24: a command outside the stamp region that is no write moves nothing, joins nothing and brings nothing. -/
theorem plainCommandIsIssued : Obligations.PlainCommandIsIssued := by
  intro s i d sl open_ clash
  refine ⟨fun pre x post => ?blocked, fun hdown => ?down, fun hall => ?none,
    fun before c after hs hup hfree hw hb hfirst hk hcls hframes => ?issues⟩
  case blocked => simp only [blocked_iff, Cmd.unfinished_iff, Cmd.waitingOrAtDrive_iff, Cmd.conflicts_iff, open_, clash]
  case down => rw [exec_issue, State.issueSlot_down s i d hdown]
  case none => rw [exec_issue, State.issueSlot_none s i d (firstReady_none [] _ (by simpa using hall))]
  case issues =>
    have hstamped : c.stamped = false := by simp [Cmd.stamped, hk]
    have hverified : c.verified = false := by simp [Cmd.verified, hcls]
    have hsuits := Slot.suits_plain (sl := s.slot i) hstamped hverified
    have hmoved : (s.slot i).movedFor c = s.slot i := by rw [Slot.movedFor, if_neg hcls, Slot.joinAtIssue_plain hsuits]
    have hissued : (s.slot i).issued s.shelf.clock d c =
        { c with
          state := .atDrive, driveTag := some d, frames := [], check := none, generation := none
          issuedAt := s.shelf.clock, deadline := some (s.shelf.clock + sl.active.timeout.toNat * 1000) } := by
      simp [Slot.issued, Slot.joinSerial, Slot.checkFor, hsuits, hstamped, hverified, Recipe.timeoutMs, sl]
    have hjobs : (s.slot i).issueJobs d c = [] := by simp [Slot.issueJobs, hstamped]
    have hblocks : (s.slot i).issueBlocks s.shelf.clock s.shelf.number i d c = [] := by
      simp [Slot.issueBlocks, Cmd.shipRecord, hk, hframes]
    rw [exec_issue_issues hs hup hfree hw hb hfirst ((Slot.guardTest_iff _ _).mpr (.inl hk)), Slot.issueCmd_eq,
      Slot.zonesAfter_outside hcls, Slot.issueFell_still, if_neg Bool.false_ne_true, Slot.sent, hmoved, hissued, hjobs,
      hblocks, List.append_nil]

/-! ## Stamp reads -/

section StampRead

variable {sl : Slot} {c : Cmd} {held : Bool} {lo hi : Nat}

/-- A read moves no write frontier. -/
theorem Zone.readOver_wf (a b len : Nat) (z : Zone) : (z.readOver held a b len).wf = z.wf := by
  unfold Zone.readOver; split_ifs <;> rfl

theorem ZoneMap.portions_readOver_wf (m : ZoneMap) :
    (m.portions (Zone.readOver held) lo hi).map Zone.wf = m.zones.map Zone.wf := by
  refine List.ext_getElem? fun k => ?_
  rw [List.getElem?_map, List.getElem?_map, ZoneMap.portions, overZones_getElem?]
  cases m.zones[k]? with
  | none => rfl
  | some z =>
    simp only [Option.map_some, Option.some.injEq]
    split
    · exact Zone.readOver_wf ..
    · rfl

theorem Slot.suits_stampRead (hk : c.kind = .read) (hcls : c.cls = some .stamp) :
    sl.suits c = true ↔ sl.pass.kind = .read ∧ (sl.pass.state = .running ∨ sl.pass.state = .held) := by
  simp [Slot.suits, Cmd.stamped, Cmd.verified, hk, hcls, PassRecord.active_iff, and_comm]

/-- The pass after a command of its own has joined it. -/
def Slot.withJoined (joins : Prop) [Decidable joins] (sl : Slot) : Slot :=
  { sl with pass := if joins then { sl.pass with outstanding := sl.pass.outstanding + 1 } else sl.pass }

theorem Slot.join_eq {joins : Prop} [Decidable joins] (h : sl.suits c = true ↔ joins) :
    sl.join c = sl.withJoined joins := by
  by_cases hj : joins
  · rw [Slot.join, if_pos (h.mpr hj), Slot.withJoined, if_pos hj]; rfl
  · rw [Slot.join, if_neg (h.not.mpr hj), Slot.withJoined, if_neg hj]

theorem Slot.joinSerial_iff {joins : Prop} [Decidable joins] (h : sl.suits c = true ↔ joins) :
    sl.joinSerial c = if joins then some sl.pass.serial else c.serial := by
  rw [Slot.joinSerial]; exact if_congr h rfl rfl

end StampRead

/-- Settles O25. Pass control's test changes nothing: a read of a read pass is outstanding, and no other pass counts
read frontiers. -/
theorem stampReadIsIssued : Obligations.StampReadIsIssued := by
  intro s i d before c after u K sl joins zones hs hup hfree hw hb hfirst hk hcls htag hframes hkey
  have hsuits : (s.slot i).suits c = true ↔ joins := Slot.suits_stampRead hk hcls
  have hunposted : c.posted = false := by simp [Cmd.posted, htag]
  have hstamped : c.stamped = false := by simp [Cmd.stamped, hk]
  have hverified : c.verified = true := by simp [Cmd.verified, hk, hcls]
  have hzones : (s.slot i).zonesAfter c ((s.slot i).generationFor c).epoch = zones := by
    simp only [Slot.zonesAfter, if_pos hcls, hk]; rfl
  have hmoved : (s.slot i).movedFor c = ((s.slot i).withJoined joins).moveZones zones := by
    rw [Slot.movedFor, if_pos hcls, hzones, Slot.joinAtIssue, if_neg (by simp [hunposted]), Slot.join_eq hsuits]
  have hissued : (s.slot i).issued s.shelf.clock d c = { c with
      state := .atDrive, driveTag := some d, frames := [], generation := none
      serial := if joins then some sl.pass.serial else c.serial
      check := some { zones := sl.zmap.copies c.start (c.start + c.length), key := K
                      alternate := sl.active.polarity.getLsbD 0, full := sl.active.readReturn.getLsbD 0 }
      issuedAt := s.shelf.clock, deadline := some (s.shelf.clock + sl.active.timeout.toNat * 1000) } := by
    simp [Slot.issued, hunposted, hstamped, Slot.joinSerial_iff hsuits, Slot.checkFor, hverified, Slot.keyValue, hkey,
      Recipe.timeoutMs, Recipe.alternate, Recipe.full, sl]
  have hjobs : (s.slot i).issueJobs d c = [] := by simp [Slot.issueJobs, hstamped]
  have hblocks : (s.slot i).issueBlocks s.shelf.clock s.shelf.number i d c = [] := by
    simp [Slot.issueBlocks, Cmd.shipRecord, hk, hframes]
  have hstill : (if (s.slot i).issueFell zones = true then
      ((s.slot i).sent s.shelf.clock s.shelf.number i d before c after).testPass
      else (s.slot i).sent s.shelf.clock s.shelf.number i d before c after) =
      (s.slot i).sent s.shelf.clock s.shelf.number i d before c after := by
    split
    · next hfell =>
      obtain ⟨hactive, hadv⟩ := Slot.issueFell_iff.mp hfell
      refine Slot.testPass_id (.inr ?_)
      have hread : (s.slot i).pass.kind = .read := by
        by_contra hother
        have hfronts (zs : List Zone) : (s.slot i).pass.kind.frontiers zs = zs.map Zone.wf := by
          cases hpk : (s.slot i).pass.kind with
          | read => exact absurd hpk hother
          | none | write | ship => rfl
        rw [hfronts, hfronts, ZoneMap.portions_readOver_wf, advanced_self] at hadv
        exact absurd hadv (lt_irrefl 0)
      have hout : (((s.slot i).withJoined joins).moveZones zones).pass.outstanding =
          (s.slot i).pass.outstanding + 1 := by
        rw [((s.slot i).withJoined joins |>.moveZones_same zones).outstanding, Slot.withJoined, if_pos ⟨hread, hactive⟩]
      rw [Slot.sent, hmoved, hout]
      exact Nat.succ_ne_zero _
    · rfl
  refine ⟨_, ?_, rfl⟩
  have hpass : (s.slot i).guardTest c = true := (Slot.guardTest_iff _ _).mpr (.inl (by simp [hk]))
  rw [exec_issue_issues hs hup hfree hw hb hfirst hpass, Slot.issueCmd_eq, hzones, hstill,
    Slot.sent, hmoved, hissued, hjobs, hblocks, List.append_nil, hk]
  rfl

/-! ## Writes -/

section Write

variable {sl : Slot} {c : Cmd} {K : Word}

theorem Slot.suits_write (hk : c.kind = .write) :
    sl.suits c = true ↔ (c.omitted = true ∧ c.cls = some .stamp) ∧
      (sl.pass.state = .running ∨ sl.pass.state = .held) ∧ (sl.pass.kind = .write ∨ sl.pass.kind = .ship) := by
  simp [Slot.suits, Cmd.stamped, Cmd.verified, hk, PassRecord.active_iff]
  tauto

theorem Cmd.stamped_iff (hk : c.kind = .write) : c.stamped = true ↔ c.omitted = true ∧ c.cls = some .stamp := by
  simp [Cmd.stamped, hk]

/-- A posted write has joined already (R52). -/
theorem Slot.joinAtIssue_eq {joins : Prop} [Decidable joins]
    (h : c.tag.isSome = true ∧ sl.suits c = true ↔ joins) : sl.joinAtIssue c = sl.withJoined joins := by
  cases ht : c.tag with
  | none =>
    have hnot : ¬joins := fun hj => by simpa [ht] using h.mpr hj
    rw [Slot.joinAtIssue, if_pos (by simp [Cmd.posted, ht]), Slot.withJoined, if_neg hnot]
  | some t =>
    rw [Slot.joinAtIssue, if_neg (by simp [Cmd.posted, ht]), Slot.join_eq (joins := joins) (by simpa [ht] using h)]

theorem Slot.issuedSerial_eq {joins : Prop} [Decidable joins]
    (h : c.tag.isSome = true ∧ sl.suits c = true ↔ joins) :
    (if c.posted then c.serial else sl.joinSerial c) = if joins then some sl.pass.serial else c.serial := by
  cases ht : c.tag with
  | none =>
    have hnot : ¬joins := fun hj => by simpa [ht] using h.mpr hj
    rw [if_pos (by simp [Cmd.posted, ht]), if_neg hnot]
  | some t =>
    rw [if_neg (by simp [Cmd.posted, ht]), Slot.joinSerial_iff (joins := joins) (by simpa [ht] using h)]

theorem Slot.generationFor_eq (hkey : sl.key = some K) :
    sl.generationFor c =
      c.generation.getD { key := K, alternate := sl.active.polarity.getLsbD 0, epoch := sl.pass.epoch } := by
  unfold Slot.generationFor
  cases c.generation with
  | none => simp [Slot.keyValue, hkey, Recipe.alternate]
  | some g => rfl

/-- The zones after a write of the stamp region (R31 to R35). -/
theorem Slot.zonesAfter_write {e : Nat} (hk : c.kind = .write) :
    sl.zonesAfter c e =
      if c.cls = some .stamp then
        sl.zmap.portions (if c.omitted then Zone.stamp e (sl.pass.state == .held) else Zone.foreign) c.start
          (c.start + c.length)
      else sl.zmap.zones := by
  by_cases hcls : c.cls = some .stamp
  · simp only [Slot.zonesAfter, if_pos hcls, hk]
    cases c.omitted <;> rfl
  · rw [Slot.zonesAfter_outside hcls, if_neg hcls]

/-- The ship record block, word by word (R161, 10.8). -/
theorem Slot.shipBlock_eq {g : GradeRecord} {now : Nat} {number : BitVec 8} {i : SlotId}
    (hg : sl.closing.grade = some g) :
    sl.shipBlock now number i =
      Config.shipMarker :: (g.commonWords ++ [BitVec.ofNat 32 sl.defects.postClose, BitVec.ofNat 32 (now / 1000),
        ofBytes (BitVec.ofNat 8 i.val) number 0 0]) := by
  rw [Slot.shipBlock, hg]; rfl

/-- A flag as a byte. -/
theorem ofNat_toNat_bool (b : Bool) : BitVec.ofNat 8 b.toNat = if b then 1 else 0 := by cases b <;> rfl

end Write

/-- Settles O26. -/
theorem writeIsIssued : Obligations.WriteIsIssued := by
  intro s i d before c after K sl active stamps joins g zones joined moved size blocks issued
  refine ⟨fun r hr => ?record, fun hs hup hfree hw hb hfirst hk hkey hguard => ?issue⟩
  case record =>
    rw [Slot.shipBlock_eq hr, GradeRecord.commonWords, ofNat_toNat_bool]
    rfl
  case issue =>
    have hjoins : c.tag.isSome = true ∧ (s.slot i).suits c = true ↔ joins := by
      rw [Slot.suits_write hk]; simp only [joins, stamps, active, sl]; tauto
    have hstamps : c.stamped = true ↔ stamps := Cmd.stamped_iff hk
    have hverified : c.verified = false := by simp [Cmd.verified, hk]
    have hgeneration : (s.slot i).generationFor c = g := Slot.generationFor_eq hkey
    have hzones : (s.slot i).zonesAfter c g.epoch = zones := Slot.zonesAfter_write hk
    have hmoved : (s.slot i).movedFor c = moved := by
      rw [Slot.movedFor, hgeneration, hzones, Slot.joinAtIssue_eq hjoins]; rfl
    have hissued : (s.slot i).issued s.shelf.clock d c = { c with
        state := .atDrive, driveTag := some d, frames := [], check := none
        serial := if joins then some sl.pass.serial else c.serial
        generation := if stamps then some g else none
        issuedAt := s.shelf.clock, deadline := some (s.shelf.clock + sl.active.timeout.toNat * 1000) } := by
      rw [Slot.issued, Slot.issuedSerial_eq hjoins, hgeneration]
      simp only [hstamps, Slot.checkFor, hverified, Recipe.timeoutMs]
      rfl
    have hjobs : (s.slot i).issueJobs d c =
        if stamps then [{ owner := .generate d g, addr := c.start, total := c.length, done := 0, granted := 0 }]
        else [] := by
      simp only [Slot.issueJobs, hstamps, hgeneration]
    have hblocks : (s.slot i).issueBlocks s.shelf.clock s.shelf.number i d c =
        blocks.map fun blk => .block d (leadingBytes size blk) := by
      have hship : c.shipRecord = true ↔ c.omitted = true ∧ c.cls = some .guarded := by simp [Cmd.shipRecord, hk]
      simp only [Slot.issueBlocks, hship, blocks]
      split <;> rfl
    have hsent : (s.slot i).sent s.shelf.clock s.shelf.number i d before c after = issued := by
      rw [Slot.sent, hmoved, hissued, hjobs, hblocks]
      by_cases hst : stamps
      · simp only [issued, if_pos hst, hk]; rfl
      · simp only [issued, if_neg hst, hk, List.append_nil]; rfl
    have hpass : (s.slot i).guardTest c = true :=
      (Slot.guardTest_iff _ _).mpr (.inr (hguard.elim .inl fun h => .inr (.inr h)))
    rw [exec_issue_issues hs hup hfree hw hb hfirst hpass, Slot.issueCmd_eq, hgeneration, hzones, hsent]
    exact congrArg (fun x => Host.Outcome.next (s.setSlot i x)) (if_congr Slot.issueFell_iff rfl rfl)

/-! ## The guard test -/

/-- Settles O27: by the failed guard test, for each kind of write. -/
theorem guardTestStopsAWrite : Obligations.GuardTestStopsAWrite := by
  intro s i d before c after sl run hs hup hfree hw hb hfirst hk hlen hstart hship
  have hready : firstReady [] (s.slot i).traffic.cmds = some (before, c, after) := by
    rw [hs]; simpa using firstReady_some [] before c after hw (by simpa using hb) (by simpa using hfirst)
  have hguard : (s.slot i).guardTest c = false := by
    rw [← Bool.not_eq_true, Slot.guardTest_iff]
    rintro (h | h | h | h)
    · exact h hk
    · exact absurd hstart (Nat.not_lt.mpr h)
    · exact hlen h
    · exact absurd (hship.symm.trans h) (by decide)
  rw [exec_issue, State.issueSlot_guards s i d before c after hup hfree hready hguard]
  refine ⟨fun u htag => ?unposted, fun htag => ?posted⟩
  case unposted => simp only [Act.guardFail, htag]; rfl
  case posted => simp only [Act.guardFail, htag, State.commit, Act.mod_out, Act.start_out, State.say_nil]; rfl

/-! ## Pass control follows the frontiers -/

section Frontiers

variable {sl : Slot} {zones : List Zone}

/-- What the move of the zones leaves of an active pass (R54, R58). -/
theorem Slot.moveZones_pass (hp : sl.pass.active = true) :
    let fall := advanced (sl.pass.kind.frontiers sl.zmap.zones) (sl.pass.kind.frontiers zones)
    let interval := sl.active.checkpoint.toNat * 65536
    sl.moveZones zones = { sl with
      zmap := { sl.zmap with zones := zones }
      pass := { sl.pass with
        remaining := sl.zmap.region.blocks - sl.pass.kind.covered zones
        checkpoint := if interval = 0 then sl.pass.checkpoint
          else if interval ≤ sl.pass.checkpoint + fall then sl.pass.checkpoint + fall - interval
          else sl.pass.checkpoint + fall }
      events := if interval ≠ 0 ∧ interval ≤ sl.pass.checkpoint + fall then
          { sl.events with flags := sl.events.flags ||| EventFlag.checkpoint.bit }
        else sl.events } := by
  intro fall interval
  rw [← PassKind.frontiers_sum]
  simp only [Slot.moveZones, if_pos hp]
  by_cases h0 : interval = 0
  · have hnot : ¬(interval ≠ 0 ∧ interval ≤ sl.pass.checkpoint + fall) := fun h => h.1 h0
    rw [if_pos h0, if_pos h0, if_neg hnot]; rfl
  · rw [if_neg h0, if_neg h0]
    by_cases hreached : interval ≤ sl.pass.checkpoint + fall
    · rw [if_pos hreached, if_pos hreached, if_pos ⟨h0, hreached⟩]; rfl
    · have hnot : ¬(interval ≠ 0 ∧ interval ≤ sl.pass.checkpoint + fall) := fun h => hreached h.2
      rw [if_neg hreached, if_neg hreached, if_neg hnot]; rfl

/-- A flag that has just been raised is set. -/
theorem or_and_self (flags bit : BitVec 16) : (flags ||| bit) &&& bit = bit := by
  ext k hk; simp; tauto

end Frontiers

/-- Settles O28. -/
theorem frontierMovesCountThePass : Obligations.FrontierMovesCountThePass := by
  intro sl zones t N fronts fall rise interval hp hremaining hcovered hcovers hlen
  have ht : t = _ := Slot.moveZones_pass hp
  have hsum : sl.pass.kind.covered sl.zmap.zones + fall = sl.pass.kind.covered zones + rise := by
    have := advanced_sum (fronts sl.zmap.zones) (fronts zones) (by
      cases hk : sl.pass.kind <;> simp [fronts, hk, PassKind.frontiers, hlen])
    simpa [fronts, PassKind.frontiers_sum] using this
  clear_value t
  subst ht
  refine ⟨rfl, rfl, ?_, rfl, fun h => ?_, fun h0 => ?_, fun h0 hlt => ?_, fun h0 hle => ?_⟩
  · show N - sl.pass.kind.covered zones + fall = sl.pass.remaining + rise
    omega
  · exact if_neg fun ⟨h0, hle⟩ => h.elim h0 fun hlt => absurd hle (Nat.not_le.mpr hlt)
  · exact if_pos h0
  · exact (if_neg h0).trans (if_neg (Nat.not_le.mpr hlt))
  · refine ⟨?_, ?_⟩
    · show (if interval = 0 then _ else if interval ≤ sl.pass.checkpoint + fall then _ else _) + interval = _
      rw [if_neg h0, if_pos hle]
      exact Nat.sub_add_cancel hle
    · show (if interval ≠ 0 ∧ interval ≤ sl.pass.checkpoint + fall then
        { sl.events with flags := sl.events.flags ||| EventFlag.checkpoint.bit }
        else sl.events : Events).flags &&& _ = _
      rw [if_pos ⟨h0, hle⟩]
      exact or_and_self _ _

end Sys2Proof.Machine

/-! PROOFS. Ranges over zones (R25, R28), and drive completions (R101 to R104, R110, R111, R116, R121, R131): late ones,
those of posted writes, the first identification, and how an unposted command ends or is checked. -/

namespace Sys2Proof.Machine

/-! ## Ranges over zones -/

section Portions

variable {sl : Slot} {k : Nat} {z : Zone}

/-- A zone of a well-formed map stands in an enabled region, and holds at least one of its blocks. -/
theorem Slot.MapWF.zone_room (h : sl.MapWF) (hz : sl.zmap.zones[k]? = some z) :
    sl.zmap.region.first + k * sl.zmap.region.zoneLength < sl.zmap.region.stop ∧ 0 < sl.zmap.region.zoneLength := by
  have hk := (List.getElem?_eq_some_iff.mp hz).1
  rw [h.count] at hk
  split at hk
  · next he =>
    have hb := sl.zmap.region.zone_begins hk
    simp only [Region.blocks, if_pos he] at hb
    refine ⟨by omega, Nat.pos_iff_ne_zero.mpr fun h0 => ?_⟩
    rw [Region.zoneCount, h0, Nat.div_zero] at hk
    omega
  · omega

end Portions

/-- Settles O30. -/
theorem portionsApplyZoneByZone : Obligations.PortionsApplyZoneByZone := by
  intro sl f lo hi k z g first len hwf hz
  obtain ⟨hroom, hlen⟩ : first < g.stop ∧ 0 < g.zoneLength := hwf.zone_room hz
  have hportion : (sl.zmap.portions f lo hi)[k]? =
      some (if max lo first - first < min hi (first + len) - first then
        f (max lo first - first) (min hi (first + len) - first) len z else z) := by
    rw [ZoneMap.portions, overZones_getElem?, hz]; rfl
  refine ⟨by omega, by omega, fun hlo hhi hne => ?_, fun hout => ?_⟩
  · rw [hportion, if_pos (by omega)]
  · rw [hportion, if_neg (by omega)]

/-! ## Taking a completion -/

section Completion

variable {s : State} {i : SlotId} {d : DriveTag} {status : DriveStatus} {data : List Block} {ident : Identification}
  {c : Cmd} {u : Tag} {sl : Slot} {e : DriveError} {now : Nat}

theorem isGood_iff : isGood status = true ↔ status = .good := by
  cases status <;> simp [isGood]

theorem exec_driveCompletion : exec (.driveCompletion i d status data ident) s =
    .next (s.driveCompletion i d status data ident) := rfl

/-- A completion that a command at the drive takes. -/
theorem exec_driveCompletion_takes (hc : (s.slot i).traffic.cmds.find? (Cmd.atTag d) = some c)
    (hg : (s.slot i).stillGenerating d = false) :
    exec (.driveCompletion i d status data ident) s = .next
      ((s.commit i ((Act.start (s.slot i)).completion i s.shelf.clock d c status data ident)).settle i) := by
  rw [exec_driveCompletion, State.driveCompletion]
  simp only [hc, hg, Bool.false_eq_true, if_false]
  rfl

/-- A completion that names a write whose blocks are not all generated (R21; log entry 11). -/
theorem exec_driveCompletion_generating (hc : (s.slot i).traffic.cmds.find? (Cmd.atTag d) = some c)
    (hg : (s.slot i).stillGenerating d = true) : exec (.driveCompletion i d status data ident) s = .next s := by
  rw [exec_driveCompletion, State.driveCompletion]
  simp only [hc, hg, if_true]

/-- The slot with the completion's service time in its statistics (R116). -/
def Slot.timed (sl : Slot) (now : Nat) (c : Cmd) (status : DriveStatus) : Slot :=
  sl.modTiming (Timing.taken (now - c.issuedAt) sl.active.slow.toNat (isGood status))

/-- The statistics, and the job of a finished generation dropped: there is none. -/
theorem Slot.timed_eq (hg : sl.stillGenerating d = false) :
    sl.timed now c status =
      { sl with
        timing := Timing.taken (now - c.issuedAt) sl.active.slow.toNat (isGood status) sl.timing
        traffic := { sl.traffic with jobs := sl.traffic.jobs.filter fun j => !j.generatesFor d } } := by
  rw [sl.stillGenerating_false d hg]; rfl

/-- A completion of a posted write. -/
theorem Act.completion_posted (ht : c.tag = none) :
    (Act.start sl).completion i now d c status data ident =
      Act.start ((sl.timed now c status).postReturned now d c status) := by
  simp only [Act.completion, ht]; rfl

/-- A completion of an unposted command that is no stamp read. -/
theorem Act.completion_unposted (ht : c.tag = some u) (hv : c.verified = false) :
    (Act.start sl).completion i now d c status data ident =
      (Act.start (sl.timed now c status)).cmdReturned i now u c status data ident := by
  simp only [Act.completion, ht, hv]; rfl

/-- A completion of a stamp read. -/
theorem Act.completion_verified (ht : c.tag = some u) (hv : c.verified = true) :
    (Act.start sl).completion i now d c status data ident =
      (Act.start (sl.timed now c status)).readReturned i now u c status data := by
  simp only [Act.completion, ht, hv]; rfl

/-! ## The failing block -/

theorem Cmd.failingOffset_inside {f : BitVec 48} (hf : e.failing = some f) (h1 : c.start ≤ f.toNat)
    (h2 : f.toNat < c.start + c.length) : c.failingOffset e = some (f.toNat - c.start) := by
  simp only [Cmd.failingOffset, hf, if_pos (And.intro h1 h2)]

theorem Cmd.failingOffset_away
    (h : ∀ f : BitVec 48, e.failing = some f → f.toNat < c.start ∨ c.start + c.length ≤ f.toNat) :
    c.failingOffset e = none := by
  unfold Cmd.failingOffset
  cases hf : e.failing with
  | none => rfl
  | some f => exact if_neg fun ⟨h1, h2⟩ => by have := h f hf; omega

theorem Cmd.writeFailRun_inside {f : BitVec 48} (hf : e.failing = some f) (h1 : c.start ≤ f.toNat)
    (h2 : f.toNat < c.start + c.length) :
    c.writeFailRun e =
      { first := f.toNat, length := c.start + c.length - f.toNat, kind := .writeFail, worstB := 0
        claimed := none } := by
  have hfirst : c.start + (f.toNat - c.start) = f.toNat := by omega
  have hlength : c.length - (f.toNat - c.start) = c.start + c.length - f.toNat := by omega
  rw [Cmd.writeFailRun, Cmd.failingOffset_inside hf h1 h2]
  simp only [hfirst, hlength]

theorem Cmd.writeFailRun_away
    (h : ∀ f : BitVec 48, e.failing = some f → f.toNat < c.start ∨ c.start + c.length ≤ f.toNat) :
    c.writeFailRun e =
      { first := c.start, length := c.length, kind := .writeFail, worstB := 0, claimed := none } := by
  rw [Cmd.writeFailRun, Cmd.failingOffset_away h]; rfl

theorem errorCondition_eq : errorCondition e = if e.cls = .media then .media else .driveError := by
  unfold errorCondition; cases e.cls <;> rfl

end Completion

/-! ## Late completions, and those of posted writes -/

/-- Settles O31. -/
theorem lateAndPostedCompletions : Obligations.LateAndPostedCompletions := by
  intro s i d status data ident sl
  refine ⟨fun hnone => ?late, ?posted⟩
  case late =>
    have hfind : (s.slot i).traffic.cmds.find? (Cmd.atTag d) = none := by
      rw [List.find?_eq_none]
      exact fun c hc hat => hnone c hc ((Cmd.atTag_iff d c).mp hat)
    rw [exec_driveCompletion, State.driveCompletion]
    simp only [hfind, satAdd, Config.max32]
    rfl
  case posted =>
    intro c hc ht hg q t timed removed
    have htimed : (s.slot i).timed s.shelf.clock c status = timed := by
      rw [Slot.timed_eq hg]
      simp only [Timing.taken, isGood_iff]
      rfl
    have hexec : exec (.driveCompletion i d status data ident) s =
        .next ((s.setSlot i (timed.postReturned s.shelf.clock d c status)).settle i) := by
      rw [exec_driveCompletion_takes hc hg, Act.completion_posted ht, htimed, State.commit, Act.start_out,
        State.say_nil]
      rfl
    refine ⟨?good, ?error⟩
    case good => rintro rfl; exact hexec
    case error =>
      rintro e rfl from_
      have hrun : c.writeFailRun e =
          { first := from_, length := c.start + c.length - from_, kind := .writeFail, worstB := 0
            claimed := none } := by
        cases hf : e.failing with
        | none =>
          have hfrom : from_ = c.start := by simp only [from_, hf]
          rw [hfrom, Cmd.writeFailRun_away (by simp [hf]), Nat.add_sub_cancel_left]
        | some f =>
          by_cases hin : c.start ≤ f.toNat ∧ f.toNat < c.start + c.length
          · have hfrom : from_ = f.toNat := by simp only [from_, hf, if_pos hin]
            rw [hfrom, Cmd.writeFailRun_inside hf hin.1 hin.2]
          · have hfrom : from_ = c.start := by simp only [from_, hf, if_neg hin]
            rw [hfrom, Cmd.writeFailRun_away (by rintro g hg; rw [hf] at hg; cases hg; omega), Nat.add_sub_cancel_left]
      rw [hexec, Slot.postReturned, hrun]

/-! ## How an unposted command ends -/

section Unposted

variable {s : State} {i : SlotId} {d : DriveTag} {status : DriveStatus} {data : List Block} {ident : Identification}
  {c : Cmd} {u : Tag} {sl : Slot} {e : DriveError} {now : Nat}

/-- The command under tag `u` leaves the slot and finishes for its pass (R53, R95). -/
def Slot.endCmd (sl : Slot) (u : Tag) (c : Cmd) : Slot :=
  (sl.modCmds fun cs => cs.filter fun x => x.tag != some u).finish c.serial

/-- What a completion of an unposted command that is no stamp read leaves. -/
theorem exec_driveCompletion_unposted (hc : (s.slot i).traffic.cmds.find? (Cmd.atTag d) = some c)
    (hg : (s.slot i).stillGenerating d = false) (ht : c.tag = some u) (hv : c.verified = false) :
    let timed := (s.slot i).timed s.shelf.clock c status
    exec (.driveCompletion i d status data ident) s = .next
      (((s.setSlot i
        (((timed.takeRuns s.shelf.clock (c.errorRuns status)).endCmd u c).completionEffect c status ident)).say
          (timed.upstreamFrames i c status data ++ [completionFor i u status])).settle i) := by
  intro timed
  rw [exec_driveCompletion_takes hc hg, Act.completion_unposted ht hv]
  rfl

theorem Slot.completionEffect_error (h : status = .error e) : sl.completionEffect c status ident = sl := by
  subst h; rfl

/-- A GOOD completion has an effect of its own only for an IDENTIFY in ATTACHING and the ship record write. -/
theorem Slot.completionEffect_plain (hi : c.kind = .identify → sl.sup.phase ≠ .attaching) (hs : c.shipRecord = false) :
    sl.completionEffect c status ident = sl := by
  have hnot : ¬(c.kind = .identify ∧ sl.sup.phase = .attaching) := fun h => hi h.1 h.2
  simp only [Slot.completionEffect, if_neg hnot, hs, Bool.false_eq_true, if_false, ite_self]

theorem Slot.completionEffect_ship (hs : c.shipRecord = true) :
    sl.completionEffect c .good ident = (sl.modClosing fun q => { q with shipWritten := true }).testShipped := by
  have hk : ¬(c.kind = .identify ∧ sl.sup.phase = .attaching) := by
    rintro ⟨hk, -⟩
    simp [Cmd.shipRecord, hk] at hs
  simp only [Slot.completionEffect, if_neg hk, if_pos hs]
  rfl

theorem Slot.completionEffect_identify (hk : c.kind = .identify) (hp : sl.sup.phase = .attaching) :
    sl.completionEffect c .good ident = sl.identify ident := by
  simp only [Slot.completionEffect, if_pos (And.intro hk hp)]
  rfl

theorem Cmd.shipRecord_iff :
    c.shipRecord = true ↔ c.kind = .write ∧ c.omitted = true ∧ c.cls = some .guarded := by
  simp [Cmd.shipRecord, and_assoc]

theorem Cmd.shipRecord_eq_false (hk : c.kind ≠ .write) : c.shipRecord = false := by
  simp [Cmd.shipRecord, hk]

theorem Slot.testShipped_attaching (h : sl.testShipped.sup.phase = .attaching) : sl.sup.phase = .attaching := by
  unfold Slot.testShipped at h
  split_ifs at h
  · cases h
  · exact h

/-- A pass that ends does not put its slot in ATTACHING. -/
theorem Slot.testPass_attaching (h : sl.testPass.sup.phase = .attaching) : sl.sup.phase = .attaching := by
  unfold Slot.testPass at h
  split_ifs at h
  · exact h
  · rw [Slot.completePass] at h
    cases hk : sl.pass.kind <;> rw [hk] at h
    case none => exact h
    case write => cases h
    case read => cases h
    case ship =>
      exact Slot.testShipped_attaching (sl := (sl.modPass fun p => { p with state := .complete }).raise .passDone) h
  · exact h

theorem Slot.finish_attaching {n : Option Nat} (h : (sl.finish n).sup.phase = .attaching) :
    sl.sup.phase = .attaching := by
  unfold Slot.finish at h
  dsimp only at h
  split_ifs at h
  · exact Slot.testPass_attaching (sl := sl.finishCount n) h
  · exact h

/-- A command that no pass counts finishes for none. -/
theorem Slot.finish_none : sl.finish none = sl := by
  simp [Slot.finish, Slot.finishCount, Slot.modPass]

theorem upstreamFrames_none {sl : Slot} (hk : c.kind = .write ∨ c.kind = .flush ∨ c.kind = .other) :
    sl.upstreamFrames i c status data = [] := by
  unfold Slot.upstreamFrames; rcases hk with hk | hk | hk <;> rw [hk]

theorem upstreamFrames_identify {sl : Slot} (hk : c.kind = .identify) :
    sl.upstreamFrames i c status data = if isGood status then [.frame i (data.getD 0 [])] else [] := by
  unfold Slot.upstreamFrames; rw [hk]

theorem upstreamFrames_read {sl : Slot} (hk : c.kind = .read) {n : Nat} (hn : returnedCount c (detailOf status) = n) :
    sl.upstreamFrames i c status data =
      (List.range n).map fun k =>
        .frame i (leadingBytes ((sl.ident.map Identity.blockSize).getD 4096) (data.getD k [])) := by
  unfold Slot.upstreamFrames
  rw [hk, hn]
  exact List.map_map

theorem completionFor_error :
    completionFor i u (.error e) = .completion
      { slot := i, tag := u, cond := if e.cls = .media then .media else .driveError, detail := some e
        summary := none } := by
  rw [completionFor, errorCondition_eq]

end Unposted

/-- Settles O32. -/
theorem identifyMakesTheSlotReady : Obligations.IdentifyMakesTheSlotReady := by
  intro s i d data ident c u sl who g hc ht hk hserial hp hg
  have hverified : c.verified = false := by simp [Cmd.verified, hk]
  have hended : ((sl.timed s.shelf.clock c .good).takeRuns s.shelf.clock (c.errorRuns .good)).endCmd u c =
      (sl.timed s.shelf.clock c .good).modCmds fun cs => cs.filter fun x => x.tag != some u := by
    rw [Slot.endCmd, hserial, Slot.finish_none]; rfl
  have heffect (g : List Cmd → List Cmd) :
      ((sl.timed s.shelf.clock c .good).modCmds g).completionEffect c .good ident =
        ((sl.timed s.shelf.clock c .good).modCmds g).identify ident :=
    Slot.completionEffect_identify hk hp
  rw [exec_driveCompletion_unposted hc hg ht hverified, hended, heffect, upstreamFrames_identify hk, Slot.timed_eq hg,
    Slot.identify]
  simp only [ZoneMap.build, Region.enabled, beq_iff_eq]
  rfl

/-- Settles O33, status by status and kind by kind. -/
theorem unpostedCompletionEndsTheCommand : Obligations.UnpostedCompletionEndsTheCommand := by
  intro s i d status data ident c u sl size timed ended becomes answers frames ship hc
  refine ⟨fun hg => ?generating, fun hg ht hcls => ?taken⟩
  case generating =>
    exact exec_driveCompletion_generating hc hg
  case taken =>
    have hverified : c.verified = false := by
      simp only [Cmd.verified, Bool.and_eq_false_iff, beq_eq_false_iff_ne]
      tauto
    have hsize : (timed.ident.map Identity.blockSize).getD 4096 = size := rfl
    have hexec : exec (.driveCompletion i d status data ident) s = .next
        (((s.setSlot i
          ((ended (timed.takeRuns s.shelf.clock (c.errorRuns status))).completionEffect c status ident)).say
          (timed.upstreamFrames i c status data ++ [completionFor i u status])).settle i) := by
      rw [exec_driveCompletion_unposted hc hg ht hverified, Slot.timed_eq hg]; rfl
    -- What a command answers whose runs, effect and frames are known.
    have answer {x : Slot} {fs : List Upstream} {r : Upstream}
        (hruns : timed.takeRuns s.shelf.clock (c.errorRuns status) = x)
        (heffect : (ended x).completionEffect c status ident = ended x)
        (hframes : timed.upstreamFrames i c status data = fs) (hr : completionFor i u status = r) :
        answers x (fs ++ [r]) := by
      simp only [answers, becomes]
      rw [hexec, hruns, heffect, hframes, hr]
    have plain (hi : c.kind = .identify → sl.sup.phase ≠ .attaching) (hs : c.shipRecord = false) :
        (ended timed).completionEffect c status ident = ended timed :=
      Slot.completionEffect_plain (fun hk h => hi hk
        (Slot.finish_attaching (sl := timed.modCmds fun cs => cs.filter fun x => x.tag != some u) h)) hs
    refine ⟨fun hst hk => ?read, fun hst hk hp => ?identify, fun hst hk hship => ?other, fun hst hship => ?ship,
      fun e hst => ?error⟩
    case read =>
      subst hst
      have hrecord : c.shipRecord = false := Cmd.shipRecord_eq_false (by simp [hk])
      exact answer (x := timed) (fs := frames c.length) rfl (plain (fun h => by rw [hk] at h; cases h) hrecord)
        (upstreamFrames_read hk rfl) rfl
    case identify =>
      subst hst
      have hrecord : c.shipRecord = false := Cmd.shipRecord_eq_false (by simp [hk])
      exact answer (x := timed) (fs := [.frame i (data.getD 0 [])]) rfl (plain (fun _ => hp) hrecord)
        (upstreamFrames_identify hk) rfl
    case other =>
      subst hst
      have hrecord : c.shipRecord = false := by
        rw [← Bool.not_eq_true, Cmd.shipRecord_iff]; exact hship
      exact answer (x := timed) (fs := []) rfl (plain (by rcases hk with hk | hk | hk <;> simp [hk]) hrecord)
        (upstreamFrames_none hk) rfl
    case ship =>
      subst hst
      simp only [becomes]
      rw [hexec, Slot.completionEffect_ship (Cmd.shipRecord_iff.mpr hship), upstreamFrames_none (.inl hship.1)]
      rfl
    case error =>
      intro done
      subst hst
      have failed {x : Slot} {fs : List Upstream}
          (hruns : timed.takeRuns s.shelf.clock (c.errorRuns (.error e)) = x)
          (hframes : timed.upstreamFrames i c (.error e) data = fs) : answers x (fs ++ [done]) :=
        answer hruns (Slot.completionEffect_error rfl) hframes completionFor_error
      refine ⟨fun hk => ?rangeless, fun f hf h1 h2 => ⟨fun hk => ?readInside, fun hk => ?writeInside⟩,
        fun haway => ⟨fun hk => ?readAway, fun hk => ?writeAway⟩⟩
      case rangeless =>
        refine failed (fs := []) ?_ ?_
        · rcases hk with hk | hk | hk <;> rw [Cmd.errorRuns, hk] <;> rfl
        · rcases hk with hk | hk | hk
          · exact upstreamFrames_none (.inr (.inl hk))
          · exact upstreamFrames_identify hk
          · exact upstreamFrames_none (.inr (.inr hk))
      case readInside =>
        have hoffset := Cmd.failingOffset_inside hf h1 h2
        have hfirst : c.start + (f.toNat - c.start) = f.toNat := by omega
        refine failed ?_ (upstreamFrames_read hk (by simp [returnedCount, detailOf, hoffset]))
        simp only [Cmd.errorRuns, hk, Cmd.mediaRun, hoffset, hfirst]
        rfl
      case writeInside =>
        refine failed (fs := []) ?_ (upstreamFrames_none (.inl hk))
        simp only [Cmd.errorRuns, hk, Cmd.writeFailRun_inside hf h1 h2]
        rfl
      case readAway =>
        have hoffset := Cmd.failingOffset_away haway
        refine failed (fs := []) ?_ (upstreamFrames_read (n := 0) hk (by simp [returnedCount, detailOf, hoffset]))
        simp only [Cmd.errorRuns, hk, Cmd.mediaRun, hoffset]
        rfl
      case writeAway =>
        refine failed (fs := []) ?_ (upstreamFrames_none (.inl hk))
        simp only [Cmd.errorRuns, hk, Cmd.writeFailRun_away haway]
        rfl

/-! ## Stamp reads -/

section StampRead

variable {s : State} {i : SlotId} {d : DriveTag} {status : DriveStatus} {data : List Block} {ident : Identification}
  {c : Cmd} {u : Tag} {sl : Slot} {e : DriveError} {now : Nat}

/-- A stamp read once its drive completion is taken (R7, R18). -/
def Cmd.checking (c : Cmd) (status : DriveStatus) (data : List Block) : Cmd :=
  { c with
    state := .checking, driveTag := none, deadline := none, driveError := detailOf status
    returned := takeBlocks (returnedCount c (detailOf status)) data }

/-- The commands with `c` in the place of the one under tag `u`. -/
def putAt (u : Tag) (c : Cmd) (cs : List Cmd) : List Cmd := cs.map fun x => if x.tag == some u then c else x

theorem Act.readReturned_checks (hn : returnedCount c (detailOf status) ≠ 0) :
    (Act.start sl).readReturned i now u c status data =
      Act.start ((sl.modCmds (putAt u (c.checking status data))).modJobs fun js =>
        js ++ [{ owner := .check u, addr := c.start, total := returnedCount c (detailOf status), done := 0,
                 granted := 0 }]) := by
  simp only [Act.readReturned, if_neg hn]
  rfl

theorem Act.readReturned_ends (hn : returnedCount c (detailOf status) = 0) :
    (Act.start sl).readReturned i now u c status data =
      (Act.start (sl.modCmds (putAt u (c.checking status data)))).completeRead i now u (c.checking status data) := by
  simp only [Act.readReturned, if_pos hn]
  rfl

/-- What replaces the command under a tag leaves with it. -/
theorem filter_putAt (hc : c.tag = some u) (cs : List Cmd) :
    (putAt u c cs).filter (fun x => x.tag != some u) = cs.filter fun x => x.tag != some u := by
  induction cs with
  | nil => rfl
  | cons x xs ih =>
    rw [putAt, List.map_cons, ← putAt]
    by_cases hx : x.tag = some u
    · simp [hx, hc, ih]
    · simp [hx, ih]

theorem Slot.raiseIf_modCmds (p : Bool) (f : EventFlag) (g : List Cmd → List Cmd) :
    (sl.modCmds g).raiseIf p f = (sl.raiseIf p f).modCmds g := by
  cases p <;> rfl

/-- Taking a run does not see the commands of the slot. -/
theorem Slot.takeRun_modCmds (g : List Cmd → List Cmd) (r : Run) :
    (sl.modCmds g).takeRun now r = (sl.takeRun now r).modCmds g := by
  by_cases hc : sl.sup.closed = true
  · rw [Slot.takeRun, Slot.takeRun, if_pos (by exact hc), if_pos hc]; rfl
  · rw [Slot.takeRun, Slot.takeRun, if_neg (by exact hc), if_neg hc]
    dsimp only
    rw [← Slot.raiseIf_modCmds, ← Slot.raiseIf_modCmds]
    rfl

theorem Slot.takeRuns_modCmds (g : List Cmd → List Cmd) (rs : List Run) :
    (sl.modCmds g).takeRuns now rs = (sl.takeRuns now rs).modCmds g := by
  induction rs generalizing sl with
  | nil => rfl
  | cons r rs ih => exact (congrArg (Slot.takeRuns now rs) (Slot.takeRun_modCmds g r)).trans ih

theorem Slot.takeCoverage_modCmds (g : List Cmd → List Cmd) (rs : List (Nat × Nat)) :
    (sl.modCmds g).takeCoverage rs = (sl.takeCoverage rs).modCmds g := by
  by_cases hc : sl.sup.closed = true
  · rw [Slot.takeCoverage, Slot.takeCoverage, if_pos (by exact hc), if_pos hc]
  · rw [Slot.takeCoverage, Slot.takeCoverage, if_neg (by exact hc), if_neg hc]; rfl

/-- No coverage clears nothing (R77). -/
theorem Slot.takeCoverage_nil : sl.takeCoverage [] = sl := by
  have hnone : Extent.clearedBy [] = id := funext fun e => by simp [Extent.clearedBy]
  unfold Slot.takeCoverage
  split
  · rfl
  · simp [Slot.modDefects, hnone]

/-- The read ends at once when no block came back: its runs, its coverage and its summary (R12 to R16). -/
theorem Act.readReturned_atOnce (hn : returnedCount c (detailOf status) = 0) (ht : c.tag = some u) :
    let classes := (c.checking status data).allClasses c.classes
    (Act.start sl).readReturned i now u c status data =
      { sl := (((sl.takeRuns now (failureRuns c.start classes)).takeCoverage (goodCoverage c.start classes))).endCmd u c
        out := [.completion
          { slot := i, tag := u, cond := readCondition (detailOf status) (summaryOf classes).bad
            detail := detailOf status, summary := some (summaryOf classes) }] } := by
  intro classes
  have hreturned : (c.checking status data).returned = [] := by
    simp [Cmd.checking, hn, takeBlocks]
  have hended (x : Slot) :
      ((x.modCmds (putAt u (c.checking status data))).modCmds fun cs => cs.filter fun d => d.tag != some u) =
        x.modCmds fun cs => cs.filter fun d => d.tag != some u := by
    simp only [Slot.modCmds, Slot.modTraffic]
    rw [filter_putAt (by exact ht)]
  rw [Act.readReturned_ends hn]
  simp only [Act.completeRead, hreturned, List.map_nil, ite_self, List.nil_append]
  rw [Act.mod, Act.say]
  simp only [Act.start, Slot.takeRuns_modCmds, Slot.takeCoverage_modCmds, hended]
  rfl

theorem failureRuns_unread (L n : Nat) : failureRuns L (List.replicate n .unread) = [] := by
  induction n generalizing L with
  | zero => rfl
  | succ n ih => rw [List.replicate_succ, failureRuns]; exact ih (L + 1)

theorem goodCoverage_unread (L n : Nat) : goodCoverage L (List.replicate n .unread) = [] := by
  induction n generalizing L with
  | zero => rfl
  | succ n ih => rw [List.replicate_succ, goodCoverage, if_neg (by decide)]; exact ih (L + 1)

/-- Blocks that were not read count as unverified, and none failed (R12). -/
theorem unread_counts (n : Nat) :
    (List.replicate n BlockClass.unread).filterMap BlockClass.failKind = [] ∧
      (List.replicate n BlockClass.unread).filter BlockClass.isVerified = [] := by
  simp [List.filterMap_eq_nil_iff, BlockClass.failKind, BlockClass.isVerified]

theorem summaryOf_unread (n : Nat) :
    summaryOf (List.replicate n .unread) =
      { verified := 0, unverified := n, bad := 0, firstBad := none, worst := none } := by
  obtain ⟨hfail, hverified⟩ := unread_counts n
  simp [summaryOf, worstClass, hfail, hverified, BlockClass.isVerified, BlockClass.failKind]

theorem summaryOf_media (n : Nat) :
    summaryOf (.media :: List.replicate n .unread) =
      { verified := 1, unverified := n, bad := 1, firstBad := some 0, worst := some .media } := by
  obtain ⟨hfail, hverified⟩ := unread_counts n
  have hmedia : BlockClass.isVerified .media = true := rfl
  simp [summaryOf, worstClass, hfail, hverified, hmedia, List.findIdx?_cons, BlockClass.failKind]
  simp [BlockClass.isVerified]

theorem failureRuns_media (L n : Nat) :
    failureRuns L (.media :: List.replicate n .unread) =
      [{ first := L, length := 1, kind := .media, worstB := 0, claimed := none }] := by
  rw [failureRuns]
  simp only [BlockClass.failKind, failureRuns_unread]
  rfl

theorem goodCoverage_media (L n : Nat) : goodCoverage L (.media :: List.replicate n .unread) = [] := by
  rw [goodCoverage, if_neg (by decide), goodCoverage_unread]

end StampRead

/-- Settles O34. -/
theorem stampReadCompletionIsChecked : Obligations.StampReadCompletionIsChecked := by
  intro s i d status data ident c u sl timed checking hc ht hg hk hcls hlen
  have hverified : c.verified = true := by simp [Cmd.verified, hk, hcls]
  have htimed : (s.slot i).timed s.shelf.clock c status = timed := Slot.timed_eq hg
  have hexec : exec (.driveCompletion i d status data ident) s = .next
      ((s.commit i ((Act.start timed).readReturned i s.shelf.clock u c status data)).settle i) := by
    rw [exec_driveCompletion_takes hc hg, Act.completion_verified ht hverified, htimed]
  have checks {n : Nat} (hn : returnedCount c (detailOf status) = n) (hpos : n ≠ 0) : checking n (detailOf status) := by
    simp only [checking]
    rw [hexec, Act.readReturned_checks (by rw [hn]; exact hpos), State.commit, Act.start_out, State.say_nil]
    have hput (x : Cmd) : (x.tag == some u) = decide (x.tag = some u) := beq_eq_decide ..
    simp only [Slot.modCmds, Slot.modJobs, Slot.modTraffic, putAt, Cmd.checking, hn, takeBlocks, hput,
      decide_eq_true_eq]
    rfl
  refine ⟨fun hst => ?good, fun e hst => ⟨fun f hf h1 h2 => ?inside, ?atOnce⟩⟩
  case good => subst hst; exact checks rfl (by omega)
  case inside =>
    subst hst
    refine checks (by simp [returnedCount, detailOf, Cmd.failingOffset_inside hf (by omega) h2]) (by omega)
  case atOnce =>
    intro hclasses first away ends
    subst hst
    have ending {classes : List BlockClass} (hn : returnedCount c (some e) = 0)
        (hall : (c.checking (.error e) data).allClasses c.classes = classes) :
        ends ((timed.takeRuns s.shelf.clock (failureRuns c.start classes)).takeCoverage (goodCoverage c.start classes))
          (summaryOf classes) := by
      subst hall
      simp only [ends]
      rw [hexec, Act.readReturned_atOnce hn ht]
      have hcond (n : Nat) : readCondition (some e) n = if e.cls = .media then .media else .driveError := by
        rw [← errorCondition_eq]; rfl
      simp only [detailOf, hcond]
      rfl
    refine ⟨fun ⟨f, hf, hfirst⟩ => ?first, fun haway => ?away⟩
    case first =>
      have hoffset : c.failingOffset e = some 0 := by
        rw [Cmd.failingOffset_inside hf (by omega) (by omega), hfirst, Nat.sub_self]
      have h := ending (classes := .media :: List.replicate (c.length - 1) .unread) (by simp [returnedCount, hoffset])
        (by
          rw [hclasses]
          show [] ++ errorClasses (c.failingOffset e) c.length = _
          rw [hoffset]; rfl)
      rwa [failureRuns_media, goodCoverage_media, Slot.takeCoverage_nil, summaryOf_media] at h
    case away =>
      have hoffset := Cmd.failingOffset_away haway
      have h := ending (classes := List.replicate c.length .unread) (by simp [returnedCount, hoffset])
        (by
          rw [hclasses]
          show [] ++ errorClasses (c.failingOffset e) c.length = _
          rw [hoffset]; rfl)
      rwa [failureRuns_unread, goodCoverage_unread, Slot.takeCoverage_nil, summaryOf_unread] at h

end Sys2Proof.Machine

/-! PROOFS. The end of a burst (R16 to R21), LINK_UP (R113, R122, R130), and the line events of a carrier and its latch
(R127, R129, R132, R133, R144, R157). -/

namespace Sys2Proof.Machine

/-! ## Bursts -/

section Burst

variable {s : State} {i : SlotId} {j : Job} {js : List Job} {sl : Slot} {now : Nat}

theorem exec_engineBurstDone : exec .engineBurstDone s = .next s.burstDone := rfl

/-- No burst is under way on an idle engine. -/
theorem State.burstSlot_none (h : ∀ k, ∀ x ∈ (s.slot k).traffic.jobs, x.granted = 0) : s.burstSlot = none := by
  refine List.find?_eq_none.mpr fun k _ => ?_
  rw [Slot.burst_isSome]
  rintro ⟨x, hx, hne⟩
  exact hne (h k x hx)

/-- The slot whose burst holds the engine is the one with a granted job. -/
theorem State.burstSlot_some (hothers : ∀ k, k ≠ i → ∀ x ∈ (s.slot k).traffic.jobs, x.granted = 0)
    (hburst : (s.slot i).burst.isSome = true) : s.burstSlot = some i := by
  cases h : s.burstSlot with
  | none => exact absurd hburst (List.find?_eq_none.mp h i (mem_slotIds i))
  | some k =>
    have hk : (s.slot k).burst.isSome = true := by
      simpa using List.find?_some (p := fun i => (s.slot i).burst.isSome) h
    obtain ⟨x, hx, hne⟩ := (Slot.burst_isSome _).mp hk
    by_cases hki : k = i
    · rw [hki]
    · exact absurd (hothers k hki x hx) hne

theorem Slot.burst_head (hj : sl.traffic.jobs = j :: js) (hg : j.granted ≠ 0) : sl.burst = some j := by
  rw [Slot.burst, hj, List.find?_cons_of_pos (by simpa using hg)]

/-- The slot with its burst done: the job moves on, and leaves the queue with its last block (R19, R21). -/
theorem Slot.modJobs_advance (hj : sl.traffic.jobs = j :: js) (hg : j.granted ≠ 0) :
    sl.modJobs advanceJobs =
      { sl with traffic := { sl.traffic with
          jobs := if j.total ≤ j.done + j.granted then js
            else { j with done := j.done + j.granted, granted := 0 } :: js } } := by
  simp only [Slot.modJobs, Slot.modTraffic, hj, advanceJobs, if_neg hg]

/-- The end of the burst of slot `i`'s oldest job, by the job's owner. -/
theorem exec_burst (hothers : ∀ k, k ≠ i → ∀ x ∈ (s.slot k).traffic.jobs, x.granted = 0)
    (hj : (s.slot i).traffic.jobs = j :: js) (hg : j.granted ≠ 0) :
    let x := Act.start ((s.slot i).modJobs advanceJobs)
    exec .engineBurstDone s = .next ((s.commit i (match j.owner with
      | .generate d g => x.mod (Slot.generateBurst d g j)
      | .check t => x.checkBurst i s.shelf.clock t j)).settle i) := by
  intro x
  have hburst := Slot.burst_head hj hg
  rw [exec_engineBurstDone, State.burstDone, State.burstSlot_some hothers (by rw [hburst]; rfl)]
  simp only [hburst]
  rfl

end Burst

/-- Settles O36: a generation burst, and the check bursts before the last and the last. -/
theorem burstWorksItsBlocks : Obligations.BurstWorksItsBlocks := by
  intro s i j js sl left worked
  refine ⟨fun hidle => ?idle, fun hothers hj hg => ⟨fun d g ho => ?generate, ?check⟩⟩
  case idle => simp only [exec_engineBurstDone, State.burstDone, State.burstSlot_none hidle]
  case generate =>
    rw [exec_burst hothers hj hg, ho, Slot.modJobs_advance hj hg]
    simp only [State.commit, Act.mod_out, Act.start_out, State.say_nil, Act.mod_sl, Act.start_sl, Slot.generateBurst,
      stampBlocks, List.map_map]
    rfl
  case check =>
    intro u c info ho hc hinfo classes every bad cond
    have hfind : (Act.start worked).sl.traffic.cmds.find? (fun x => x.tag == some u) = some c := hc
    have hclasses : c.classes ++ c.burstClasses j = classes := by simp only [Cmd.burstClasses, hinfo, classes]
    have hexec : exec .engineBurstDone s =
        .next ((s.commit i ((Act.start worked).checkBurst i s.shelf.clock u j)).settle i) := by
      rw [exec_burst hothers hj hg, ho, Slot.modJobs_advance hj hg]
    refine ⟨fun hmore => ?more, fun hlast => ?last⟩
    case more =>
      have hput (x : Cmd) : (x.tag == some u) = decide (x.tag = some u) := beq_eq_decide ..
      rw [hexec, Act.checkBurst, hfind]
      simp only [if_neg (Nat.not_le.mpr hmore), hclasses, State.commit, Act.mod_out, Act.start_out, State.say_nil,
        Act.mod_sl, Act.start_sl, Slot.modCmds, Slot.modTraffic, hput, decide_eq_true_eq]
      rfl
    case last =>
      have hevery : ({ c with classes := classes } : Cmd).allClasses classes = every := rfl
      have hcond : readCondition c.driveError (summaryOf every).bad = cond := by
        cases he : c.driveError with
        | none => simp only [cond, he]; rfl
        | some e =>
          have herr : readCondition (some e) (summaryOf every).bad = errorCondition e := rfl
          simp only [cond, he, herr, errorCondition_eq]
      have hfull : (({ c with classes := classes } : Cmd).check.map CheckInfo.full).getD false = info.full := by
        show (c.check.map CheckInfo.full).getD false = info.full
        rw [hinfo]; rfl
      rw [hexec, Act.checkBurst, hfind]
      simp only [if_pos hlast, hclasses, Act.completeRead, hevery, hcond, hfull]
      rfl

/-! ## LINK_UP -/

/-- Settles O38. -/
theorem linkUpBringsTheTagsBack : Obligations.LinkUpBringsTheTagsBack := by
  intro s i sl
  have hexec : exec (.linkUp i) s = .next (s.linkUp i) := rfl
  have hpowered (hp : sl.sup.power = true) : ¬(s.slot i).sup.power = false := fun h => by
    rw [show (s.slot i).sup.power = true from hp] at h; cases h
  refine ⟨fun h => ?nothing, fun hp (hl : (s.slot i).link.state = .resetting) hlimit => ?back,
    fun hp (hl : (s.slot i).link.state = .down) => ?attach⟩
  case nothing =>
    rw [hexec, State.linkUp]
    obtain (hp : (s.slot i).sup.power = false) | (hl : (s.slot i).link.state = .up) := h
    · simp only [if_pos hp]
    · simp only [hl, ite_self]
  case back =>
    have hbelow : ¬3 ≤ (((s.modSlot i Slot.resetDone).slot i).timing.consecutive) := by
      rw [State.slot_modSlot]
      exact Nat.not_le.mpr hlimit
    rw [hexec, State.linkUp]
    simp only [hl, if_neg (hpowered hp), if_neg hbelow]
    simp only [State.modSlot, State.slot_setSlot, State.setSlot_setSlot]
    rfl
  case attach =>
    rw [hexec, State.linkUp]
    simp only [hl, if_neg (hpowered hp)]
    rfl

/-! ## Carrier and latch -/

section Lines

variable {s : State} {i : SlotId} {sl : Slot} {now : Nat} {r : Recipe}

/-- What attach leaves of a slot (R129). -/
theorem Slot.attach_eq :
    sl.attach now r = { sl with
      sup :=
        { phase := .attaching, cause := none, closed := false, carrier := sl.sup.carrier, latch := sl.sup.latch
          power := true, warning := false, graceEnd := some (now + 15000), attachDeadline := some (now + 30000)
          nextSample := some (now + 100) }
      mon := Monitors.zero
      ident := none
      key := none
      active := r.clamp
      zmap := { region := Region.unidentified, zones := [] }
      pass := PassRecord.none
      tally := Tally.zero
      defects := { extents := [], overflow := 0, postClose := 0 }
      traffic := { sl.traffic with cmds := sl.traffic.cmds.filter fun c => c.tag.isSome }
      link := { state := .down, upDeadline := none, out := sl.link.out ++ [.bringUp] }
      timing := Timing.zero
      closing := Closing.none } := by
  have htagged : (fun c : Cmd => !c.posted) = fun c => c.tag.isSome := funext fun c => by
    cases h : c.tag <;> simp [Cmd.posted, h]
  rw [Slot.attach, Slot.adopt_unidentified rfl rfl, ← htagged]
  rfl

theorem State.tryAttach_of (hp : (s.slot i).sup.phase = .empty) (hc : (s.slot i).sup.carrier = true)
    (hl : (s.slot i).sup.latch = true) :
    s.tryAttach i = s.setSlot i ((s.slot i).attach s.shelf.clock s.shelf.recipe) := if_pos ⟨hp, hc, hl⟩

theorem State.tryAttach_id (h : (s.slot i).sup.phase ≠ .empty ∨ (s.slot i).sup.carrier = false ∨
    (s.slot i).sup.latch = false) : s.tryAttach i = s := by
  rw [State.tryAttach]
  refine if_neg ?_
  rintro ⟨hp, hc, hl⟩
  rcases h with h | h | h
  · exact h hp
  · rw [hc] at h; cases h
  · rw [hl] at h; cases h

theorem Supervisor.graceEnd_none {u : Supervisor} (h : u.graceEnd = none) : { u with graceEnd := none } = u := by
  cases u; cases h; rfl

end Lines

/-- Settles O40, line by line. -/
theorem carrierAndLatchEvents : Obligations.CarrierAndLatchEvents := by
  intro s i sl now attached
  have hinsert : exec (.carrierInserted i) s = .next (s.insertCarrier i) := rfl
  have hclose : exec (.latchClosed i) s = .next (s.closeLatch i) := rfl
  have hopen : exec (.latchOpened i) s = .next (s.openLatch i) := rfl
  have hgrace : exec (.spinUpGraceEnd i) s = .next (s.graceEnd i) := rfl
  have off {b : Bool} (h : b = false) : ¬b = true := by simp [h]
  -- A slot whose lines now stand both as attach wants them.
  have attaches {x : Slot} (hp : x.sup.phase = .empty) (hc : x.sup.carrier = true) (hl : x.sup.latch = true)
      (hx : x.attach now s.shelf.recipe = attached) : (s.setSlot i x).tryAttach i = s.setSlot i attached := by
    rw [State.tryAttach_of (by rw [State.slot_setSlot]; exact hp) (by rw [State.slot_setSlot]; exact hc)
      (by rw [State.slot_setSlot]; exact hl), State.slot_setSlot, State.setSlot_setSlot, State.setSlot_shelf, ← hx]
  refine ⟨fun hc hp hl => ?insertAttach, fun hc h => ?insert, fun hl hp hc => ?closeAttach, fun hl h => ?close,
    fun hc => ?present, fun hc => ?absent, fun hl => ?closed, fun hl => ?opened, fun hg => ?noGrace, fun hl => ?opens,
    fun n hg => ?grace⟩
  case insertAttach =>
    rw [hinsert, State.insertCarrier, if_neg (off hc)]
    refine congrArg Host.Outcome.next (attaches hp rfl hl ?_)
    have hl' : (s.slot i).sup.latch = true := hl
    rw [Slot.attach_eq]
    simp only [Slot.modSup, hl']
    rfl
  case insert =>
    rw [hinsert, State.insertCarrier, if_neg (off hc), State.tryAttach_id]
    · rfl
    · rw [State.slot_modSlot]
      exact h.imp_right .inr
  case closeAttach =>
    rw [hclose, State.closeLatch, if_neg (off hl)]
    refine congrArg Host.Outcome.next (attaches hp hc rfl ?_)
    have hc' : (s.slot i).sup.carrier = true := hc
    rw [Slot.attach_eq]
    simp only [Slot.modSup, hc']
    rfl
  case close =>
    rw [hclose, State.closeLatch, if_neg (off hl), State.tryAttach_id]
    · rfl
    · rw [State.slot_modSlot]
      exact h.imp_right .inl
  case present => rw [hinsert, State.insertCarrier, if_pos hc]
  case absent =>
    show Host.Outcome.next (if (s.slot i).sup.carrier then s.removeCarrier i else s) = _
    rw [if_neg (off hc)]
  case closed => rw [hclose, State.closeLatch, if_pos hl]
  case opened => rw [hopen, State.openLatch, if_neg (off hl)]
  case noGrace =>
    have hid : (s.slot i).modSup (fun u => { u with graceEnd := none }) = s.slot i := by
      rw [Slot.modSup, Supervisor.graceEnd_none hg]
    have hg' : (s.slot i).sup.graceEnd = none := hg
    rw [hgrace, State.graceEnd, hg']
    show Host.Outcome.next (s.setSlot i ((s.slot i).modSup (fun u => { u with graceEnd := none }))) = _
    rw [hid, State.setSlot_self]
  case opens => rw [hopen, State.openLatch, if_pos hl]; rfl
  case grace =>
    have hg' : (s.slot i).sup.graceEnd = some n := hg
    rw [hgrace, State.graceEnd, hg']
    rfl

/-- Settles O41: with the computation of another slot, or none, under way, and with this slot's. -/
theorem carrierRemovalEmptiesTheSlot : Obligations.CarrierRemovalEmptiesTheSlot := by
  intro s i sl empty rest down hc
  have hexec : exec (.carrierRemoved i) s = .next ((s.emptySlot i).abandon i) := by
    show Host.Outcome.next (if (s.slot i).sup.carrier then s.removeCarrier i else s) = _
    rw [if_pos hc, State.removeCarrier_eq]
  have hempty : s.emptySlot i =
      (({ s with grader := { s.grader with queue := rest } } : State).setSlot i empty).say down := by
    rw [State.emptySlot, endAll_no_answer]; rfl
  have hcurrent : (s.emptySlot i).grader.current = s.grader.current := by rw [hempty]; rfl
  refine ⟨fun hother => ?other, fun c hg hci => ?own⟩
  case other =>
    rw [hexec, ← hempty, State.abandon, hcurrent]
    cases hg : s.grader.current with
    | none => rfl
    | some c => simp only [if_neg (hother c hg)]
  case own =>
    rw [hexec, State.abandon, hcurrent, hg]
    simp only [if_pos hci, hempty]
    rfl

end Sys2Proof.Machine

/-! PROOFS. The grading unit's events (R83, R147 to R157), the end of a release (R166 to R169), the shelf reset (R181)
and pass control's test (R56 to R60, R159, R163). -/

namespace Sys2Proof.Machine

/-! ## The grading unit and the release -/

section Grading

variable {i : SlotId} {sl : Slot} {bins : List BinEntry}

/-- The held reads that a written grade record answers (R156). -/
theorem heldReads_answered (cond : Condition) (g : Block) (cs : List Cmd) :
    (heldReads cs).flatMap (Cmd.endRecords i cond (some g)) =
      (inTagOrder (cs.filter fun c => c.state == .atResponder)).flatMap fun c =>
        (c.tag.map fun u => [.frame i g, reply i u .good]).getD [] := by
  have hheld : (cs.filter fun c => !c.isData) = cs.filter fun c => c.state == .atResponder := by
    simp [Cmd.isData, bne]
  rw [heldReads, hheld]
  refine (endAll_answer i cond g _).trans (List.flatMap_congr fun c hc => ?_)
  have hs : c.state = .atResponder := by
    have := List.of_mem_filter (mem_of_mem_inTagOrder _ c hc)
    simpa using this
  simp only [if_pos hs]

theorem Slot.verdictAt_graded (h : sl.sup.phase = .graded) :
    sl.verdictAt bins = .unshipped ((sl.closing.grade.map GradeRecord.bin).getD 0) := by
  rw [Slot.verdictAt, h]

theorem Slot.verdictAt_faulted (h : sl.sup.phase = .faulted) : sl.verdictAt bins = .fault := by
  rw [Slot.verdictAt, h]

theorem Slot.verdictAt_shipped (h : sl.sup.phase = .shipped) :
    sl.verdictAt bins =
      let bin := (sl.closing.grade.map GradeRecord.bin).getD 0
      if bin = 0 ∨ (binEntry bins bin).allowance.toNat < sl.defects.postClose then .reject bin else .ship bin := by
  rw [Slot.verdictAt, h]

end Grading

/-- Settles O44, by the laws of the drain and of the unit's start. -/
theorem drainEndsAndComputationStarts : Obligations.DrainEndsAndComputationStarts := by
  intro s i rest sl inputs weights computing job
  refine ⟨fun hs hd => ⟨fun hg => ?queues, fun hg => ?computes⟩, fun h => ?waits, fun hg => ?starts, fun h => ?idle⟩
  case queues => exact congrArg Host.Outcome.next (State.testDrain_queues s i hs hd hg)
  case computes => exact congrArg Host.Outcome.next (State.testDrain_computes s i hs hd hg)
  case waits => exact congrArg Host.Outcome.next (State.testDrain_id s i h)
  case starts => exact congrArg Host.Outcome.next (State.startNext_starts s i rest hg)
  case idle => exact congrArg Host.Outcome.next (State.startNext_id s h)

/-- Settles O45: the bin is the computation's, and the record it writes answers the held reads. -/
theorem computationWritesTheGradeRecord : Obligations.ComputationWritesTheGradeRecord := by
  intro s c i sl n w dw dd ep score fits
  have hfits (e : BinEntry) : e.accepts n score = true ↔ fits e := BinEntry.accepts_iff n score e
  have hrejects {e : BinEntry} (h : ¬fits e) : e.accepts n score = false := by
    rw [← Bool.not_eq_true, hfits]; exact h
  refine ⟨fun hc => ?idle, fun hc => ⟨chooseBin c.bins n score, fun h => ?zero, fun ho k hk hm => ?first, ?written⟩⟩
  case idle =>
    show Host.Outcome.next s.completeComputation = _
    rw [State.completeComputation, hc]
  case zero => exact chooseBin_zero c.bins n score (h.imp_right fun h e he => hrejects (h e he))
  case first =>
    obtain ⟨e, he, hfit⟩ := hk
    exact chooseBin_first c.bins n score k e ho he ((hfits e).mpr hfit) fun m hlt f hf => hrejects (hm m hlt f hf)
  case written =>
    show Host.Outcome.next s.completeComputation = _
    rw [State.completeComputation_of hc, Act.graded, heldReads_answered]
    rfl

/-- Settles O46, verdict by verdict. -/
theorem releaseCompletionFixesTheVerdict : Obligations.ReleaseCompletionFixesTheVerdict := by
  intro s i sl bin entry released becomes
  have completes (hr : sl.closing.releasePending = true) (hq : ∀ c ∈ sl.traffic.cmds, c.state = .atResponder)
      {v : Verdict} (hv : sl.verdictAt s.shelf.bins = v) :
      exec (.releaseCompletion i) s = .next (s.setSlot i (released v)) := by
    rw [← hv]
    exact congrArg Host.Outcome.next (State.testRelease_completes s i hr hq)
  refine ⟨fun hr hq => ⟨fun hp => ?graded, fun hp => ?faulted, fun hp h => ?reject, fun hp hb h => ?ship⟩,
    fun h => ?waits,
    fun q => ⟨fun h => ?empty, fun h => ?working, fun h => ?closed, fun h => ?fault, fun h => ?verdict⟩⟩
  case graded => exact ⟨completes hr hq (Slot.verdictAt_graded hp), rfl⟩
  case faulted => exact ⟨completes hr hq (Slot.verdictAt_faulted hp), rfl⟩
  case reject => exact ⟨completes hr hq ((Slot.verdictAt_shipped hp).trans (if_pos h)), rfl⟩
  case ship =>
    refine ⟨completes hr hq ((Slot.verdictAt_shipped hp).trans (if_neg ?_)), rfl⟩
    rintro (h0 | hlt)
    · exact hb h0
    · exact absurd h (Nat.not_le.mpr hlt)
  case waits => exact congrArg Host.Outcome.next (State.testRelease_id s i h)
  case empty => rw [Slot.indicator, h]
  case working =>
    simp only [List.mem_cons, List.not_mem_nil, or_false] at h
    rw [Slot.indicator]
    rcases h with h | h | h | h | h <;> rw [h]
  case closed =>
    simp only [List.mem_cons, List.not_mem_nil, or_false] at h
    rw [Slot.indicator]
    rcases h with h | h | h | h <;> rw [h]
  case fault => rw [Slot.indicator, h]
  case verdict =>
    refine ⟨fun n hv => ?_, fun n hv => ?_, fun hv => ?_, fun n hv => ?_⟩ <;>
    · rw [Slot.indicator, h]
      simp only [hv]

/-! ## The shelf reset -/

section Reset

variable {memory : Option Block} {b : Block} {lines : Lines} {sl : Slot} {r : Recipe}

theorem Shelf.loadOption_marked (h : b.getD 0 0 = 0x7E5A0C31) :
    Shelf.loadOption (some b) =
      { number := byteOf (wordAt b 1) 0, loaded := true, clock := 0, recipe := Recipe.ofBlock b 16
        bins := binsOfBlock b } := if_pos h

theorem Shelf.loadOption_unmarked (h : ∀ b, memory = some b → b.getD 0 0 ≠ 0x7E5A0C31) :
    Shelf.loadOption memory =
      { number := 0, loaded := false, clock := 0, recipe := Recipe.builtin, bins := builtinBins } := by
  cases memory with
  | none => rfl
  | some b => exact if_neg (h b rfl)

theorem Slot.shelfReset_unlatched (h : lines.carrier = false ∨ lines.latch = false) :
    sl.shelfReset r lines = { sl.emptied lines r with command := .none } := by
  rw [Slot.shelfReset, if_neg]
  rcases h with h | h <;> simp [h]

theorem Slot.shelfReset_latched (hc : lines.carrier = true) (hl : lines.latch = true) :
    sl.shelfReset r lines = ({ sl.emptied lines r with command := .none } : Slot).attach 0 r := by
  rw [Slot.shelfReset, if_pos]
  simp [hc, hl]

end Reset

/-- Settles O47. -/
theorem shelfResetStartsThePartAgain : Obligations.ShelfResetStartsThePartAgain := by
  intro s lines memory
  refine ⟨s.shelfReset lines memory, rfl, ?clock, rfl, rfl, rfl, rfl, rfl, fun b hb hm => ?marked,
    fun h => Shelf.loadOption_unmarked h, fun i => ?slots⟩
  case clock =>
    show (Shelf.loadOption memory).clock = 0
    unfold Shelf.loadOption
    split
    · rfl
    · split <;> rfl
  case marked =>
    have hshelf : (s.shelfReset lines memory).shelf = _ :=
      (congrArg Shelf.loadOption hb).trans (Shelf.loadOption_marked hm)
    rw [hshelf]
    exact ⟨rfl, rfl, rfl, rfl⟩
  case slots =>
    intro l base
    rw [State.shelfReset_slot]
    refine ⟨fun h => (Slot.shelfReset_unlatched h).trans rfl, fun hc hl => (Slot.shelfReset_latched hc hl).trans ?_⟩
    rw [Slot.attach_eq]
    rfl

/-! ## Pass control's test -/

section Pass

variable {sl : Slot}

theorem Slot.testPass_completes (hs : sl.pass.state = .running) (hr : sl.pass.remaining = 0)
    (ho : sl.pass.outstanding = 0) (h : sl.pass.kind ≠ .read ∨ sl.pass.endless = false) :
    sl.testPass = sl.completePass := by
  rw [Slot.testPass, if_pos ⟨hs, hr, ho⟩, if_neg]
  rintro ⟨hk, he⟩
  rcases h with h | h
  · exact h hk
  · rw [h] at he; cases he

theorem Slot.testPass_laps (hs : sl.pass.state = .running) (hr : sl.pass.remaining = 0)
    (ho : sl.pass.outstanding = 0) (hk : sl.pass.kind = .read) (he : sl.pass.endless = true) :
    sl.testPass = sl.endLap := by
  rw [Slot.testPass, if_pos ⟨hs, hr, ho⟩, if_pos ⟨hk, he⟩]

theorem Slot.completePass_write (hk : sl.pass.kind = .write) :
    sl.completePass =
      (((sl.modPass fun p => { p with state := .complete }).modTally Tally.writeDone).setPhase .ready).raise
        .passDone := by
  rw [Slot.completePass, hk]

theorem Slot.completePass_read (hk : sl.pass.kind = .read) :
    sl.completePass =
      (((sl.modPass fun p => { p with state := .complete }).modTally Tally.readDone).setPhase .ready).raise
        .passDone := by
  rw [Slot.completePass, hk]

end Pass

/-- Settles O51, kind by kind. -/
theorem passEndsWhenBothCountsAreZero : Obligations.PassEndsWhenBothCountsAreZero := by
  intro sl p t reads
  refine ⟨fun h => ?waits, fun hs hr ho => ⟨fun hk => ?write, fun hk => ⟨fun hp hb => ?shipped, fun h => ?ship⟩,
    fun hk he => ?read, fun hk he => ?lap⟩⟩
  case waits =>
    rw [Slot.testPass, if_neg]
    rintro ⟨hs, hr, ho⟩
    rcases h with h | h | h
    · exact h hs
    · exact h hr
    · exact h ho
  case write =>
    have hother : sl.pass.kind ≠ .read := fun h => PassKind.noConfusion (hk.symm.trans h)
    rw [Slot.testPass_completes hs hr ho (.inl hother), Slot.completePass_write hk]
    rfl
  case shipped =>
    rw [Slot.testPass_ship hk hs hr ho]
    exact Slot.testShipped_of hp hk rfl hb
  case ship =>
    rw [Slot.testPass_ship hk hs hr ho, Slot.testShipped, if_neg]
    · rfl
    · rintro ⟨hp, -, -, hb⟩
      rcases h with h | ⟨hblock, hwritten⟩
      · exact h hp
      · rcases hb with hb | hb
        · exact absurd (hblock.symm.trans hb) (by decide)
        · exact absurd (hwritten.symm.trans hb) (by decide)
  case read =>
    rw [Slot.testPass_completes hs hr ho (.inr he), Slot.completePass_read hk]
    rfl
  case lap =>
    rw [Slot.testPass_laps hs hr ho hk he]
    rfl

end Sys2Proof.Machine

/-! PROOFS. The sample event that does not trip: monitors, thermal hold and soak (R61, R64, R65, R136 to R142). -/

namespace Sys2Proof.Machine

section Sample

variable {s : State} {i : SlotId} {sl : Slot} {r : Recipe} {t : Int} {current : BitVec 32} {temp : BitVec 16}

/-- Bringing the clock forward to an event's due time writes nothing but the clock. -/
theorem State.advanceTo_eq (due : Option Nat) :
    s.advanceTo due = { s with
      shelf := { s.shelf with
        clock := (due.map fun n => min 281474976710655 (max s.shelf.clock n)).getD s.shelf.clock } } := by
  cases due <;> rfl

theorem Slot.raiseIf_eq (p : Bool) (f : EventFlag) :
    sl.raiseIf p f = { sl with
      events := { sl.events with flags := if p then sl.events.flags ||| f.bit else sl.events.flags } } := by
  cases p <;> rfl

theorem Slot.trips_of {level : Nat} (hl : tripLevel sl.active.tripCode = some level) (h : level ≤ current.toNat) :
    sl.trips current = true := by
  rw [Slot.trips, hl]; exact decide_eq_true h

theorem Slot.trips_calm (h : ∀ level, tripLevel sl.active.tripCode = some level → current.toNat < level) :
    sl.trips current = false := by
  rw [Slot.trips]
  split
  · rfl
  · next level hl => exact decide_eq_false (Nat.not_le.mpr (h level hl))

/-- The temperature window counts exactly when its lower level lies below its higher one (R138). -/
theorem Recipe.not_windowDisabled : (!r.windowDisabled) = decide (tempLevel r.lowCode < tempLevel r.highCode) := by
  rw [Recipe.windowDisabled, ← decide_not]
  exact decide_eq_decide.mpr Int.not_le

theorem outsideLow_eq :
    outsideLow r t = decide (tempLevel r.lowCode < tempLevel r.highCode ∧ t < tempLevel r.lowCode) := by
  rw [outsideLow, Recipe.not_windowDisabled, Bool.decide_and]

theorem outsideHigh_eq :
    outsideHigh r t = decide (tempLevel r.lowCode < tempLevel r.highCode ∧ tempLevel r.highCode < t) := by
  rw [outsideHigh, Recipe.not_windowDisabled, Bool.decide_and]

theorem tempLiveOf_eq :
    tempLiveOf r t =
      if tempLevel r.criticalCode ≤ t then .critical
      else if tempLevel r.lowCode < tempLevel r.highCode ∧ t < tempLevel r.lowCode then .below
      else if tempLevel r.lowCode < tempLevel r.highCode ∧ tempLevel r.highCode < t then .above
      else .inWindow := by
  have hw : r.windowDisabled = true ↔ ¬tempLevel r.lowCode < tempLevel r.highCode := by
    rw [Recipe.windowDisabled, decide_eq_true_iff, Int.not_lt]
  rw [tempLiveOf]
  by_cases h : tempLevel r.lowCode < tempLevel r.highCode
  · rw [if_neg (mt hw.mp (not_not_intro h))]; simp only [h, true_and]
  · rw [if_pos (hw.mpr h)]; simp only [h, false_and, if_false]

theorem tempLiveOf_critical : tempLiveOf r t = .critical ↔ tempLevel r.criticalCode ≤ t := by
  rw [tempLiveOf_eq]
  split_ifs <;> simp_all

theorem tempLiveOf_inWindow :
    tempLiveOf r t = .inWindow ↔ ¬(tempLevel r.criticalCode ≤ t ∨
      (tempLevel r.lowCode < tempLevel r.highCode ∧ t < tempLevel r.lowCode) ∨
      (tempLevel r.lowCode < tempLevel r.highCode ∧ tempLevel r.highCode < t)) := by
  rw [tempLiveOf_eq]
  split_ifs <;> simp_all

theorem Slot.currentExcursion_iff : sl.currentExcursion current = true ↔
    overLevel sl.active.overCode ≤ current.toNat ∧ sl.mon.overOut = false ∧ sl.sup.graceEnd = none := by
  simp [Slot.currentExcursion, outsideOver, and_assoc]

theorem Slot.tempExcursion_iff : sl.tempExcursion temp = true ↔
    (outsideLow sl.active temp.toInt = true ∧ sl.mon.lowOut = false) ∨
      (outsideHigh sl.active temp.toInt = true ∧ sl.mon.highOut = false) ∨
      (outsideCritical sl.active temp.toInt = true ∧ sl.mon.criticalOut = false) := by
  simp [Slot.tempExcursion, or_assoc]

/-- A sample that does not trip is taken by the monitors, and then by the pass and the soak. -/
theorem exec_sampleEvent_calm (hp : (s.slot i).sup.power = true)
    (h : ∀ level, tripLevel (s.slot i).active.tripCode = some level → current.toNat < level) :
    exec (.sampleEvent i current temp) s =
      .next ((s.advanceTo (s.slot i).sup.nextSample).setSlot i
        ((s.slot i).scheduleSample.sample current temp).afterSample) := by
  refine congrArg Host.Outcome.next ?_
  have hcalm : ((s.slot i).scheduleSample.sample current temp).trips current = false :=
    Slot.trips_calm (by simpa using h)
  rw [State.sampleSlot, if_pos hp]
  simp only [State.slot_modSlot, State.advanceTo_slot, hcalm]
  simp only [State.modSlot, State.advanceTo_slot, State.slot_setSlot, State.setSlot_setSlot]
  rfl

theorem Slot.afterSample_critical (h : sl.mon.tempLive = .critical) : sl.afterSample = sl.thermalHold.soakSample := by
  rw [Slot.afterSample, if_pos h]

theorem Slot.afterSample_cool (h : sl.mon.tempLive ≠ .critical) : sl.afterSample = sl.soakSample := by
  rw [Slot.afterSample, if_neg h]

theorem Slot.thermalHold_id (h : sl.pass.kind = .none ∨ sl.pass.kind = .ship ∨
    (sl.pass.state ≠ .running ∧ sl.pass.state ≠ .held) ∨ (sl.pass.state = .held ∧ sl.pass.holdThermal = true)) :
    sl.thermalHold = sl := by
  rw [Slot.thermalHold]
  rcases h with h | h | ⟨hr, hh⟩ | ⟨hs, ht⟩
  · rw [if_neg (by simp [h])]
  · rw [if_neg (by simp [h])]
  · split
    · split
      · next hs => exact absurd hs hr
      · next hs => exact absurd hs hh
      all_goals rfl
    · rfl
  · simp only [hs, ht, if_true, ite_self]

theorem Slot.thermalHold_running (hk : sl.pass.kind = .write ∨ sl.pass.kind = .read) (hs : sl.pass.state = .running) :
    sl.thermalHold =
      ((sl.modPass fun p => { p with state := .held, holdThermal := true }).setPhase .held).raise .held := by
  rw [Slot.thermalHold, if_pos hk]
  simp only [hs]

theorem Slot.thermalHold_held (hk : sl.pass.kind = .write ∨ sl.pass.kind = .read) (hs : sl.pass.state = .held)
    (ht : sl.pass.holdThermal = false) :
    sl.thermalHold = (sl.modPass fun p => { p with holdThermal := true }).raise .held := by
  rw [Slot.thermalHold, if_pos hk]
  simp [hs, ht]

theorem Slot.soakSample_id (h : sl.sup.phase ≠ .soak ∨ sl.mon.tempLive ≠ .inWindow) : sl.soakSample = sl := by
  rw [Slot.soakSample, if_neg]
  rintro ⟨hp, hl⟩
  exact h.elim (fun h => h hp) fun h => h hl

/-- The slot whose soak has gained one sample period (R64). -/
def Slot.soaked (sl : Slot) : Slot :=
  sl.modTally fun t => { t with soakMs := min 4294967295000 (t.soakMs + 100), soakGained := t.soakGained + 100 }

theorem Slot.soakSample_of (hp : sl.sup.phase = .soak) (hl : sl.mon.tempLive = .inWindow) :
    sl.soakSample =
      if sl.tally.soakTarget * 60000 ≤ sl.tally.soakGained + 100 then (sl.soaked.setPhase .ready).raise .soakDone
      else sl.soaked := by
  rw [Slot.soakSample, if_pos ⟨hp, hl⟩]; rfl

end Sample

/-- Settles O42: the monitors take the sample, then the thermal hold and the soak follow the live status. -/
theorem sampleFollowsTheMonitors : Obligations.SampleFollowsTheMonitors := by
  intro s i current temp sl r q hot enabled low high critical ce te mon flags sampled then' calm
  have hsampled : (s.slot i).scheduleSample.sample current temp = sampled := by
    have hce : sl.scheduleSample.currentExcursion current = decide ce :=
      Bool.eq_iff_iff.mpr (Slot.currentExcursion_iff.trans decide_eq_true_iff.symm)
    have hte : sl.scheduleSample.tempExcursion temp = decide te := by
      refine Bool.eq_iff_iff.mpr (Slot.tempExcursion_iff.trans ?_)
      rw [outsideLow_eq, outsideHigh_eq, outsideCritical]
      simp only [decide_eq_true_eq]
      exact Iff.rfl
    rw [Slot.sample, Slot.raiseIf_eq, hce, hte, tempLiveOf_eq, outsideLow_eq, outsideHigh_eq]
    simp only [outsideOver, outsideCritical, Bool.or_eq_true, decide_eq_true_eq]
    rfl
  have hthen : s.advanceTo (s.slot i).sup.nextSample = then' := State.advanceTo_eq _
  have hlive : sampled.mon.tempLive = tempLiveOf r temp.toInt := tempLiveOf_eq.symm
  have hcritical : sampled.mon.tempLive = .critical ↔ critical := by rw [hlive]; exact tempLiveOf_critical
  have hinside : sampled.mon.tempLive = .inWindow ↔ ¬(critical ∨ low ∨ high) := by
    rw [hlive]; exact tempLiveOf_inWindow
  have takes {x : Slot} (hp : sl.sup.power = true) (h : calm) (hx : sampled.afterSample = x) :
      exec (.sampleEvent i current temp) s = .next (then'.setSlot i x) := by
    rw [exec_sampleEvent_calm hp h, hsampled, hthen, hx]
  refine ⟨fun hp => ?off, fun hp h => ⟨fun hpass hsoak => takes hp h ?nothing, fun hc hk hs => takes hp h ?holds,
    fun hc hk hs ht hsoak => takes hp h ?adds, ?soaks⟩⟩
  case off =>
    refine congrArg Host.Outcome.next ?_
    rw [State.sampleSlot, if_neg]
    exact fun h => Bool.noConfusion (hp.symm.trans h)
  case nothing =>
    have hstill : sampled.soakSample = sampled :=
      Slot.soakSample_id (hsoak.imp_right fun hout hl => hinside.mp hl hout)
    by_cases hc : critical
    · have hheld : sampled.thermalHold = sampled := Slot.thermalHold_id (hpass.resolve_left (not_not_intro hc))
      rw [Slot.afterSample_critical (hcritical.mpr hc), hheld, hstill]
    · rw [Slot.afterSample_cool (mt hcritical.mp hc), hstill]
  case holds =>
    rw [Slot.afterSample_critical (hcritical.mpr hc), Slot.thermalHold_running (sl := sampled) hk hs,
      Slot.soakSample_id (.inl (by simp))]
    rfl
  case adds =>
    rw [Slot.afterSample_critical (hcritical.mpr hc), Slot.thermalHold_held (sl := sampled) hk hs ht]
    exact Slot.soakSample_id (.inl hsoak)
  case soaks =>
    intro hphase hin gained counted
    have hsoaks := Slot.soakSample_of (sl := sampled) hphase (hinside.mpr hin)
    refine ⟨fun hless => takes hp h ?_, fun hreached => takes hp h ?_⟩
    · rw [Slot.afterSample_cool (mt hcritical.mp fun hc => hin (.inl hc)), hsoaks]
      exact if_neg (Nat.not_le.mpr hless)
    · rw [Slot.afterSample_cool (mt hcritical.mp fun hc => hin (.inl hc)), hsoaks]
      exact if_pos hreached

end Sys2Proof.Machine

/-! PROOFS. The failure runs of a read (R16), and the stamp block against the classification of returned blocks (R1 to
R10, R27). -/

namespace Sys2Proof.Machine

/-! ## Failure runs -/

section Runs

variable {L b : Nat} {k f : FailKind} {c : BlockClass} {r q : Run} {rs : List Run}

/-- A run stands before another and does not adjoin it with the same class. -/
def Run.Before (r q : Run) : Prop := r.stop < q.first ∨ (r.stop = q.first ∧ r.kind ≠ q.kind)

/-- A run of class `f` covers block `b`. -/
def Covers (rs : List Run) (f : FailKind) (b : Nat) : Prop := ∃ r ∈ rs, r.kind = f ∧ r.first ≤ b ∧ b < r.stop

theorem Covers.nil : ¬Covers [] f b := fun ⟨_, hr, _⟩ => nomatch hr

theorem covers_cons : Covers (r :: rs) f b ↔ (r.kind = f ∧ r.first ≤ b ∧ b < r.stop) ∨ Covers rs f b := by
  simp [Covers]

/-- Runs of at least one block, from block `L` on and before block `hi`, in order and maximal. -/
structure RunsWF (L hi : Nat) (rs : List Run) : Prop where
  ordered : rs.Pairwise Run.Before
  within  : ∀ r ∈ rs, 1 ≤ r.length ∧ L ≤ r.first ∧ r.stop ≤ hi

theorem RunsWF.mono {hi : Nat} (h : RunsWF (L + 1) hi rs) : RunsWF L hi rs where
  ordered := h.ordered
  within r hr := by
    obtain ⟨hl, hf, hs⟩ := h.within r hr
    exact ⟨hl, by omega, hs⟩

/-- A failing block put in front of runs that begin after it leaves them in order and maximal. -/
theorem RunsWF.joinRun {hi : Nat} (h : RunsWF (L + 1) hi rs) (hL : L + 1 ≤ hi) : RunsWF L hi (joinRun L k c rs) := by
  cases rs with
  | nil => exact ⟨List.pairwise_singleton _ _, by simp [Machine.joinRun, Run.stop, hL]⟩
  | cons r rs =>
    obtain ⟨hr, hrs⟩ := List.pairwise_cons.mp h.ordered
    obtain ⟨hlen, hfirst, hstop⟩ := h.within r List.mem_cons_self
    have hrest := fun q hq => h.within q (List.mem_cons_of_mem r hq)
    simp only [Run.stop] at hstop hrest
    rw [Machine.joinRun]
    split
    · next hadj =>
      obtain ⟨hadj, hk⟩ := hadj
      refine ⟨List.pairwise_cons.mpr ⟨fun q hq => ?_, hrs⟩, List.forall_mem_cons.mpr ⟨?_, fun q hq => ?_⟩⟩
      · have := hr q hq
        simp only [Run.Before, Run.stop, hadj, hk] at this ⊢
        exact this.imp (fun h => by omega) fun h => ⟨by omega, h.2⟩
      · simp only [Run.stop]; omega
      · have := hrest q hq
        simp only [Run.stop]; omega
    · next hapart =>
      refine ⟨List.pairwise_cons.mpr ⟨List.forall_mem_cons.mpr ⟨?_, fun q hq => ?_⟩, h.ordered⟩,
        List.forall_mem_cons.mpr ⟨?_, h.mono.within⟩⟩
      · simp only [Run.Before, Run.stop]
        rcases Nat.eq_or_lt_of_le hfirst with he | hlt
        · exact .inr ⟨he, fun hk => hapart ⟨he.symm, hk.symm⟩⟩
        · exact .inl hlt
      · have := hr q hq
        simp only [Run.Before, Run.stop] at this ⊢
        exact .inl (by omega)
      · simp only [Run.stop]; omega

/-- The runs after a failing block is put in front cover that block, and what they covered. -/
theorem covers_joinRun (hrs : ∀ r ∈ rs, 1 ≤ r.length) :
    Covers (joinRun L k c rs) f b ↔ (b = L ∧ k = f) ∨ Covers rs f b := by
  cases rs with
  | nil =>
    simp only [Machine.joinRun, covers_cons, Run.stop]
    refine or_congr_left ⟨fun ⟨hk, hl, hs⟩ => ⟨by omega, hk⟩, fun ⟨hb, hk⟩ => ⟨hk, by omega, by omega⟩⟩
  | cons r rs =>
    have hlen := hrs r List.mem_cons_self
    rw [Machine.joinRun]
    split
    · next hadj =>
      obtain ⟨hadj, hk⟩ := hadj
      simp only [covers_cons, Run.stop, ← or_assoc, hadj, hk]
      refine or_congr_left ⟨fun ⟨hf, hl, hs⟩ => ?_, ?_⟩
      · rcases Nat.eq_or_lt_of_le hl with he | hlt
        · exact .inl ⟨he.symm, hf⟩
        · exact .inr ⟨hf, by omega, by omega⟩
      · rintro (⟨hb, hf⟩ | ⟨hf, hl, hs⟩)
        · exact ⟨hf, by omega, by omega⟩
        · exact ⟨hf, by omega, by omega⟩
    · rw [covers_cons]
      simp only [Run.stop]
      refine or_congr_left ⟨fun ⟨hk, hl, hs⟩ => ⟨by omega, hk⟩, fun ⟨hb, hk⟩ => ⟨hk, by omega, by omega⟩⟩

theorem failureRuns_wf (cs : List BlockClass) : RunsWF L (L + cs.length) (failureRuns L cs) := by
  induction cs generalizing L with
  | nil => exact ⟨.nil, nofun⟩
  | cons c cs ih =>
    have hrest : RunsWF (L + 1) (L + (c :: cs).length) (failureRuns (L + 1) cs) := by
      have := ih (L := L + 1)
      rwa [Nat.add_assoc, Nat.add_comm 1] at this
    rw [failureRuns]
    cases c.failKind with
    | none => exact hrest.mono
    | some k => exact hrest.joinRun (by simp)

/-- A block lies in a run of a class exactly when it is classed with that class. -/
theorem covers_failureRuns (cs : List BlockClass) (n : Nat) :
    Covers (failureRuns L cs) f (L + n) ↔ (cs[n]?.bind BlockClass.failKind) = some f := by
  induction cs generalizing L n with
  | nil => exact iff_of_false Covers.nil nofun
  | cons c cs ih =>
    have hwf := failureRuns_wf (L := L + 1) cs
    have hbefore : ¬Covers (failureRuns (L + 1) cs) f L := fun ⟨r, hr, _, hl, _⟩ => by
      have := (hwf.within r hr).2.1
      omega
    have hlen := fun r hr => (hwf.within r hr).1
    rw [failureRuns]
    cases n with
    | zero =>
      simp only [List.getElem?_cons_zero, Option.bind_some, Nat.add_zero]
      cases hk : c.failKind with
      | none => exact iff_of_false hbefore nofun
      | some k =>
        rw [covers_joinRun hlen, or_iff_left hbefore]
        simp
    | succ n =>
      have hn : L + (n + 1) = L + 1 + n := by omega
      have hne : ¬(L + 1 + n = L) := by omega
      rw [List.getElem?_cons_succ, ← ih (L := L + 1), hn]
      cases hk : c.failKind with
      | none => exact Iff.rfl
      | some k =>
        rw [covers_joinRun hlen]
        exact or_iff_right fun h => hne h.1

end Runs

/-- Settles O49, by induction on the blocks' classes from the last one. -/
theorem failureRunsAreMaximal : Obligations.FailureRunsAreMaximal := fun _ cs =>
  ⟨(failureRuns_wf cs).ordered, (failureRuns_wf cs).within, fun n _ => covers_failureRuns cs n⟩

end Sys2Proof.Machine

/-! PROOFS. The stamp block and the classification of returned blocks (R1 to R5, R8 to R10, R27). -/

namespace Sys2Proof.Machine

/-! ## The generator and the stamp block -/

section Stamp

variable {K x : Word} {alternate : Bool} {e p L M n : Nat} {b : Block}

theorem Word.mul_eq_shiftLeft (k : Nat) : x * BitVec.ofNat 32 (2 ^ k) = x <<< k := by
  apply BitVec.eq_of_toNat_eq
  rw [BitVec.toNat_mul, BitVec.toNat_shiftLeft, BitVec.toNat_ofNat, Nat.shiftLeft_eq, Nat.mul_mod_mod]

theorem Word.div_eq_shiftRight (k : Nat) (hk : k < 32) : x / BitVec.ofNat 32 (2 ^ k) = x >>> k := by
  apply BitVec.eq_of_toNat_eq
  rw [BitVec.toNat_udiv, BitVec.toNat_ushiftRight, BitVec.toNat_ofNat, Nat.shiftRight_eq_div_pow,
    Nat.mod_eq_of_lt (Nat.pow_lt_pow_right (by decide) hk)]

/-- One step of the generator, as R3 writes it. -/
theorem genStep_eq :
    genStep x =
      let a := x ^^^ (x * 8192)
      let b := a ^^^ (a / 131072)
      b ^^^ (b * 32) := by
  have h13 {y : Word} : y * (8192 : Word) = y <<< 13 := Word.mul_eq_shiftLeft 13
  have h17 {y : Word} : y / (131072 : Word) = y >>> 17 := Word.div_eq_shiftRight 17 (by decide)
  have h5 {y : Word} : y * (32 : Word) = y <<< 5 := Word.mul_eq_shiftLeft 5
  simp only [h13, h17, h5, genStep]

theorem genWords_eq (m : Nat) : genWords m x = (List.range m).map fun n => genStep^[n + 1] x := by
  induction m generalizing x with
  | zero => rfl
  | succ m ih =>
    rw [genWords, ih, List.range_succ_eq_map, List.map_cons, List.map_map]
    rfl

theorem iterate_genStep_ne_zero (h : x ≠ 0) (n : Nat) : genStep^[n] x ≠ 0 := by
  induction n with
  | zero => exact h
  | succ n ih => rw [Function.iterate_succ_apply']; exact genStep_ne_zero _ ih

theorem addrHigh_eq (hL : L < 2 ^ 48) : L / 4294967296 % 65536 = L / 4294967296 := Nat.mod_eq_of_lt (by omega)

theorem stampBlock_wipe : stampBlock K alternate 65535 L = List.replicate 1024 0 := if_pos rfl

theorem stampBlock_normal (he : e ≠ 65535) :
    stampBlock K alternate e L = addrLow L :: addrHighEpoch L e :: stampBody K L e alternate := if_neg he

/-! ## What a block claims -/

/-- The two identification words are those of address `L` and epoch `e` exactly when they claim them (R2). -/
theorem identified_iff (hL : L < 2 ^ 48) (he : e < 65536) :
    (wordAt b 0 = addrLow L ∧ wordAt b 1 = addrHighEpoch L e) ↔ claimedAddress b = L ∧ epochField b = e := by
  have h0 := (wordAt b 0).isLt
  have h1 := (wordAt b 1).isLt
  simp only [addrLow, addrHighEpoch, claimedAddress, epochField, ← BitVec.toNat_inj, BitVec.toNat_ofNat, addrHigh_eq hL]
  omega

theorem claims_stampBlock (hL : L < 2 ^ 48) (he : e < 65535) :
    claimedAddress (stampBlock K alternate e L) = L ∧ epochField (stampBlock K alternate e L) = e := by
  rw [← identified_iff hL (by omega), stampBlock_normal (by omega)]
  exact ⟨rfl, rfl⟩

/-- A candidate that is a write epoch is matched by the address and the epoch the block claims (R8). -/
theorem matchesEpoch_iff (hL : L < 2 ^ 48) (he : e < 65535) :
    matchesEpoch b L e = true ↔ claimedAddress b = L ∧ epochField b = e := by
  rw [← identified_iff hL (by omega), matchesEpoch, if_neg (by simp only [Config.wipeEpoch]; omega)]
  simp

theorem Zone.records_iff {z : Zone} :
    z.records e = true ↔ 1 ≤ e ∧ e ≤ 65534 ∧ (e = z.current ∨ e = z.previous) := by
  simp only [Zone.records, Bool.and_eq_true, Bool.or_eq_true, beq_iff_eq, decide_eq_true_eq]
  tauto

/-! ## The words of a block -/

theorem fullWords_eq : fullWords b = (List.range 1024).map fun n => b.getD n 0 := by
  refine List.ext_getElem (by simp [fullWords]; omega) fun n hn _ => ?_
  rw [List.getElem_map, List.getElem_range]
  simp only [fullWords, List.getElem_take, List.getElem_append, List.getElem_replicate]
  split
  · next h => rw [List.getD_eq_getElem?_getD, List.getElem?_eq_getElem h, Option.getD_some]
  · next h => rw [List.getD_eq_getElem?_getD, List.getElem?_eq_none (Nat.not_lt.mp h), Option.getD_none]

theorem bodyOf_eq : bodyOf b = (List.range 1022).map fun n => b.getD (n + 2) 0 := by
  refine List.ext_getElem (by simp [bodyOf, fullWords_eq]) fun n hn _ => ?_
  simp only [bodyOf, fullWords_eq, List.getElem_drop, List.getElem_map, List.getElem_range, Nat.add_comm 2]

theorem countNonzero_map (m : Nat) (w : Nat → Word) :
    countNonzero ((List.range m).map w) = ((List.range m).filter fun n => w n != 0).length := by
  rw [countNonzero, List.filter_map, List.length_map]
  rfl

theorem countDiff_map (m : Nat) (v w : Nat → Word) :
    countDiff ((List.range m).map v) ((List.range m).map w) = ((List.range m).filter fun n => v n != w n).length := by
  rw [countDiff, List.zipWith_map, List.zipWith_self, List.filter_map, List.length_map]
  rfl

theorem fullWords_of_length (h : b.length = 1024) : fullWords b = b := by
  rw [fullWords, h, Nat.sub_self, List.replicate_zero, List.append_nil, ← h, List.take_length]

theorem bodyOf_stampBlock (he : e ≠ 65535) : bodyOf (stampBlock K alternate e L) = stampBody K L e alternate := by
  rw [bodyOf, fullWords_of_length (stampBlock_length ..), stampBlock_normal he]; rfl

/-- The bad body words of a block are those that differ from the stamp block's (R8, R9). -/
theorem badBody_eq :
    badBody K alternate b L e =
      ((List.range 1022).filter fun n => b.getD (n + 2) 0 != (stampBlock K alternate e L).getD (n + 2) 0).length := by
  rw [badBody]
  split
  · next he =>
    have hwipe : stampBlock K alternate Config.wipeEpoch L = List.replicate 1024 0 := stampBlock_wipe
    have hzero (n : Nat) : (List.replicate 1024 (0 : Word)).getD n 0 = 0 := by
      rw [List.getD_eq_getElem?_getD, List.getElem?_replicate]
      split <;> rfl
    rw [bodyOf_eq, countNonzero_map, he, hwipe]
    simp only [hzero]
  · next he => rw [← bodyOf_stampBlock he, bodyOf_eq, bodyOf_eq, countDiff_map]

theorem countDiff_self (xs : List Word) : countDiff xs xs = 0 := by
  rw [countDiff, List.zipWith_self, List.length_eq_zero_iff, List.filter_eq_nil_iff]
  simp

/-! ## Candidates and classes -/

variable {z : Zone} {c d k : Nat} {cs more : List Nat}

theorem matchesEpoch_wipe : matchesEpoch b L 65535 = true ↔ ∀ n < 1024, b.getD n 0 = 0 := by
  rw [matchesEpoch, if_pos (c := 65535 = Config.wipeEpoch) rfl, beq_iff_eq, fullWords_eq, countNonzero_map, List.length_eq_zero_iff,
    List.filter_eq_nil_iff]
  simp

/-- A block matches at most one candidate: a block of zeros claims epoch 0. -/
theorem matchesEpoch_unique (hL : L < 2 ^ 48) (hc : 1 ≤ c ∧ c ≤ 65535) (hd : 1 ≤ d ∧ d ≤ 65535)
    (h : matchesEpoch b L c = true) (h' : matchesEpoch b L d = true) : c = d := by
  have hzero (hw : matchesEpoch b L 65535 = true) : epochField b = 0 := by
    rw [epochField, wordAt, matchesEpoch_wipe.mp hw 1 (by decide)]; rfl
  rcases Nat.lt_or_eq_of_le hc.2 with hcl | rfl <;> rcases Nat.lt_or_eq_of_le hd.2 with hdl | rfl
  · exact ((matchesEpoch_iff hL hcl).mp h).2.symm.trans ((matchesEpoch_iff hL hdl).mp h').2
  · have := ((matchesEpoch_iff hL hcl).mp h).2.symm.trans (hzero h')
    omega
  · have := ((matchesEpoch_iff hL hdl).mp h').2.symm.trans (hzero h)
    omega
  · rfl

theorem classifyWith_wipe :
    classifyWith K alternate z [65535] L b = goodOrMiscompare (countNonzero (fullWords b)) := by
  rw [classifyWith, if_pos ⟨rfl, rfl⟩]

/-- The class of a block that matches a candidate (R8). -/
theorem classifyWith_matched (hw : cs ≠ [65535]) (h : cs.find? (matchesEpoch b L) = some c) :
    classifyWith K alternate z cs L b = goodOrMiscompare (if c = 65535 then 0 else badBody K alternate b L c) := by
  cases cs with
  | nil => cases h
  | cons d more =>
    rw [classifyWith, if_neg fun hd => hw (congrArg₂ List.cons hd.1 hd.2), h]
    rfl

/-- The class of a block that matches no candidate (R9). -/
theorem classifyWith_unmatched (hw : c :: more ≠ [65535]) (h : ∀ d ∈ c :: more, ¬matchesEpoch b L d = true) :
    classifyWith K alternate z (c :: more) L b =
      if claimedAddress b = L ∧ z.records (epochField b) = true ∧ epochField b ∉ c :: more then .stale
      else if z.records (epochField b) = true ∧ claimedAddress b ≠ L then .misplaced (claimedAddress b)
      else .miscompare (2 + badBody K alternate b L c) := by
  rw [classifyWith, if_neg fun hd => hw (congrArg₂ List.cons hd.1 hd.2), List.find?_eq_none.mpr h]

/-- A block read back under the epoch it was stamped with is good. -/
theorem classifyWith_stamped (hL : L < 2 ^ 48) (he : e < 65535) :
    classifyWith K alternate z [e] L (stampBlock K alternate e L) = .good := by
  have hmatch : matchesEpoch (stampBlock K alternate e L) L e = true :=
    (matchesEpoch_iff hL he).mpr (claims_stampBlock hL he)
  have hne : e ≠ 65535 := by omega
  rw [classifyWith_matched (c := e) (by simpa using hne) (by simp [List.find?, hmatch]), if_neg hne, badBody,
    if_neg (c := e = Config.wipeEpoch) hne, bodyOf_stampBlock hne, countDiff_self]
  rfl

theorem Zone.expected_ordered (hs : z.state = .ordered) :
    z.expected k = if k < z.wf then [z.current] else if z.previous = 0 then [] else [z.previous] := by
  rw [Zone.expected, hs]

end Stamp

/-- Settles O48: what a stamp block claims, and then each rule by the case it states. -/
theorem stampedBlocksClassAsWritten : Obligations.StampedBlocksClassAsWritten := by
  refine ⟨?stamped, fun serial seed => ?key, fun K alternate e L hL => ⟨fun h1 he => ?normal, stampBlock_wipe⟩,
    fun z k => ⟨fun hs => ?unrecorded, Zone.expected_ordered, fun hs => ?mixed⟩, ?classes⟩
  case stamped =>
    intro K alternate z L M k e p hL hM hne hcur hprev hs hk h1
    have hexp : z.expected k = [e] := by rw [Zone.expected_ordered hs, if_pos hk, hcur]
    rw [hexp]
    refine ⟨fun he => ⟨classifyWith_stamped hL (by omega), ?_, fun hp1 hp hpe => ?_⟩, ?_⟩
    · obtain ⟨hclaimed, hfield⟩ := claims_stampBlock (K := K) (alternate := alternate) hM (e := e) (by omega)
      rw [classifyWith_unmatched, hclaimed, hfield, if_neg fun h => hne h.1, if_pos]
      · exact ⟨Zone.records_iff.mpr ⟨h1, he, .inl hcur.symm⟩, hne⟩
      · simp only [ne_eq, List.cons.injEq, and_true]; omega
      · intro d hd
        rw [List.mem_singleton.mp hd, matchesEpoch_iff hL (by omega), hclaimed]
        exact fun h => hne h.1
    · obtain ⟨hclaimed, hfield⟩ := claims_stampBlock (K := K) (alternate := alternate) hL (e := p) (by omega)
      rw [classifyWith_unmatched, hclaimed, hfield, if_pos]
      · exact ⟨rfl, Zone.records_iff.mpr ⟨hp1, hp, .inr hprev.symm⟩, by simpa using hpe⟩
      · simp only [ne_eq, List.cons.injEq, and_true]; omega
      · intro d hd
        rw [List.mem_singleton.mp hd, matchesEpoch_iff hL (by omega), hfield]
        exact fun h => hpe h.2
    · rintro rfl
      rw [stampBlock_wipe, classifyWith_wipe, fullWords_of_length List.length_replicate, countNonzero,
        List.filter_replicate]
      rfl
  case key =>
    simp only [keyOf, serialWords, List.foldl_cons, List.foldl_nil]
    ac_rfl
  case normal =>
    intro low high start
    have hhigh : L / 4294967296 % 65536 = L / 2 ^ 32 := addrHigh_eq hL
    have hstart : genStart K L e = if start = 0 then 1 else start := by rw [genStart, hhigh]; rfl
    refine ⟨fun n => genStep^[n] (genStart K L e), hstart, fun n => ⟨_, _, rfl, rfl, ?_⟩,
      iterate_genStep_ne_zero (genStart_ne_zero K L e), ?_⟩
    · exact (Function.iterate_succ_apply' ..).trans genStep_eq
    · rw [stampBlock_normal (by omega), addrHighEpoch, hhigh, stampBody, genWords_eq, List.map_map]
      refine congrArg (addrLow L :: _ :: ·) (List.map_congr_left fun n _ => ?_)
      simp [storedWord]
  case unrecorded => rw [Zone.expected]; rcases hs with hs | hs <;> rw [hs]
  case mixed =>
    rw [Zone.expected, hs]
    by_cases hk : k < z.wf <;> simp [hk]
  case classes =>
    intro K alternate z cs L b hL hcs w claimed field recorded isMatch bad counted classed
    have hmatch {c : Nat} (hc : c ∈ cs) : matchesEpoch b L c = true ↔ isMatch c := by
      rcases Nat.lt_or_eq_of_le (hcs c hc).2 with hlt | rfl
      · refine (matchesEpoch_iff hL hlt).trans ⟨fun h => .inr ⟨by omega, h⟩, ?_⟩
        rintro (h | h)
        · omega
        · exact h.2
      · refine matchesEpoch_wipe.trans ⟨fun h => .inl ⟨rfl, h⟩, ?_⟩
        rintro (h | h)
        · exact h.2
        · exact absurd rfl h.1
    have hbad (c : Nat) : badBody K alternate b L c = bad c := badBody_eq
    have hrecorded : z.records field = true ↔ recorded := Zone.records_iff
    refine ⟨?none, ?wipe, fun hne hw => ⟨fun c hc hm => ?matched, fun hm => ?unmatched⟩⟩
    case none => rintro rfl; rfl
    case wipe =>
      rintro rfl
      rw [show classed = _ from classifyWith_wipe, fullWords_eq, countNonzero_map]
      rfl
    case matched =>
      have hfind : cs.find? (matchesEpoch b L) = some c := by
        cases hd : cs.find? (matchesEpoch b L) with
        | none => exact absurd ((hmatch hc).mpr hm) (List.find?_eq_none.mp hd c hc)
        | some d =>
          exact congrArg some (matchesEpoch_unique hL (hcs d (List.mem_of_find?_eq_some hd)) (hcs c hc)
            (List.find?_some hd) ((hmatch hc).mpr hm))
      rw [show classed = _ from classifyWith_matched hw hfind, hbad]
      rfl
    case unmatched =>
      obtain ⟨c, more, rfl⟩ := List.exists_cons_of_ne_nil hne
      have hclass : classed = _ := classifyWith_unmatched hw fun d hd h => hm d hd ((hmatch hd).mp h)
      refine ⟨fun hl hr hf => ?_, fun hl hr => ?_, fun hr d rest hd => ?_⟩
      · exact hclass.trans (if_pos ⟨hl, hrecorded.mpr hr, hf⟩)
      · exact hclass.trans ((if_neg fun h => hl h.1).trans (if_pos ⟨hrecorded.mpr hr, hl⟩))
      · obtain ⟨rfl, rfl⟩ := List.cons.inj hd
        have hr' : ¬z.records field = true := mt hrecorded.mp hr
        rw [← hbad]
        exact hclass.trans ((if_neg fun h => hr' h.2.1).trans (if_neg fun h => hr' h.1))

end Sys2Proof.Machine

/-! PROOFS. What the entry to FAULTED records of a slot (R55, R105, R114, R126): the failures of a link (R122, R123, R130)
and the trip (R141), each with a release waiting and without (R167). -/

namespace Sys2Proof.Machine

/-! ## Slots that differ in flags and in the outstanding count -/

section Shadow

variable {a b : Slot} {m : BitVec 16} {now : Nat}

/-- Slot `b` takes runs as slot `a` does; it has the flags `m` more, and perhaps another outstanding count. -/
structure Slot.Shadows (a b : Slot) (m : BitVec 16) : Prop where
  closed  : b.sup.closed = a.sup.closed
  serials : b.tally.serials = a.tally.serials
  defects : b.defects = a.defects
  flags   : b.events.flags = a.events.flags ||| m
  pass    : ∃ n, b.pass = { a.pass with outstanding := n }

theorem Slot.Shadows.of_eq (hc : b.sup.closed = a.sup.closed) (hs : b.tally.serials = a.tally.serials)
    (hd : b.defects = a.defects) (hf : b.events.flags = a.events.flags ||| m) (hp : b.pass = a.pass) : a.Shadows b m :=
  ⟨hc, hs, hd, hf, a.pass.outstanding, by rw [hp]⟩

theorem PassRecord.counting_outstanding (n k : Nat) (p : PassRecord) :
    ({ p with outstanding := k } : PassRecord).counting n = { p.counting n with outstanding := k } := by
  rw [PassRecord.counting, PassRecord.counting]
  split <;> rfl

/-- The run counts as failures whether the table is frozen or not (R55). -/
theorem Slot.takeRun_counts (r : Run) : (a.takeRun now r).pass = a.pass.counting r.length := by
  cases h : a.sup.closed with
  | true => rw [Slot.takeRun_closed now r h]
  | false => rw [Slot.takeRun_open now r h]

theorem Slot.Shadows.takeRun (h : a.Shadows b m) (r : Run) : (a.takeRun now r).Shadows (b.takeRun now r) m where
  closed := by simpa using h.closed
  serials := by simpa using h.serials
  pass := by
    obtain ⟨n, hn⟩ := h.pass
    exact ⟨n, by rw [Slot.takeRun_counts, Slot.takeRun_counts, hn, PassRecord.counting_outstanding]⟩
  defects := by
    cases ha : a.sup.closed with
    | true => rw [Slot.takeRun_closed now r ha, Slot.takeRun_closed now r (h.closed.trans ha), h.defects]
    | false =>
      rw [Slot.takeRun_open now r ha, Slot.takeRun_open now r (h.closed.trans ha), h.defects, h.serials]
  flags := by
    cases ha : a.sup.closed with
    | true => rw [Slot.takeRun_closed now r ha, Slot.takeRun_closed now r (h.closed.trans ha), h.flags]
    | false =>
      rw [Slot.takeRun_open now r ha, Slot.takeRun_open now r (h.closed.trans ha), h.defects, h.serials, h.flags]
      dsimp only
      split_ifs <;> ac_rfl

theorem Slot.Shadows.takeRuns (h : a.Shadows b m) (rs : List Run) :
    (a.takeRuns now rs).Shadows (b.takeRuns now rs) m := by
  induction rs generalizing a b with
  | nil => exact h
  | cons r rs ih => exact ih (h.takeRun r)

theorem Slot.Shadows.raise (h : a.Shadows b m) (f : EventFlag) : a.Shadows (b.raise f) (m ||| f.bit) :=
  ⟨h.closed, h.serials, h.defects, by rw [Slot.raise_events, h.flags, BitVec.or_assoc], h.pass⟩

theorem Slot.Shadows.finishCount (h : a.Shadows b m) (serial : Option Nat) : a.Shadows (b.finishCount serial) m := by
  obtain ⟨n, hn⟩ := h.pass
  obtain ⟨k, hk⟩ := Slot.finishCount_pass serial b
  exact ⟨h.closed, h.serials, h.defects, h.flags, k, by rw [hk, hn]⟩

/-- The posted writes of a slot, as the runs that their failure hands over (R112, R114). -/
def Slot.postRuns (sl : Slot) : List Run := (sl.traffic.cmds.filter Cmd.posted).map fun c => c.wholeRun .writeFail

/-- The flag that `n` failed posted writes raise: POST-FAIL, or none (R112, R114). -/
def failFlag (n : Nat) : BitVec 16 := if n = 0 then 0 else 0x0080

theorem postFail_failFlag (n : Nat) : EventFlag.postFail.bit ||| failFlag n = failFlag (n + 1) := by
  rw [failFlag, failFlag, if_neg n.succ_ne_zero]
  split
  · exact BitVec.or_zero
  · exact BitVec.or_self

/-- Posted writes that fail one after the other, as the steps of R114 take them. -/
theorem Slot.Shadows.dropped (cs : List Cmd) (h : a.Shadows b m) :
    (a.takeRuns now (cs.map fun c => c.wholeRun .writeFail)).Shadows
      (cs.foldl (fun sl c => ((sl.takeRun now (c.wholeRun .writeFail)).raise .postFail).finishCount c.serial) b)
      (m ||| failFlag cs.length) := by
  induction cs generalizing a b m with
  | nil => rwa [List.length_nil, show m ||| failFlag 0 = m from BitVec.or_zero]
  | cons c cs ih =>
    have := ih (((h.takeRun (now := now) (c.wholeRun .writeFail)).raise .postFail).finishCount c.serial)
    rwa [BitVec.or_assoc, postFail_failFlag] at this

theorem Slot.Shadows.refl (a : Slot) : a.Shadows a 0 := .of_eq rfl rfl rfl BitVec.or_zero.symm rfl

theorem Slot.shadows_dropPosted (now : Nat) :
    (a.takeRuns now a.postRuns).Shadows (a.dropPosted now) (failFlag a.postCount) := by
  have h := (Slot.Shadows.refl a).dropped (now := now) (a.traffic.cmds.filter Cmd.posted)
  rw [show (0 : BitVec 16) ||| failFlag (a.traffic.cmds.filter Cmd.posted).length = failFlag a.postCount from
    BitVec.zero_or] at h
  exact ⟨h.closed, h.serials, h.defects, h.flags, h.pass⟩

theorem Slot.finishCounts_shadows (h : a.Shadows b m) (cs : List Cmd) :
    a.Shadows (cs.foldl (fun x c => x.finishCount c.serial) b) m := by
  induction cs generalizing b with
  | nil => exact h
  | cons c cs ih => exact ih (h.finishCount c.serial)

/-- A pass that ends ABORTED where it was active (R51, R62). -/
def PassRecord.ended (p : PassRecord) : PassRecord := if p.active then p.abort else p

theorem Slot.abortPass_pass (sl : Slot) : sl.abortPass.pass = sl.pass.ended := by
  rw [Slot.abortPass, PassRecord.ended]
  split <;> rfl

theorem Slot.takeRuns_counts (rs : List Run) :
    (a.takeRuns now rs).pass = { a.pass with failures := (a.takeRuns now rs).pass.failures } := by
  induction rs generalizing a with
  | nil => rfl
  | cons r rs ih =>
    obtain ⟨n, hn⟩ := Slot.takeRun_pass now r a
    have := ih (a := a.takeRun now r)
    rw [hn] at this
    exact this

/-- Slot `v` has recorded that every command of slot `sl` ended with an entry to FAULTED, and has the flags `m` besides
(R55, R114, R126). -/
structure Slot.Records (now : Nat) (sl v : Slot) (m : BitVec 16) : Prop where
  defects : v.defects = (sl.takeRuns now sl.postRuns).defects
  flags   : v.events.flags = (sl.takeRuns now sl.postRuns).events.flags ||| failFlag sl.postCount ||| m
  pass    : ∃ n, v.pass = { (sl.takeRuns now sl.postRuns).pass.ended with outstanding := n }

theorem PassRecord.ended_outstanding (n : Nat) (p : PassRecord) :
    ({ p with outstanding := n } : PassRecord).ended = { p.ended with outstanding := n } := by
  cases h : p.active with
  | true =>
    rw [show p.ended = p.abort from if_pos h]
    exact if_pos h
  | false =>
    have h' : ¬p.active = true := by rw [h]; exact Bool.false_ne_true
    rw [show p.ended = p from if_neg h']
    exact if_neg h'

theorem Act.fault_flags (i : SlotId) (cause : FaultCause) (x : Act) :
    (x.fault i now cause).sl.events.flags = (x.sl.dropPosted now).events.flags ||| 0x8000 := by
  simp [Act.fault, EventFlag.bit]

/-- What the entry to FAULTED records (R126). -/
theorem Act.fault_records (i : SlotId) (cause : FaultCause) (a : Slot) :
    a.Records now ((Act.start a).fault i now cause).sl 0x8000 where
  defects := by rw [Act.fault_defects, Act.start_sl, (Slot.shadows_dropPosted now).defects]
  flags := by rw [Act.fault_flags, Act.start_sl, (Slot.shadows_dropPosted now).flags]
  pass := by
    have hcount (cs : List Cmd) (x : Slot) :
        ∃ n, (cs.foldl (fun x c => x.finishCount c.serial) x).pass = { x.pass with outstanding := n } :=
      (Slot.finishCounts_shadows (Slot.Shadows.refl x) cs).pass
    rw [Act.fault_pass_eq]
    obtain ⟨n, hn⟩ := hcount (inTagOrder (a.dropPosted now).abortPass.traffic.cmds) (a.dropPosted now).abortPass
    obtain ⟨k, hk⟩ := (Slot.shadows_dropPosted (a := a) now).pass
    exact ⟨n, by rw [Act.start_sl, hn, Slot.abortPass_pass, hk, PassRecord.ended_outstanding]⟩

/-- What a slot has recorded it has recorded of every slot that it shadows. -/
theorem Slot.Records.of_shadows {v : Slot} {f : BitVec 16} (h : b.Records now v m) (hs : a.Shadows b f)
    (hc : b.traffic.cmds = a.traffic.cmds) : a.Records now v (f ||| m) := by
  have hruns : b.postRuns = a.postRuns := by rw [Slot.postRuns, hc, Slot.postRuns]
  have hcount : b.postCount = a.postCount := by rw [Slot.postCount, hc, Slot.postCount]
  have ht := hs.takeRuns (now := now) a.postRuns
  obtain ⟨hd, hf, n, hp⟩ := h
  obtain ⟨k, hk⟩ := ht.pass
  rw [hruns] at hd hf hp
  refine ⟨hd.trans ht.defects, ?_, n, by rw [hp, hk, PassRecord.ended_outstanding]⟩
  rw [hf, ht.flags, hcount]
  ac_rfl

/-- The pass of a slot that has recorded the end of its commands. -/
theorem Slot.Records.pass_eq {v : Slot} (h : a.Records now v m) :
    v.pass = { a.pass with
      state := if a.pass.state = .running ∨ a.pass.state = .held then .aborted else a.pass.state
      holdHost := if a.pass.state = .running ∨ a.pass.state = .held then false else a.pass.holdHost
      holdThermal := if a.pass.state = .running ∨ a.pass.state = .held then false else a.pass.holdThermal
      failures := (a.takeRuns now a.postRuns).pass.failures
      outstanding := v.pass.outstanding } := by
  obtain ⟨n, hn⟩ := h.pass
  rw [hn, Slot.takeRuns_counts, PassRecord.ended]
  by_cases hactive : a.pass.state = .running ∨ a.pass.state = .held
  · have hp := PassRecord.active_iff.mpr hactive
    simp only [if_pos hactive]
    rw [if_pos (by exact hp)]
    rfl
  · have hp := mt PassRecord.active_iff.mp hactive
    simp only [if_neg hactive]
    rw [if_neg (by exact hp)]

/-- Flags that a word holds it holds with others beside them. -/
theorem and_of_or {x y bit : BitVec 16} (h : x &&& bit = bit) : (x ||| y) &&& bit = bit := by
  apply BitVec.eq_of_getElem_eq
  intro n hn
  have := congrArg (fun z : BitVec 16 => z[n]) h
  simp only [BitVec.getElem_and, BitVec.getElem_or] at this ⊢
  grind

theorem Slot.Records.keeps {v : Slot} {f : EventFlag} (h : a.Records now v m)
    (hf : (a.takeRuns now a.postRuns).HasFlag f) : v.HasFlag f := by
  rw [Slot.HasFlag, h.flags]
  exact and_of_or (and_of_or hf)

theorem Slot.Records.postFail {v : Slot} (h : a.Records now v m) (hp : a.postCount ≠ 0) : v.HasFlag .postFail := by
  rw [Slot.HasFlag, h.flags, failFlag, if_neg hp]
  exact and_of_or (or_and_self _ _)

/-- A flag among those that stand besides. -/
theorem Slot.Records.hasFlag {v : Slot} {f : EventFlag} (h : a.Records now v m) (hm : m &&& f.bit = f.bit) :
    v.HasFlag f := by
  rw [Slot.HasFlag, h.flags, BitVec.or_comm]
  exact and_of_or hm

/-- The records that the entry to FAULTED sends (R105, R126). -/
theorem Act.fault_out (i : SlotId) (cause : FaultCause) (a : Slot) :
    ((Act.start a).fault i now cause).out =
      (inTagOrder (a.traffic.cmds.filter fun c => !c.posted)).flatMap fun c =>
        (c.tag.map fun u =>
          if c.state = .atResponder then [.frame i a.gradeBlock, reply i u .good] else [reply i u .slotDown]).getD [] := by
  have hgrade : ((Act.start a).fault i now cause).sl.gradeBlock = a.gradeBlock := by
    rw [Slot.gradeBlock, Act.fault_closing, Act.start_sl, Slot.gradeBlock]
  have hended : (a.dropPosted now).abortPass.traffic.cmds = a.traffic.cmds.filter fun c => !c.posted := by
    rw [(Slot.abortPass_frame _).2.2.2.2.2.2.2.2.2.1, Slot.dropPosted_cmds]
  have hout : ((Act.start a).fault i now cause).out =
      endAll i .slotDown (some ((Act.start a).fault i now cause).sl.gradeBlock)
        (a.dropPosted now).abortPass.traffic.cmds := rfl
  rw [hout, hgrade, hended, endAll_answer]

end Shadow

end Sys2Proof.Machine

/-! PROOFS. The entries to FAULTED: the failures of a link (R122, R123, R130) and the trip (R141), each with a release
waiting and without (R166, R167). -/

namespace Sys2Proof.Machine

section Fault

variable {s : State} {i : SlotId} {cause : FaultCause}

theorem State.testRelease_shelf (s : State) (i : SlotId) : (s.testRelease i).shelf = s.shelf := by
  unfold State.testRelease
  split <;> rfl

theorem State.testRelease_upstream (s : State) (i : SlotId) : (s.testRelease i).upstream = s.upstream := by
  unfold State.testRelease
  split <;> rfl

theorem State.faultSlot_shelf : (s.faultSlot i cause).shelf = s.shelf := State.testRelease_shelf _ i

/-- The records that the entry to FAULTED sends for the commands of a slot. -/
def Slot.downRecords (i : SlotId) (sl : Slot) : List Upstream :=
  (inTagOrder (sl.traffic.cmds.filter fun c => !c.posted)).flatMap fun c =>
    (c.tag.map fun u =>
      if c.state = .atResponder then [.frame i sl.gradeBlock, reply i u .good] else [reply i u .slotDown]).getD []

theorem State.faultSlot_upstream : (s.faultSlot i cause).upstream = s.upstream ++ (s.slot i).downRecords i :=
  (State.testRelease_upstream _ i).trans (congrArg (s.upstream ++ ·) (Act.fault_out i cause (s.slot i)))

/-- The slot after the entry to FAULTED, no release waiting. -/
theorem State.faultSlot_waits (h : (s.slot i).closing.releasePending = false) :
    (s.faultSlot i cause).slot i = ((Act.start (s.slot i)).fault i s.shelf.clock cause).sl := by
  have hpending : ((Act.start (s.slot i)).fault i s.now cause).sl.closing.releasePending = false := by
    rw [Act.fault_closing]; exact h
  rw [State.faultSlot_slot, Slot.faulted]
  exact if_neg (by rw [hpending]; exact Bool.false_ne_true)

/-- The slot after the entry to FAULTED, with the release that waited complete (R167). -/
theorem State.faultSlot_releases (h : (s.slot i).closing.releasePending = true) :
    (s.faultSlot i cause).slot i =
      ((Act.start (s.slot i)).fault i s.shelf.clock cause).sl.completeRelease s.shelf.bins := by
  have hpending : ((Act.start (s.slot i)).fault i s.now cause).sl.closing.releasePending = true := by
    rw [Act.fault_closing]; exact h
  rw [State.faultSlot_slot, Slot.faulted]
  exact if_pos hpending

theorem GradingStep.afterFault_eq (g : GradingStep) : g.afterFault = if g = .computing then .computing else .none := by
  cases g <;> rfl

/-- The release of a slot that has just faulted fixes verdict FAULT (R167, R168). -/
theorem Slot.completeRelease_verdict {sl : Slot} {bins : List BinEntry} (h : sl.sup.phase = .faulted) :
    (sl.completeRelease bins).closing.verdict = .fault := Slot.verdictAt_faulted h

theorem Slot.Records.completeRelease {now : Nat} {a v : Slot} {m : BitVec 16} (h : a.Records now v m)
    (bins : List BinEntry) : a.Records now (v.completeRelease bins) (m ||| 0x2000) :=
  ⟨h.defects, (congrArg (· ||| 0x2000) h.flags).trans (BitVec.or_assoc ..), h.pass⟩

/-- What a slot records does not depend on its link and its timing record. -/
theorem Slot.Records.of_link {now : Nat} {a v : Slot} {m : BitVec 16} {l : Link} {q : Timing}
    (h : ({ a with link := l, timing := q } : Slot).Records now v m) : a.Records now v m := by
  have hr := h.of_shadows (a := a) (f := 0) (.of_eq rfl rfl rfl BitVec.or_zero.symm rfl) rfl
  rwa [show (0 : BitVec 16) ||| m = m from BitVec.zero_or] at hr

end Fault

/-- Settles O39: each of the three events is the entry to FAULTED of a slot whose link alone has moved. -/
theorem linkFailuresFaultTheSlot : Obligations.LinkFailuresFaultTheSlot := by
  intro s i sl active records runs recorded faulted released
  -- The slot as the entry to FAULTED finds it: `sl` but for its link and its timing record.
  have recordedOf {t : State} {u : State} {l : Link} {q : Timing} {m : BitVec 16}
      (hu : u.slot i = { sl with link := l, timing := q }) (hshelf : t.shelf = u.shelf)
      (h : (u.slot i).Records u.shelf.clock (t.slot i) m) : sl.Records t.shelf.clock (t.slot i) m := by
    rw [hu, ← hshelf] at h
    exact h.of_link
  have recordedIs {t : State} {m : BitVec 16} (h : sl.Records t.shelf.clock (t.slot i) m) : recorded t :=
    ⟨h.defects, fun f => h.keeps, h.pass_eq⟩
  have releases {u : State} {l : Link} {q : Timing} (cause : FaultCause) (hr : sl.closing.releasePending = true)
      (hu : u.slot i = { sl with link := l, timing := q }) (hup : u.upstream = s.upstream) :
      released (u.faultSlot i cause) := by
    have hr' : (u.slot i).closing.releasePending = true := by rw [hu]; exact hr
    have hslot := State.faultSlot_releases (cause := cause) hr'
    have hrec := recordedOf (m := 0xA000) hu State.faultSlot_shelf (by
      rw [hslot]; exact (Act.fault_records i cause (u.slot i)).completeRelease u.shelf.bins)
    have hphase := congrArg Supervisor.phase (Act.fault_sup i u.shelf.clock cause (Act.start (u.slot i)))
    refine ⟨recordedIs hrec, hrec.postFail, ?_, ?_, ?_, ?_, ?_, hrec.hasFlag (by decide), hrec.hasFlag (by decide), ?_, ?_⟩
    · rw [hslot]; rfl
    · rw [hslot]; rfl
    · rw [hslot]; exact Slot.completeRelease_verdict hphase
    · rw [hslot]; rfl
    · rw [hslot]; rfl
    · rw [hslot]; exact Act.fault_traffic i u.shelf.clock cause (Act.start (u.slot i))
    · rw [State.faultSlot_upstream, hup, hu]; rfl
  have faults {u : State} {l : Link} {q : Timing} (cause : FaultCause) (hr : sl.closing.releasePending = false)
      (hu : u.slot i = { sl with link := l, timing := q }) (hup : u.upstream = s.upstream) :
      faulted (u.faultSlot i cause) cause ∧ ((u.faultSlot i cause).slot i).link = l.abandon ∧
        ((u.faultSlot i cause).slot i).timing = q := by
    have hr' : (u.slot i).closing.releasePending = false := by rw [hu]; exact hr
    have hslot := State.faultSlot_waits (cause := cause) hr'
    have hrec := recordedOf (m := 0x8000) hu State.faultSlot_shelf (by
      rw [hslot]; exact Act.fault_records i cause (u.slot i))
    obtain ⟨hmon, hident, hkey, hpending, hactive, hzmap, htally, htiming, hcommand, htraffic, hsup⟩ :=
      Act.fault_frame i u.shelf.clock cause (Act.start (u.slot i))
    have hlink := Act.fault_link i u.shelf.clock cause (Act.start (u.slot i))
    have hclosing := Act.fault_closing i u.shelf.clock cause (Act.start (u.slot i))
    have hmask := Act.fault_mask (now := u.shelf.clock) i cause (Act.start (u.slot i))
    rw [← hslot] at hmon hident hkey hpending hactive hzmap htally htiming hcommand htraffic hsup hlink hclosing hmask
    rw [Act.start_sl, hu] at hmon hident hkey hpending hactive hzmap htally htiming hcommand hsup hlink hclosing hmask
    have hpass := hrec.pass_eq
    refine ⟨⟨recordedIs hrec, hsup, hrec.hasFlag (by decide), hrec.postFail, hrec.flags, ?_, hmon, hident, hkey, hpending,
      hactive, hzmap, htally, hcommand, hmask, htraffic, ?_, fun ha => ?_, fun ha => ?_, ?_⟩, hlink, htiming⟩
    · rw [hclosing, GradingStep.afterFault_eq]
    · rw [hlink]; rfl
    · rw [hpass]
      exact ⟨if_pos ha, if_pos ha, if_pos ha⟩
    · rw [hpass]
      exact if_neg ha
    · rw [State.faultSlot_upstream, hup, hu]; rfl
  have advanced (due : Option Nat) : (s.advanceTo due).slot i = { sl with link := sl.link, timing := sl.timing } :=
    State.advanceTo_slot due s i
  have hreset : (s.modSlot i Slot.resetDone).slot i = { sl with
      link := { sl.link with state := .up, upDeadline := none }
      timing := { sl.timing with consecutive := sl.timing.consecutive + 1 } } := State.slot_modSlot ..
  have third (hp : sl.sup.power = true) (hl : sl.link.state = .resetting) (h3 : 3 ≤ sl.timing.consecutive + 1) :
      exec (.linkUp i) s = .next ((s.modSlot i Slot.resetDone).faultSlot i .resetLimit) := by
    have hpowered : ¬(s.slot i).sup.power = false := fun h => Bool.noConfusion (h.symm.trans hp)
    have hl' : (s.slot i).link.state = .resetting := hl
    refine congrArg Host.Outcome.next ?_
    rw [State.linkUp]
    simp only [if_neg hpowered, hl', hreset]
    exact if_pos h3
  have upExpires (hl : sl.link.state = .resetting) :
      exec (.linkUpDeadlineExpiry i) s = .next ((s.advanceTo sl.link.upDeadline).faultSlot i .linkLost) :=
    congrArg Host.Outcome.next (if_pos hl)
  have attachExpires (hp : sl.sup.phase = .attaching) (hd : sl.sup.attachDeadline.isSome = true) :
      exec (.attachLinkDeadlineExpiry i) s = .next ((s.advanceTo sl.sup.attachDeadline).faultSlot i .linkLost) :=
    congrArg Host.Outcome.next (if_pos ⟨hp, hd⟩)
  refine ⟨fun hr => ⟨fun hp hl h3 => ⟨_, third hp hl h3, releases _ hr hreset rfl⟩,
      fun hl => ⟨_, upExpires hl, releases _ hr (advanced _) (State.advanceTo_upstream _ s)⟩,
      fun hp hd => ⟨_, attachExpires hp hd, releases _ hr (advanced _) (State.advanceTo_upstream _ s)⟩⟩,
    fun hr => ⟨fun hp hl h3 => ?third, fun hl => ?upDeadline, fun hp hd hl => ?attach, fun hl => ?stays, fun h => ?still⟩⟩
  case third =>
    obtain ⟨hfaulted, hlink, htiming⟩ := faults .resetLimit hr hreset rfl
    exact ⟨_, third hp hl h3, hfaulted, by rw [hlink]; rfl, htiming, State.faultSlot_shelf⟩
  case upDeadline =>
    obtain ⟨hfaulted, hlink, htiming⟩ := faults .linkLost hr (advanced sl.link.upDeadline) (State.advanceTo_upstream _ s)
    exact ⟨_, upExpires hl, hfaulted, by rw [hlink, Link.abandon]; exact if_pos hl, htiming⟩
  case attach =>
    obtain ⟨hfaulted, hlink, htiming⟩ := faults .linkLost hr (advanced sl.sup.attachDeadline) (State.advanceTo_upstream _ s)
    have hdown : ¬sl.link.state = .resetting := by rw [hl]; exact LinkState.noConfusion
    exact ⟨_, attachExpires hp hd, hfaulted, by rw [hlink, Link.abandon]; exact (if_neg hdown).trans hl, htiming⟩
  case stays => exact congrArg Host.Outcome.next (if_neg hl)
  case still =>
    refine congrArg Host.Outcome.next (if_neg ?_)
    rintro ⟨hp, hd⟩
    rcases h with h | h
    · exact h hp
    · have hd' : sl.sup.attachDeadline.isSome = true := hd
      rw [h] at hd'
      cases hd'

end Sys2Proof.Machine

/-! PROOFS. The trip (R141): with a release waiting and without, and on a slot already FAULTED. -/

namespace Sys2Proof.Machine

section Trip

variable {s : State} {i : SlotId} {sl : Slot} {current : BitVec 32} {temp : BitVec 16} {level : Nat}

/-- The slot that a tripping sample leaves without power: the sample is taken, then the power is off (R141). -/
def Slot.sampledOff (current : BitVec 32) (temp : BitVec 16) (sl : Slot) : Slot :=
  (sl.scheduleSample.sample current temp).tripPower

/-- The supervisor's record of a slot whose power a trip has switched off. -/
theorem Slot.sampledOff_sup : (sl.sampledOff current temp).sup =
    { sl.sup with power := false, warning := false, nextSample := none, graceEnd := none, attachDeadline := none } := by
  rw [Slot.sampledOff, Slot.tripPower, Slot.modSup_sup, Slot.powerOff]
  simp [Slot.scheduleSample]

theorem Slot.sampledOff_mon :
    (sl.sampledOff current temp).mon.current = current ∧ (sl.sampledOff current temp).mon.temp = temp := by
  rw [Slot.sampledOff, (Slot.tripPower_frame _).1, Slot.sample, Slot.raiseIf_mon]
  exact ⟨rfl, rfl⟩

theorem Slot.sampledOff_link :
    (sl.sampledOff current temp).link = { sl.link with state := .down, upDeadline := none } := by
  rw [Slot.sampledOff, Slot.tripPower, Slot.modSup_link, Slot.powerOff]
  simp

/-- A tripping sample leaves these records of the slot alone. -/
theorem Slot.sampledOff_frame :
    (sl.sampledOff current temp).ident = sl.ident ∧ (sl.sampledOff current temp).key = sl.key ∧
      (sl.sampledOff current temp).pending = sl.pending ∧ (sl.sampledOff current temp).active = sl.active ∧
      (sl.sampledOff current temp).tally = sl.tally ∧ (sl.sampledOff current temp).zmap = sl.zmap ∧
      (sl.sampledOff current temp).timing = sl.timing ∧ (sl.sampledOff current temp).command = sl.command ∧
      (sl.sampledOff current temp).traffic = sl.traffic ∧ (sl.sampledOff current temp).pass = sl.pass ∧
      (sl.sampledOff current temp).defects = sl.defects ∧ (sl.sampledOff current temp).closing = sl.closing := by
  simp [Slot.sampledOff]

/-- A sample raises SENSE or no flag. -/
theorem Slot.sampledOff_events : ∃ m : BitVec 16, (m = 0 ∨ m = 0x0200) ∧
    (sl.sampledOff current temp).events = { sl.events with flags := sl.events.flags ||| m } := by
  have hevents : (sl.sampledOff current temp).events = (sl.scheduleSample.sample current temp).events := by
    simp [Slot.sampledOff]
  cases hx : sl.scheduleSample.currentExcursion current || sl.scheduleSample.tempExcursion temp with
  | true =>
    refine ⟨0x0200, .inr rfl, ?_⟩
    rw [hevents, Slot.sample, Slot.raiseIf_eq, hx]; rfl
  | false =>
    refine ⟨0, .inl rfl, ?_⟩
    rw [hevents, Slot.sample, Slot.raiseIf_eq, hx, show sl.events.flags ||| 0 = sl.events.flags from BitVec.or_zero]; rfl

/-- A sample at or above the trip level trips the slot. -/
theorem exec_sampleEvent_trips (hp : (s.slot i).sup.power = true)
    (hl : tripLevel (s.slot i).active.tripCode = some level) (h : level ≤ current.toNat) :
    exec (.sampleEvent i current temp) s =
      .next ((((s.advanceTo (s.slot i).sup.nextSample).setSlot i ((s.slot i).sampledOff current temp)).tripFault i).modSlot i
        (Slot.raise .trip)) := by
  refine congrArg Host.Outcome.next ?_
  have htrips : ((s.slot i).scheduleSample.sample current temp).trips current = true :=
    Slot.trips_of (by simpa using hl) h
  rw [State.sampleSlot, if_pos hp]
  simp only [State.slot_modSlot, State.advanceTo_slot, htrips, if_true, State.trip_eq]
  simp only [State.modSlot, State.advanceTo_slot, State.slot_setSlot, State.setSlot_setSlot]
  rfl

theorem Slot.Records.raise {now : Nat} {a v : Slot} {m : BitVec 16} (h : a.Records now v m) (f : EventFlag) :
    a.Records now (v.raise f) (m ||| f.bit) :=
  ⟨h.defects, (congrArg (· ||| f.bit) h.flags).trans (BitVec.or_assoc ..), h.pass⟩

/-- A flag that other flags do not hold was there before them. -/
theorem and_of_or_disjoint {x y bit : BitVec 16} (hy : y &&& bit = 0) (h : (x ||| y) &&& bit = bit) :
    x &&& bit = bit := by
  apply BitVec.eq_of_getElem_eq
  intro n hn
  have h1 := congrArg (fun z : BitVec 16 => z[n]) h
  have h2 := congrArg (fun z : BitVec 16 => z[n]) hy
  simp only [BitVec.getElem_and, BitVec.getElem_or, BitVec.ofNat_eq_ofNat, BitVec.getElem_zero] at h1 h2 ⊢
  grind

end Trip

/-- Settles O43. -/
theorem tripSwitchesThePowerOff : Obligations.TripSwitchesThePowerOff := by
  intro s i current temp level sl active down runs ended hp hl hlevel
  have htrip := exec_sampleEvent_trips (temp := temp) hp hl hlevel
  obtain ⟨m, hm, hevents⟩ := Slot.sampledOff_events (sl := sl) (current := current) (temp := temp)
  obtain ⟨hident, hkey, hpending, hactive, htally, hzmap, htiming, hcommand, htraffic, hpass, hdefects, hclosing⟩ :=
    Slot.sampledOff_frame (sl := sl) (current := current) (temp := temp)
  obtain ⟨hcurrent, htemp⟩ := Slot.sampledOff_mon (sl := sl) (current := current) (temp := temp)
  have hsup := Slot.sampledOff_sup (sl := sl) (current := current) (temp := temp)
  have hlink := Slot.sampledOff_link (sl := sl) (current := current) (temp := temp)
  have hgrade : (sl.sampledOff current temp).gradeBlock = sl.gradeBlock := by
    rw [Slot.gradeBlock, hclosing, Slot.gradeBlock]
  have hshadows : sl.Shadows (sl.sampledOff current temp) m :=
    .of_eq (by rw [hsup]) (by rw [htally]) hdefects (by rw [hevents]) hpass
  have hslot : ((s.advanceTo sl.sup.nextSample).setSlot i (sl.sampledOff current temp)).slot i =
      sl.sampledOff current temp := State.slot_setSlot ..
  have hup : ((s.advanceTo sl.sup.nextSample).setSlot i (sl.sampledOff current temp)).upstream = s.upstream :=
    State.advanceTo_upstream _ s
  change exec (.sampleEvent i current temp) s = .next ((((s.advanceTo sl.sup.nextSample).setSlot i
    (sl.sampledOff current temp)).tripFault i).modSlot i (Slot.raise .trip)) at htrip
  generalize (s.advanceTo sl.sup.nextSample).setSlot i (sl.sampledOff current temp) = u at htrip hslot hup
  generalize hb : sl.sampledOff current temp = b at *
  have hphase : b.sup.phase = sl.sup.phase := by rw [hsup]
  have hfaults (hf : sl.sup.phase ≠ .faulted) : u.tripFault i = u.faultSlot i .trip := by
    rw [State.tripFault, if_neg (by rw [hslot, hphase]; exact hf)]
  have hrecords : b.gradeBlock = sl.gradeBlock → b.downRecords i = down := fun h => by
    rw [Slot.downRecords, htraffic, h]
  -- What a slot that was not FAULTED has recorded, with the flags `f` of its entry to FAULTED and of its release.
  have endedIs {f : BitVec 16} {v : Slot} (hf : sl.sup.phase ≠ .faulted) (hv : (u.faultSlot i .trip).slot i = v)
      (h : b.Records u.shelf.clock v f) (htr : v.traffic = { cmds := [], heldTags := [], jobs := [] }) :
      ended ((u.tripFault i).modSlot i (Slot.raise .trip)) := by
    have hrec := (h.of_shadows hshadows (by rw [htraffic])).raise .trip
    rw [← State.faultSlot_shelf (s := u) (i := i) (cause := .trip)] at hrec
    have hslot' : ((u.faultSlot i .trip).modSlot i (Slot.raise .trip)).slot i = v.raise .trip := by
      rw [State.slot_modSlot, hv]
    rw [hfaults hf]
    refine ⟨?_, fun f hfl => ?_, fun hn => ?_, ?_, ?_, ?_⟩
    · rw [hslot']; exact hrec.defects
    · rw [hslot']; exact hrec.keeps hfl
    · rw [hslot']; exact hrec.postFail hn
    · rw [hslot']; exact hrec.pass_eq
    · rw [hslot']; exact htr
    · show (u.faultSlot i .trip).upstream = _
      rw [State.faultSlot_upstream, hslot, hup, hrecords hgrade]
  refine ⟨fun hr hf => ⟨_, htrip, ?released⟩, fun hr => ⟨_, htrip, ?faulted⟩⟩
  case released =>
    have hv := State.faultSlot_releases (s := u) (i := i) (cause := .trip) (by rw [hslot, hclosing]; exact hr)
    rw [hslot] at hv
    have hrec := (Act.fault_records (now := u.shelf.clock) i .trip b).completeRelease u.shelf.bins
    have hs := Act.fault_sup i u.shelf.clock .trip (Act.start b)
    have htr := Act.fault_traffic i u.shelf.clock .trip (Act.start b)
    have hended := endedIs hf hv hrec htr
    have hslot' : ((u.tripFault i).modSlot i (Slot.raise .trip)).slot i =
        (((Act.start b).fault i u.shelf.clock .trip).sl.completeRelease u.shelf.bins).raise .trip := by
      rw [hfaults hf, State.slot_modSlot, hv]
    have hflags := hrec.raise .trip
    refine ⟨?_, ?_, ?_, ?_, ?_, ?_, ?_, ?_, ?_, hended⟩
    all_goals rw [hslot']
    · rfl
    · exact congrArg Supervisor.cause hs
    · rfl
    · exact Slot.completeRelease_verdict (congrArg Supervisor.phase hs)
    · rfl
    · rfl
    · exact hflags.hasFlag (by decide)
    · exact hflags.hasFlag (by decide)
    · exact hflags.hasFlag (by decide)
  case faulted =>
    have hentered (hf : sl.sup.phase ≠ .faulted) : (u.tripFault i).slot i =
        ((Act.start b).fault i u.shelf.clock .trip).sl := by
      rw [hfaults hf, State.faultSlot_waits (by rw [hslot, hclosing]; exact hr), hslot]
    have hcaused (hf : sl.sup.phase = .faulted) : u.tripFault i =
        u.setSlot i (b.modSup fun u => { u with cause := some .trip }) := by
      rw [State.tripFault, if_pos (by rw [hslot, hphase]; exact hf), State.modSlot, hslot]
    -- What the slot is in both cases, before TRIP is raised.
    have hboth : ((u.tripFault i).slot i).sup = { b.sup with phase := .faulted, cause := some .trip } ∧
        ((u.tripFault i).slot i).link.state = .down ∧ ((u.tripFault i).slot i).link.upDeadline = none ∧
        ((u.tripFault i).slot i).mon = b.mon ∧ ((u.tripFault i).slot i).ident = b.ident ∧
        ((u.tripFault i).slot i).key = b.key ∧ ((u.tripFault i).slot i).pending = b.pending ∧
        ((u.tripFault i).slot i).active = b.active ∧ ((u.tripFault i).slot i).tally = b.tally ∧
        ((u.tripFault i).slot i).zmap = b.zmap ∧ ((u.tripFault i).slot i).timing = b.timing ∧
        ((u.tripFault i).slot i).command = b.command ∧ ((u.tripFault i).slot i).events.mask = b.events.mask := by
      by_cases hf : sl.sup.phase = .faulted
      · rw [hcaused hf, State.slot_setSlot, ← hphase.trans hf]
        exact ⟨rfl, by rw [Slot.modSup_link, hlink], by rw [Slot.modSup_link, hlink], rfl, rfl, rfl, rfl, rfl, rfl, rfl,
          rfl, rfl, rfl⟩
      · obtain ⟨f1, f2, f3, f4, f5, f6, f7, f8, f9, -, f11⟩ := Act.fault_frame i u.shelf.clock .trip (Act.start b)
        rw [hentered hf, Act.fault_link, Act.start_sl, hlink, Act.fault_mask]
        refine ⟨?_, rfl, rfl, f1, f2, f3, f4, f5, f7, f6, f8, f9, rfl⟩
        rw [f11, Act.start_sl, hsup]
    obtain ⟨wsup, wdown, wdeadline, wmon, wident, wkey, wpending, wactive, wtally, wzmap, wtiming, wcommand, wmask⟩ := hboth
    rw [hsup] at wsup
    have hslot' : ((u.tripFault i).modSlot i (Slot.raise .trip)).slot i = ((u.tripFault i).slot i).raise .trip :=
      State.slot_modSlot ..
    refine ⟨?_, ?_, ?_, ?_, ?_, ?_, ?_, ?_, ?_, ?_, ?_, ?_, ?_, ?_, ?_, ?_, ?_, ?_, ?_, ?_, ?_, ?_, fun hf => ?enters,
      fun hf => ?stays⟩
    case enters =>
      have hrec := Act.fault_records (now := u.shelf.clock) i .trip b
      have hv := hentered hf
      rw [hfaults hf] at hv
      refine ⟨?_, endedIs hf hv hrec (Act.fault_traffic i u.shelf.clock .trip (Act.start b)), ?_⟩
      · rw [hslot', hentered hf]
        exact (hrec.raise .trip).hasFlag (by decide)
      · rw [hslot', Slot.raise_closing, hentered hf, Act.fault_closing, Act.start_sl, hclosing,
          GradingStep.afterFault_eq]
    case stays =>
      rw [hslot', hcaused hf, State.slot_setSlot]
      refine ⟨htraffic, hpass, hdefects, hclosing, hup, ?_⟩
      refine or_iff_not_imp_left.mpr fun hn h => hn (and_of_or_disjoint (y := m ||| EventFlag.trip.bit) ?_ ?_)
      · rcases hm with rfl | rfl <;> rfl
      · rw [← BitVec.or_assoc]
        rwa [Slot.HasFlag, Slot.raise_events, Slot.modSup_events, hevents] at h
    all_goals rw [hslot']
    · exact congrArg Supervisor.phase wsup
    · exact congrArg Supervisor.cause wsup
    · exact congrArg Supervisor.power wsup
    · exact congrArg Supervisor.graceEnd wsup
    · exact congrArg Supervisor.attachDeadline wsup
    · exact congrArg Supervisor.warning wsup
    · exact congrArg Supervisor.nextSample wsup
    · rw [Slot.raise_sup, wsup]
    · exact wdown
    · exact wdeadline
    · rw [Slot.raise_mon, wmon, hcurrent]
    · rw [Slot.raise_mon, wmon, htemp]
    · rw [Slot.HasFlag, Slot.raise_events]
      exact or_and_self _ _
    · exact wident.trans hident
    · exact wkey.trans hkey
    · exact wpending.trans hpending
    · exact wactive.trans hactive
    · exact wtally.trans htally
    · exact wzmap.trans hzmap
    · exact wtiming.trans htiming
    · exact wcommand.trans hcommand
    · rw [Slot.raise_events, wmask, hevents]

end Sys2Proof.Machine

/-! PROOFS. A drive link reset (R112, R119, R120, R125): the commands it takes back, what it records of a slot, and how the
tests at its end leave the slot. -/

namespace Sys2Proof.Machine

/-! ## The commands taken back -/

section Commands

variable {a : Slot} {c d : Cmd} {cs : List Cmd} {now : Nat}

/-- What the cancellation of posted write `c` leaves of command `d` (R112). -/
def Cmd.afterCancel (c d : Cmd) : Option Cmd :=
  if d.posted && d.state == .atDrive && d.driveTag == c.driveTag then
    if c.reissues = 0 then some { d with state := .cancelled, reissues := 1, deadline := none } else none
  else some d

/-- What the cancellations of posted writes, one after the other, leave of command `d`. -/
def Cmd.afterCancels : List Cmd → Cmd → Option Cmd
  | [], d => some d
  | c :: cs, d => (c.afterCancel d).bind (Cmd.afterCancels cs)

/-- What a drive link reset leaves of a command (R112, R120). -/
def Cmd.keptByReset (d : Cmd) : Option Cmd :=
  if d.isAtDrive then
    if d.posted && d.reissues == 0 then some { d with state := .cancelled, reissues := 1, deadline := none } else none
  else some d

theorem Cmd.afterCancel_other (h : (d.posted && d.state == .atDrive && d.driveTag == c.driveTag) = false) :
    c.afterCancel d = some d := if_neg (by rw [h]; exact Bool.false_ne_true)

theorem Slot.cancelPosted_cmds (c : Cmd) :
    (Slot.cancelPosted now a c).traffic =
      { a.traffic with cmds := a.traffic.cmds.filterMap c.afterCancel } := by
  unfold Slot.cancelPosted
  dsimp only
  split
  · next hr =>
    have hmap : (fun d : Cmd => c.afterCancel d) = some ∘ fun d =>
        if d.posted && d.state == .atDrive && d.driveTag == c.driveTag then
          { d with state := .cancelled, reissues := 1, deadline := none } else d := by
      funext d
      rw [Cmd.afterCancel, if_pos hr, Function.comp_apply]
      split <;> rfl
    rw [show c.afterCancel = _ from hmap, List.filterMap_eq_map]
    rfl
  · next hr =>
    have hfilter : (fun d : Cmd => c.afterCancel d) = Option.guard fun d =>
        !(d.posted && d.state == .atDrive && d.driveTag == c.driveTag) := by
      funext d
      rw [Cmd.afterCancel, if_neg hr, Option.guard]
      cases d.posted && d.state == .atDrive && d.driveTag == c.driveTag <;> rfl
    rw [show c.afterCancel = _ from hfilter, List.filterMap_eq_filter, Slot.finish_traffic, Slot.modCmds_traffic,
      Slot.raise_traffic, (Slot.takeRun_frame now _ a).2.2.2.2.2.2.2.2.1]

theorem Slot.cancelAll_traffic (cs : List Cmd) :
    (cs.foldl (Slot.cancelPosted now) a).traffic =
      { a.traffic with cmds := a.traffic.cmds.filterMap (Cmd.afterCancels cs) } := by
  induction cs generalizing a with
  | nil => rw [show Cmd.afterCancels [] = some from rfl, List.filterMap_some]; rfl
  | cons c cs ih =>
    rw [List.foldl_cons, ih, Slot.cancelPosted_cmds, List.filterMap_filterMap]
    rfl

theorem Cmd.afterCancels_away (h : (d.posted && d.state == .atDrive) = false) : Cmd.afterCancels cs d = some d := by
  induction cs with
  | nil => rfl
  | cons c cs ih => rw [Cmd.afterCancels, Cmd.afterCancel_other (by rw [h, Bool.false_and])]; exact ih

/-- A posted write at the drive, under a drive tag of its own, is cancelled by its own cancellation alone. -/
theorem Cmd.afterCancels_posted (h : (d.posted && d.state == .atDrive) = true) (hd : d ∈ cs)
    (hu : ∀ c ∈ cs, c.driveTag = d.driveTag → c = d) :
    Cmd.afterCancels cs d =
      if d.reissues = 0 then some { d with state := .cancelled, reissues := 1, deadline := none } else none := by
  induction cs with
  | nil => cases hd
  | cons c cs ih =>
    rw [Cmd.afterCancels]
    by_cases hc : c.driveTag = d.driveTag
    · rw [hu c List.mem_cons_self hc, Cmd.afterCancel, if_pos (by rw [h]; exact beq_self_eq_true _)]
      split
      · exact Cmd.afterCancels_away (by rw [Bool.and_eq_false_iff]; exact .inr rfl)
      · rfl
    · have hne : d ≠ c := fun h => hc (by rw [h])
      have hother : (d.posted && d.state == .atDrive && d.driveTag == c.driveTag) = false := by
        rw [h, Bool.true_and, beq_eq_false_iff_ne]
        exact fun h => hc h.symm
      rw [Cmd.afterCancel_other hother]
      exact ih ((List.mem_cons.mp hd).resolve_left hne) fun e he => hu e (List.mem_cons_of_mem c he)

/-- The commands a drive link reset leaves, the posted writes cancelled and the unposted commands ended. -/
theorem keptByReset_eq (hu : Apart Cmd.driveTag cs) (hw : ∀ c ∈ cs, c.isAtDrive = true → c.driveTag.isSome = true) :
    (cs.filterMap (Cmd.afterCancels ((cs.filter Cmd.isAtDrive).filter Cmd.posted))).filter
        (fun c => !(c.isAtDrive && !c.posted)) =
      cs.filterMap Cmd.keptByReset := by
  rw [← List.filterMap_eq_filter, List.filterMap_filterMap]
  refine List.filterMap_congr fun d hd => ?_
  cases hat : d.isAtDrive with
  | false =>
    rw [Cmd.afterCancels_away (by rw [Bool.and_eq_false_iff]; exact .inr hat), Cmd.keptByReset, hat]
    simp [Option.guard, hat]
  | true =>
    cases hp : d.posted with
    | false =>
      rw [Cmd.afterCancels_away (by rw [hp]; rfl), Cmd.keptByReset, hat, hp]
      simp [Option.guard, hat, hp]
    | true =>
      have hmem : d ∈ (cs.filter Cmd.isAtDrive).filter Cmd.posted := by simp [hd, hat, hp]
      have hown : ∀ c ∈ (cs.filter Cmd.isAtDrive).filter Cmd.posted, c.driveTag = d.driveTag → c = d :=
        fun c hc he => by
          obtain ⟨tag, htag⟩ := Option.isSome_iff_exists.mp (hw d hd hat)
          have hc' : c ∈ cs := List.mem_of_mem_filter (List.mem_of_mem_filter hc)
          exact eq_of_key hu hc' hd (he.trans htag) htag
      rw [Cmd.afterCancels_posted (by rw [hp]; exact hat) hmem hown, Cmd.keptByReset, hat, hp]
      by_cases hr : d.reissues = 0
      · simp [Option.guard, hr, Cmd.isAtDrive]
      · simp [hr]

end Commands

/-! ## What a drive link reset records -/

section Trail

variable {a b : Slot} {f : BitVec 16} {now : Nat}

/-- Pass control's test ends nothing of the slot. -/
def Slot.Still (sl : Slot) : Prop := sl.pass.state ≠ .running ∨ sl.pass.remaining ≠ 0

/-- Slot `b` has gone on from slot `a`, which takes the same runs: it has the flags `f`; and it differs in the outstanding
count alone where no pass could end meanwhile. -/
structure Slot.Trails (a b : Slot) (f : BitVec 16) : Prop where
  closed  : b.sup.closed = a.sup.closed
  serials : b.tally.serials = a.tally.serials
  defects : b.defects = a.defects
  flags   : ∃ m, b.events.flags = a.events.flags ||| f ||| m
  still   : a.Still → b.events.flags = a.events.flags ||| f ∧ b.sup = a.sup ∧ b.zmap = a.zmap ∧ b.tally = a.tally ∧
    ∃ n, b.pass = { a.pass with outstanding := n }

/-- Slots with the same flags, table, pass and supervisor's record take runs alike. -/
theorem Slot.Trails.of_same (hf : b.events = a.events) (hd : b.defects = a.defects) (hs : b.sup = a.sup)
    (hz : b.zmap = a.zmap) (ht : b.tally = a.tally) (hp : b.pass = a.pass) : a.Trails b 0 where
  closed := by rw [hs]
  serials := by rw [ht]
  defects := hd
  flags := ⟨0, by rw [hf, BitVec.or_assoc]; exact BitVec.or_zero.symm⟩
  still _ := ⟨by rw [hf]; exact BitVec.or_zero.symm, hs, hz, ht, a.pass.outstanding, by rw [hp]⟩

/-- An operation that reaches neither flags nor table, nor pass, map and supervisor's record. -/
theorem Slot.Trails.then_same {c : Slot} (h : a.Trails b f) (hf : c.events = b.events) (hd : c.defects = b.defects)
    (hs : c.sup = b.sup) (hz : c.zmap = b.zmap) (ht : c.tally = b.tally) (hp : c.pass = b.pass) : a.Trails c f where
  closed := by rw [hs, h.closed]
  serials := by rw [ht, h.serials]
  defects := by rw [hd, h.defects]
  flags := by rw [hf]; exact h.flags
  still hstill := by rw [hf, hs, hz, ht, hp]; exact h.still hstill

theorem Slot.Trails.modCmds (h : a.Trails b f) (g : List Cmd → List Cmd) : a.Trails (b.modCmds g) f :=
  h.then_same rfl rfl rfl rfl rfl rfl

/-- The flags that a run raises, by the closed flag, the serial counter and the extents (R75, R76, R79). -/
def runFlags (now : Nat) (r : Run) (closed : Bool) (serials : Nat) (es : List Extent) : BitVec 16 :=
  let x := insertRun r serials (now / 1000) es
  if closed then 0
  else (if x.recorded = true ∨ confirmsByHit r serials es = true then 0x0020 else 0) ||| if x.lost = 0 then 0 else 0x0040

theorem Slot.takeRun_flags (r : Run) : (a.takeRun now r).events.flags =
    a.events.flags ||| runFlags now r a.sup.closed a.tally.serials a.defects.extents := by
  have hzero (w : BitVec 16) : w ||| 0 = w := BitVec.or_zero
  cases h : a.sup.closed with
  | true => rw [Slot.takeRun_closed now r h, runFlags, if_pos rfl, hzero]
  | false =>
    rw [Slot.takeRun_open now r h, runFlags, if_neg Bool.false_ne_true]
    dsimp only
    split_ifs <;> simp only [BitVec.or_assoc, BitVec.or_zero, BitVec.zero_or, BitVec.ofNat_eq_ofNat]

theorem Slot.Trails.takeRun (h : a.Trails b f) (r : Run) : (a.takeRun now r).Trails (b.takeRun now r) f := by
  obtain ⟨hc, hs, hd, ⟨m, hm⟩, hstill⟩ := h
  have hflags : runFlags now r b.sup.closed b.tally.serials b.defects.extents =
      runFlags now r a.sup.closed a.tally.serials a.defects.extents := by rw [hc, hs, hd]
  refine ⟨by simpa using hc, by simpa using hs, Slot.takeRun_defects_congr now r b a hc hs hd, ⟨m, ?_⟩, fun hst => ?_⟩
  · rw [Slot.takeRun_flags, Slot.takeRun_flags, hflags, hm]; ac_rfl
  · obtain ⟨k, hk⟩ := Slot.takeRun_pass now r a
    have hst' : a.Still := by
      rw [Slot.Still, hk] at hst; exact hst
    obtain ⟨hf, hsup, hz, ht, n, hp⟩ := hstill hst'
    refine ⟨?_, by simpa using hsup, by simpa using hz, by simpa using ht, n, ?_⟩
    · rw [Slot.takeRun_flags, Slot.takeRun_flags, hflags, hf]; ac_rfl
    · rw [Slot.takeRun_counts, Slot.takeRun_counts, hp, PassRecord.counting_outstanding]

theorem Slot.Trails.raise (h : a.Trails b f) (e : EventFlag) : a.Trails (b.raise e) (f ||| e.bit) := by
  obtain ⟨hc, hs, hd, ⟨m, hm⟩, hstill⟩ := h
  refine ⟨hc, hs, hd, ⟨m, ?_⟩, fun hst => ?_⟩
  · rw [Slot.raise_events, hm]; ac_rfl
  · obtain ⟨hf, hrest⟩ := hstill hst
    exact ⟨by rw [Slot.raise_events, hf, BitVec.or_assoc], hrest⟩

/-- The end of a pass only adds flags. -/
theorem Slot.testPass_adds (sl : Slot) : ∃ m, sl.testPass.events.flags = sl.events.flags ||| m := by
  have hnone (x : Slot) (h : x.events = sl.events) : ∃ m, x.events.flags = sl.events.flags ||| m :=
    ⟨0, by rw [h]; exact BitVec.or_zero.symm⟩
  unfold Slot.testPass Slot.completePass Slot.testShipped
  split
  · split
    · exact ⟨_, rfl⟩
    · dsimp only
      split
      · exact ⟨_, rfl⟩
      · exact ⟨_, rfl⟩
      · split
        · exact ⟨_, BitVec.or_assoc ..⟩
        · exact ⟨_, rfl⟩
      · exact ⟨_, rfl⟩
  · exact hnone sl rfl

theorem Slot.finish_adds (sl : Slot) (serial : Option Nat) : ∃ m, (sl.finish serial).events.flags = sl.events.flags ||| m := by
  unfold Slot.finish
  dsimp only
  split
  · exact (sl.finishCount serial).testPass_adds
  · exact ⟨0, BitVec.or_zero.symm⟩

/-- A command that ends while pass control's test ends nothing is only counted. -/
theorem Slot.finish_still (h : b.Still) (serial : Option Nat) : b.finish serial = b.finishCount serial := by
  obtain ⟨n, hn⟩ := Slot.finishCount_pass serial b
  have hid : (b.finishCount serial).testPass = b.finishCount serial := by
    rw [Slot.testPass, hn, if_neg]
    rintro ⟨hs, hr, -⟩
    exact h.elim (fun h => h hs) fun h => h hr
  rw [Slot.finish, hid, ite_self]

theorem Slot.Trails.finish (h : a.Trails b f) (serial : Option Nat) : a.Trails (b.finish serial) f := by
  obtain ⟨hc, hs, hd, ⟨m, hm⟩, hstill⟩ := h
  obtain ⟨k, hk⟩ := b.finish_adds serial
  refine ⟨by simpa using hc, by simpa using hs, by simpa using hd, ⟨m ||| k, ?_⟩, fun hst => ?_⟩
  · rw [hk, hm]; ac_rfl
  · obtain ⟨hf, hsup, hz, ht, n, hp⟩ := hstill hst
    have hb : b.Still := by rw [Slot.Still, hp]; exact hst
    obtain ⟨j, hj⟩ := Slot.finishCount_pass serial b
    rw [Slot.finish_still hb]
    exact ⟨hf, hsup, hz, ht, j, by rw [hj, hp]⟩

theorem Slot.Trails.finishes (h : a.Trails b f) (cs : List Cmd) :
    a.Trails (cs.foldl (fun x c => x.finish c.serial) b) f := by
  induction cs generalizing b with
  | nil => exact h
  | cons c cs ih => exact ih (h.finish c.serial)

/-- Cancelled posted writes record the runs of those that fail, and POST-FAIL with the first of them (R112). -/
theorem Slot.Trails.cancelAll (h : a.Trails b f) (cs : List Cmd) :
    (a.takeRuns now (writeFails cs)).Trails (cs.foldl (Slot.cancelPosted now) b) (f ||| failFlag (writeFails cs).length) := by
  induction cs generalizing a b f with
  | nil => rw [show f ||| failFlag (writeFails []).length = f from BitVec.or_zero]; exact h
  | cons c cs ih =>
    rw [List.foldl_cons]
    by_cases hr : c.reissues = 0
    · have hw : writeFails (c :: cs) = writeFails cs := by simp [writeFails, hr]
      rw [hw]
      refine ih (h.then_same ?_ ?_ ?_ ?_ ?_ ?_)
      all_goals rw [Slot.cancelPosted]; dsimp only; rw [if_pos hr]; rfl
    · have hw : writeFails (c :: cs) = c.wholeRun .writeFail :: writeFails cs := by simp [writeFails, hr]
      rw [hw, List.length_cons, ← postFail_failFlag, ← BitVec.or_assoc]
      refine ih ?_
      rw [Slot.cancelPosted]
      dsimp only
      rw [if_neg hr]
      exact (((h.takeRun (c.wholeRun .writeFail)).raise .postFail).modCmds _).finish c.serial

end Trail

end Sys2Proof.Machine

/-! PROOFS. A drive link reset (R112, R119, R120, R125): after a deadline and after a lost link, with the tests that end the
event (R147, R166). -/

namespace Sys2Proof.Machine

section Reset

variable {a sl : Slot} {c d : Cmd} {cs : List Cmd} {i : SlotId} {now : Nat} {x : Act} {s : State}

/-- The commands at the drive whose second cancellation fails them (R112), as the runs they hand over. -/
def Slot.failedRuns (sl : Slot) : List Run :=
  (sl.traffic.cmds.filter fun c => c.isAtDrive && c.posted && c.reissues != 0).map fun c => c.wholeRun .writeFail

theorem Slot.failedRuns_eq : sl.failedRuns = writeFails ((sl.traffic.cmds.filter Cmd.isAtDrive).filter Cmd.posted) := by
  rw [Slot.failedRuns, writeFails, List.filter_filter, List.filter_filter]
  congr 2
  funext c
  cases c.isAtDrive <;> cases c.posted <;> simp

/-- The records that a link reset sends for the unposted commands at the drive (R120). -/
def abortedRecords (i : SlotId) (cs : List Cmd) : List Upstream :=
  (inTagOrder (cs.filter fun c => c.isAtDrive)).flatMap fun c => (c.tag.map fun u => [reply i u .aborted]).getD []

theorem Act.linkReset_out : (x.linkReset i now).out = x.out ++ abortedRecords i x.sl.traffic.cmds := by
  show x.out ++ endAll i .aborted none ((x.sl.traffic.cmds.filter Cmd.isAtDrive).filter fun c => !c.posted) = _
  rw [endAll_no_answer, inTagOrder_unposted]
  rfl

theorem Act.linkReset_timing : (x.linkReset i now).sl.timing =
    { x.sl.timing with linkResets := min 4294967295 (x.sl.timing.linkResets + 1) } := by
  have hcancel (cs : List Cmd) (y : Slot) : (cs.foldl (Slot.cancelPosted now) y).timing = y.timing := by
    induction cs generalizing y with
    | nil => rfl
    | cons c cs ih => rw [List.foldl_cons, ih, (Slot.cancelPosted_frame now c y).2.2.2.2.2.2.1]
  simp only [Act.linkReset, Act.say_sl, Act.mod_sl]
  rw [(Slot.finishes_frame _ _).2.2.2.2.2.2.2.2.1, Slot.modCmds_timing, hcancel]
  rfl

theorem Act.linkReset_traffic (hu : Apart Cmd.driveTag x.sl.traffic.cmds)
    (hw : ∀ c ∈ x.sl.traffic.cmds, c.isAtDrive = true → c.driveTag.isSome = true) :
    (x.linkReset i now).sl.traffic =
      { cmds := x.sl.traffic.cmds.filterMap Cmd.keptByReset
        heldTags := x.sl.traffic.heldTags ++ (x.sl.traffic.cmds.filter Cmd.isAtDrive).filterMap Cmd.driveTag
        jobs := x.sl.traffic.jobs.filter Job.isCheck } := by
  simp only [Act.linkReset, Act.say_sl, Act.mod_sl]
  rw [(Slot.finishes_frame _ _).2.2.2.2.2.2.1, Slot.modCmds, Slot.modTraffic, Slot.cancelAll_traffic]
  dsimp only [Slot.modTraffic, Slot.modTiming, Slot.modLink]
  rw [keptByReset_eq hu hw]

/-- What a link reset records (R112). -/
theorem Act.linkReset_trails :
    (x.sl.takeRuns now x.sl.failedRuns).Trails (x.linkReset i now).sl (failFlag x.sl.failedRuns.length) := by
  have hstart {y : Slot} (h : x.sl.Trails y 0) :=
    h.cancelAll (now := now) ((x.sl.traffic.cmds.filter Cmd.isAtDrive).filter Cmd.posted)
  rw [Slot.failedRuns_eq]
  have h := ((hstart (y := ((x.sl.modLink fun l =>
      { l with state := .resetting, upDeadline := some (now + Config.linkUpTime), out := l.out ++ [.linkReset] }
    ).modTiming fun t => { t with linkResets := satAdd Config.max32 t.linkResets 1 }).modTraffic fun t =>
      { t with jobs := t.jobs.filter Job.isCheck
               heldTags := t.heldTags ++ (x.sl.traffic.cmds.filter Cmd.isAtDrive).filterMap Cmd.driveTag })
    (.of_same rfl rfl rfl rfl rfl rfl)).modCmds fun cs => cs.filter fun c => !(c.isAtDrive && !c.posted)).finishes
      (inTagOrder ((x.sl.traffic.cmds.filter Cmd.isAtDrive).filter fun c => !c.posted))
  rw [show (0 : BitVec 16) ||| failFlag (writeFails ((x.sl.traffic.cmds.filter Cmd.isAtDrive).filter Cmd.posted)).length =
    failFlag (writeFails ((x.sl.traffic.cmds.filter Cmd.isAtDrive).filter Cmd.posted)).length from BitVec.zero_or] at h
  exact h

theorem Slot.Trails.trans {b c : Slot} {f g : BitVec 16} (h : a.Trails b f) (h' : b.Trails c g) :
    a.Trails c (f ||| g) := by
  obtain ⟨hc, hs, hd, ⟨m, hm⟩, hstill⟩ := h
  obtain ⟨hc', hs', hd', ⟨m', hm'⟩, hstill'⟩ := h'
  refine ⟨hc'.trans hc, hs'.trans hs, hd'.trans hd, ⟨m ||| m', ?_⟩, fun hst => ?_⟩
  · rw [hm', hm]; ac_rfl
  · obtain ⟨hf, hsup, hz, ht, n, hp⟩ := hstill hst
    obtain ⟨hf', hsup', hz', ht', n', hp'⟩ := hstill' (by rw [Slot.Still, hp]; exact hst)
    exact ⟨by rw [hf', hf, BitVec.or_assoc], hsup'.trans hsup, hz'.trans hz, ht'.trans ht, n', by rw [hp', hp]⟩

theorem Slot.Trails.takeRuns {b : Slot} {f : BitVec 16} (h : a.Trails b f) (rs : List Run) :
    (a.takeRuns now rs).Trails (b.takeRuns now rs) f := by
  induction rs generalizing a b with
  | nil => exact h
  | cons r rs ih => exact ih (h.takeRun r)

theorem Slot.Trails.refl (a : Slot) : a.Trails a 0 := .of_same rfl rfl rfl rfl rfl rfl

theorem Slot.Trails.modTiming {b : Slot} {f : BitVec 16} (h : a.Trails b f) (g : Timing → Timing) :
    a.Trails (b.modTiming g) f := h.then_same rfl rfl rfl rfl rfl rfl

theorem Slot.Trails.modTraffic {b : Slot} {f : BitVec 16} (h : a.Trails b f) (g : Traffic → Traffic) :
    a.Trails (b.modTraffic g) f := h.then_same rfl rfl rfl rfl rfl rfl

/-! ## The deadline -/

/-- What a deadline does before the link reset that it begins (R119). -/
def Act.expired (i : SlotId) (now : Nat) (d : DriveTag) (c : Cmd) (x : Act) : Act :=
  let x := x.mod fun sl =>
    ((if c.hasRange then sl.takeRun now (c.wholeRun .timeout) else sl).modTiming fun q =>
      { q with timeouts := satAdd Config.max32 q.timeouts 1 }).raise .timeout
  match c.tag with
  | none => x
  | some t =>
    (x.mod fun sl =>
      (sl.modTraffic fun q =>
        { cmds := q.cmds.filter fun e => e.tag != some t, heldTags := d :: q.heldTags
          jobs := q.jobs.filter fun j => !j.generatesFor d }).finish c.serial).say [reply i t .timeout]

theorem Act.expire_eq {t : DriveTag} : x.expire i now t c = (x.expired i now t c).linkReset i now := rfl

/-- The slot that has counted a timeout, with its run (R119). -/
def Slot.timedOut (now : Nat) (c : Cmd) (sl : Slot) : Slot :=
  ((if c.hasRange then sl.takeRun now (c.wholeRun .timeout) else sl).modTiming fun q =>
    { q with timeouts := satAdd Config.max32 q.timeouts 1 }).raise .timeout

/-- The run that a deadline hands over (R119, R185). -/
def Cmd.timeoutRuns (c : Cmd) : List Run := if c.hasRange then [c.wholeRun .timeout] else []

theorem Slot.timedOut_trails : (a.takeRuns now c.timeoutRuns).Trails (a.timedOut now c) 0x0100 := by
  have hruns : a.takeRuns now c.timeoutRuns = if c.hasRange then a.takeRun now (c.wholeRun .timeout) else a := by
    rw [Cmd.timeoutRuns]
    split <;> rfl
  rw [hruns, Slot.timedOut]
  have h (y : Slot) : y.Trails
      ((y.modTiming fun q => { q with timeouts := satAdd Config.max32 q.timeouts 1 }).raise .timeout)
      (0 ||| EventFlag.timeout.bit) :=
    ((Slot.Trails.refl y).modTiming _).raise .timeout
  exact h _

theorem Slot.timedOut_frame : (a.timedOut now c).mon = a.mon ∧ (a.timedOut now c).ident = a.ident ∧
    (a.timedOut now c).key = a.key ∧ (a.timedOut now c).pending = a.pending ∧ (a.timedOut now c).active = a.active ∧
    (a.timedOut now c).link = a.link ∧ (a.timedOut now c).closing = a.closing ∧ (a.timedOut now c).command = a.command ∧
    (a.timedOut now c).traffic = a.traffic ∧
    (a.timedOut now c).timing = { a.timing with timeouts := min 4294967295 (a.timing.timeouts + 1) } := by
  rw [Slot.timedOut]
  split <;> simp [satAdd, Config.max32]

/-- The deadline of a posted write ends no command. -/
theorem Act.expired_posted {t : DriveTag} (h : c.tag = none) :
    (Act.start a).expired i now t c = (Act.start (a.timedOut now c)) := by
  rw [Act.expired, h]
  rfl

/-- The deadline of an unposted command ends it with TIMEOUT, and its drive tag is held (R119, R96). -/
theorem Act.expired_unposted {t : DriveTag} {u : Tag} (h : c.tag = some u) :
    (Act.start a).expired i now t c =
      { sl := ((a.timedOut now c).modTraffic fun q =>
          { cmds := q.cmds.filter fun e => e.tag != some u, heldTags := t :: q.heldTags
            jobs := q.jobs.filter fun j => !j.generatesFor t }).finish c.serial
        out := [reply i u .timeout] } := by
  rw [Act.expired, h]
  rfl

/-! ## The tests at the end -/

/-- A slot whose closing drain has been tested. -/
def Slot.regraded (closed : Bool) (step : GradingStep) (sl : Slot) : Slot :=
  { sl with sup := { sl.sup with closed := closed }, closing := { sl.closing with step := step } }

theorem State.startNext_regrades (s : State) (i : SlotId) : ∃ closed step,
    s.startNext.slot i = (s.slot i).regraded closed step ∧ s.startNext.shelf = s.shelf ∧
      s.startNext.upstream = s.upstream := by
  obtain h | ⟨k, rest, -, h⟩ := s.startNext_cases
  · exact ⟨(s.slot i).sup.closed, (s.slot i).closing.step, by rw [h]; rfl, by rw [h], by rw [h]⟩
  · by_cases hk : i = k
    · subst hk
      exact ⟨true, .computing, by rw [h, State.slot_setSlot]; rfl, by rw [h]; rfl, by rw [h]; rfl⟩
    · refine ⟨(s.slot i).sup.closed, (s.slot i).closing.step, ?_, by rw [h]; rfl, by rw [h]; rfl⟩
      rw [h, State.slot_setSlot_eq, if_neg hk]
      rfl

theorem State.testDrain_regrades (s : State) (i : SlotId) : ∃ closed step,
    (s.testDrain i).slot i = (s.slot i).regraded closed step ∧ (s.testDrain i).shelf = s.shelf ∧
      (s.testDrain i).upstream = s.upstream := by
  obtain h | ⟨-, -, h⟩ := s.testDrain_cases i
  · exact ⟨(s.slot i).sup.closed, (s.slot i).closing.step, by rw [h]; rfl, by rw [h], by rw [h]⟩
  · obtain ⟨closed, step, hslot, hshelf, hup⟩ := State.startNext_regrades
      (({ s with grader := { s.grader with queue := s.grader.queue ++ [i] } } : State).setSlot i
        ((s.slot i).setStep .queued)) i
    rw [State.slot_setSlot] at hslot
    exact ⟨closed, step, by rw [h, hslot]; rfl, by rw [h, hshelf]; rfl, by rw [h, hup]; rfl⟩

/-- The tests leave a slot as it is but for its grading, while no release can complete. -/
theorem State.settle_stays (h : (s.slot i).closing.releasePending = false ∨
    ∃ c ∈ (s.slot i).traffic.cmds, c.state ≠ .atResponder) :
    ∃ closed step, (s.settle i).slot i = (s.slot i).regraded closed step := by
  obtain ⟨closed, step, hslot, -⟩ := s.testDrain_regrades i
  refine ⟨closed, step, ?_⟩
  rw [State.settle, State.testRelease_id _ _ (by rw [hslot]; exact h), hslot]

/-- The tests complete a release that waits for nothing more (R166). -/
theorem State.settle_leaves (h : (s.slot i).closing.releasePending = true)
    (hq : ∀ c ∈ (s.slot i).traffic.cmds, c.state = .atResponder) :
    ∃ closed step, (s.settle i).slot i = ((s.slot i).regraded closed step).completeRelease s.shelf.bins := by
  obtain ⟨closed, step, hslot, hshelf, -⟩ := s.testDrain_regrades i
  refine ⟨closed, step, ?_⟩
  rw [State.settle, State.testRelease_completes _ _ (by rw [hslot]; exact h) (by rw [hslot]; exact hq), State.slot_setSlot,
    hslot, hshelf]
  rfl

theorem State.settle_shelf : (s.settle i).shelf = s.shelf := by
  obtain ⟨-, -, -, hshelf, -⟩ := s.testDrain_regrades i
  rw [State.settle, State.testRelease_shelf, hshelf]

theorem State.settle_upstream : (s.settle i).upstream = s.upstream := by
  obtain ⟨-, -, -, -, hup⟩ := s.testDrain_regrades i
  rw [State.settle, State.testRelease_upstream, hup]

/-- The tests add flags, and leave these records of the slot alone. -/
theorem State.settle_keeps : ((s.settle i).slot i).defects = (s.slot i).defects ∧
    ((s.settle i).slot i).timing = (s.slot i).timing ∧ ((s.settle i).slot i).zmap = (s.slot i).zmap ∧
    ((s.settle i).slot i).tally = (s.slot i).tally ∧ ((s.settle i).slot i).pass = (s.slot i).pass ∧
    ((s.settle i).slot i).traffic = (s.slot i).traffic ∧
    ∃ m, ((s.settle i).slot i).events.flags = (s.slot i).events.flags ||| m := by
  by_cases h : (s.slot i).closing.releasePending = true ∧ ∀ c ∈ (s.slot i).traffic.cmds, c.state = .atResponder
  · obtain ⟨closed, step, hslot⟩ := State.settle_leaves h.1 h.2
    rw [hslot]
    exact ⟨rfl, rfl, rfl, rfl, rfl, rfl, _, rfl⟩
  · obtain ⟨closed, step, hslot⟩ := State.settle_stays (s := s) (i := i) (by
      rcases not_and_or.mp h with h | h
      · exact .inl (by simpa using h)
      · push Not at h; exact .inr h)
    rw [hslot]
    exact ⟨rfl, rfl, rfl, rfl, rfl, rfl, 0, BitVec.or_zero.symm⟩

end Reset

end Sys2Proof.Machine

/-! PROOFS. What a drive link reset leaves of a slot, after a deadline and after a lost link (R112, R119, R120, R125). -/

namespace Sys2Proof.Machine

section Poised

variable {a p : Slot} {c : Cmd} {i : SlotId} {now : Nat} {x : Act} {q : List Run} {f : BitVec 16} {d : DriveTag}

/-- A drive tag that stays out of the pool in a link reset: held already, or a command's at the drive (R122). -/
def Slot.TagOut (sl : Slot) (e : DriveTag) : Prop :=
  e ∈ sl.traffic.heldTags ∨ ∃ c ∈ sl.traffic.cmds, c.isAtDrive = true ∧ c.driveTag = some e

/-- Slot `p` is slot `a` as a link reset finds it: with the runs `q` taken and the flags `f` raised, and perhaps one command
less, whose drive tag is held. -/
structure Slot.Poised (now : Nat) (a p : Slot) (q : List Run) (f : BitVec 16) : Prop where
  link    : p.link = a.link
  timing  : p.timing = { a.timing with timeouts := p.timing.timeouts }
  jobs    : p.traffic.jobs.filter Job.isCheck = a.traffic.jobs.filter Job.isCheck
  held    : ∀ e, p.TagOut e ↔ a.TagOut e
  sup     : p.sup = { a.sup with phase := p.sup.phase }
  closing : p.closing = a.closing
  mon     : p.mon = a.mon
  ident   : p.ident = a.ident
  key     : p.key = a.key
  pending : p.pending = a.pending
  active  : p.active = a.active
  command : p.command = a.command
  mask    : p.events.mask = a.events.mask
  trails  : (a.takeRuns now q).Trails p f
  failed  : p.failedRuns = a.failedRuns
  apart   : Apart Cmd.driveTag p.traffic.cmds
  tagged  : ∀ c ∈ p.traffic.cmds, c.isAtDrive = true → c.driveTag.isSome = true

/-- What a link reset leaves of slot `a`. -/
structure Slot.ResetFrom (now : Nat) (a w : Slot) (runs : List Run) (f : BitVec 16) : Prop where
  link    : w.link = { state := .resetting, upDeadline := some (now + 10000), out := a.link.out ++ [.linkReset] }
  timing  : w.timing = { a.timing with
    timeouts := w.timing.timeouts, linkResets := min 4294967295 (a.timing.linkResets + 1) }
  jobs    : w.traffic.jobs = a.traffic.jobs.filter Job.isCheck
  held    : ∀ e, e ∈ w.traffic.heldTags ↔ a.TagOut e
  sup     : w.sup = { a.sup with phase := w.sup.phase }
  closing : w.closing = a.closing
  mon     : w.mon = a.mon
  ident   : w.ident = a.ident
  key     : w.key = a.key
  pending : w.pending = a.pending
  active  : w.active = a.active
  command : w.command = a.command
  mask    : w.events.mask = a.events.mask
  trails  : (a.takeRuns now runs).Trails w f

theorem Slot.Poised.refl (h : a.traffic.WF) : Slot.Poised now a a [] 0 :=
  ⟨rfl, rfl, rfl, fun _ => Iff.rfl, rfl, rfl, rfl, rfl, rfl, rfl, rfl, rfl, rfl, .refl a, rfl, h.driveTags, h.tagged⟩

/-- A link reset of a poised slot. -/
theorem Slot.Poised.resets (h : Slot.Poised now a x.sl q f) :
    Slot.ResetFrom now a (x.linkReset i now).sl (q ++ a.failedRuns) (f ||| failFlag a.failedRuns.length) where
  link := by rw [(Act.linkReset_frame i now x).2.2.2.2.2.2.2, h.link]
  timing := by rw [Act.linkReset_timing, h.timing]
  jobs := by rw [Act.linkReset_traffic h.apart h.tagged]; exact h.jobs
  held e := by
    rw [Act.linkReset_traffic h.apart h.tagged, ← h.held e]
    simp [Slot.TagOut, and_assoc]
  sup := by rw [(Act.linkReset_continues i now x).sup, h.sup]
  closing := by rw [(Act.linkReset_frame i now x).2.2.2.2.2.1, h.closing]
  mon := (Act.linkReset_frame i now x).1.trans h.mon
  ident := (Act.linkReset_frame i now x).2.1.trans h.ident
  key := (Act.linkReset_frame i now x).2.2.1.trans h.key
  pending := (Act.linkReset_frame i now x).2.2.2.1.trans h.pending
  active := (Act.linkReset_frame i now x).2.2.2.2.1.trans h.active
  command := (Act.linkReset_frame i now x).2.2.2.2.2.2.1.trans h.command
  mask := by rw [Act.linkReset_mask, h.mask]
  trails := by
    have htrails := Act.linkReset_trails (x := x) (i := i) (now := now)
    rw [h.failed] at htrails
    rw [Slot.takeRuns_append]
    exact (h.trails.takeRuns a.failedRuns).trans htrails

/-- A posted write whose deadline expires is left for the reset (R119). -/
theorem Slot.poised_posted (h : a.traffic.WF) : Slot.Poised now a (a.timedOut now c) c.timeoutRuns 0x0100 := by
  obtain ⟨hmon, hident, hkey, hpending, hactive, hlink, hclosing, hcommand, htraffic, htiming⟩ :=
    Slot.timedOut_frame (a := a) (c := c) (now := now)
  have hmask : (a.timedOut now c).events.mask = a.events.mask := by
    rw [Slot.timedOut]
    split <;> simp
  have hsup : (a.timedOut now c).sup = a.sup := by
    rw [Slot.timedOut]
    split <;> simp
  refine ⟨hlink, ?_, ?_, fun e => ?_, ?_, hclosing, hmon, hident, hkey, hpending, hactive, hcommand, hmask,
    Slot.timedOut_trails, ?_, ?_, ?_⟩
  · rw [htiming]
  · rw [htraffic]
  · rw [Slot.TagOut, htraffic, Slot.TagOut]
  · rw [hsup]
  · rw [Slot.failedRuns, htraffic, Slot.failedRuns]
  · rw [htraffic]; exact h.driveTags
  · rw [htraffic]; exact h.tagged

/-- An unposted command whose deadline expires has ended before the reset, its drive tag held (R119, R96). -/
theorem Slot.poised_unposted {u : Tag} (h : a.traffic.WF) (hc : c ∈ a.traffic.cmds) (hat : c.isAtDrive = true)
    (hd : c.driveTag = some d) (ht : c.tag = some u) :
    Slot.Poised now a
      (((a.timedOut now c).modTraffic fun q =>
          { cmds := q.cmds.filter fun e => e.tag != some u, heldTags := d :: q.heldTags
            jobs := q.jobs.filter fun j => !j.generatesFor d }).finish c.serial) c.timeoutRuns 0x0100 := by
  have hp := Slot.poised_posted (c := c) (now := now) h
  have htraffic : (a.timedOut now c).traffic = a.traffic := (Slot.timedOut_frame).2.2.2.2.2.2.2.2.1
  generalize hb : (a.timedOut now c).modTraffic _ = b
  have hbt : b.traffic =
      { cmds := a.traffic.cmds.filter fun e => e.tag != some u, heldTags := d :: a.traffic.heldTags
        jobs := a.traffic.jobs.filter fun j => !j.generatesFor d } := by
    rw [← hb, Slot.modTraffic_traffic, htraffic]
  obtain ⟨fmon, fident, fkey, fpending, factive, -, ftraffic, flink, ftiming, fclosing, fcommand⟩ :=
    Slot.finish_frame c.serial b
  have hsup := (Slot.continues_finish (a := b) c.serial).sup
  have hbsup : b.sup = (a.timedOut now c).sup := by rw [← hb]; rfl
  refine ⟨flink.trans ?_, ?_, ?_, fun e => ?_, ?_, fclosing.trans ?_, fmon.trans ?_, fident.trans ?_, fkey.trans ?_,
    fpending.trans ?_, factive.trans ?_, fcommand.trans ?_, ?_, ?_, ?_, ?_, ?_⟩
  · rw [← hb]; exact hp.link
  · rw [ftiming, ← hb]; exact hp.timing
  · rw [ftraffic, hbt, List.filter_filter]
    refine List.filter_congr fun j _ => ?_
    unfold Job.isCheck Job.generatesFor
    cases j.owner <;> simp
  · rw [Slot.TagOut, ftraffic, hbt, Slot.TagOut]
    constructor
    · rintro (he | ⟨x, hx, hxat, hxd⟩)
      · rcases List.mem_cons.mp he with rfl | he
        · exact .inr ⟨c, hc, hat, hd⟩
        · exact .inl he
      · exact .inr ⟨x, List.mem_of_mem_filter hx, hxat, hxd⟩
    · rintro (he | ⟨x, hx, hxat, hxd⟩)
      · exact .inl (List.mem_cons_of_mem d he)
      · by_cases hxt : x.tag = some u
        · rw [eq_of_key h.tags hx hc hxt ht, hd] at hxd
          exact .inl (Option.some.inj hxd ▸ List.mem_cons_self)
        · exact .inr ⟨x, List.mem_filter.mpr ⟨hx, by simpa using hxt⟩, hxat, hxd⟩
  · rw [hsup, hbsup, hp.sup]
  · rw [← hb]; exact hp.closing
  · rw [← hb]; exact hp.mon
  · rw [← hb]; exact hp.ident
  · rw [← hb]; exact hp.key
  · rw [← hb]; exact hp.pending
  · rw [← hb]; exact hp.active
  · rw [← hb]; exact hp.command
  · rw [Slot.finish_mask, ← hb]; exact hp.mask
  · rw [← hb]; exact (hp.trails.modTraffic _).finish c.serial
  · rw [Slot.failedRuns, ftraffic, hbt, List.filter_filter, Slot.failedRuns]
    refine congrArg _ (List.filter_congr fun e _ => ?_)
    cases het : e.tag <;> simp [Cmd.posted, het]
  · rw [ftraffic, hbt]; exact h.driveTags.sublist List.filter_sublist
  · rw [ftraffic, hbt]; exact fun e he => h.tagged e (List.mem_of_mem_filter he)

/-! ## The commands that are left -/

theorem Cmd.keptByReset_responder (hs : c.state = .atResponder ∨ (c.isAtDrive = true ∧ c.posted = false)) {e : Cmd}
    (he : c.keptByReset = some e) : e.state = .atResponder := by
  rcases hs with hs | ⟨hat, hp⟩
  · have hat : ¬c.isAtDrive = true := by simp [Cmd.isAtDrive, hs]
    rw [Cmd.keptByReset, if_neg hat] at he
    rw [← Option.some.inj he, hs]
  · rw [Cmd.keptByReset, if_pos hat, hp] at he
    cases he

/-- A data command that a link reset does not end is left. -/
theorem Cmd.keptByReset_data (hs : c.state ≠ .atResponder)
    (hk : c.isAtDrive = false ∨ (c.posted = true ∧ c.reissues = 0)) :
    ∃ e, c.keptByReset = some e ∧ e.state ≠ .atResponder := by
  rw [Cmd.keptByReset]
  cases hat : c.isAtDrive with
  | false => exact ⟨c, rfl, hs⟩
  | true =>
    obtain ⟨hp, hr⟩ := hk.resolve_left (by rw [hat]; exact Bool.noConfusion)
    rw [hp, hr]
    exact ⟨_, rfl, CmdState.noConfusion⟩

/-- The commands other than the unposted one whose deadline has expired. -/
def Cmd.others (c : Cmd) (cs : List Cmd) : List Cmd := cs.filter fun e => c.tag.isNone || e.tag != c.tag

/-- The expired command is the only one that its deadline ends. -/
theorem Cmd.mem_others {cs : List Cmd} {e : Cmd} (hw : Apart Cmd.tag cs) (hc : c ∈ cs) (he : e ∈ cs)
    (hne : c.tag = none ∨ e ≠ c) :
    e ∈ c.others cs := by
  refine List.mem_filter.mpr ⟨he, ?_⟩
  cases ht : c.tag with
  | none => rfl
  | some u =>
    rw [Option.isNone_some, Bool.false_or, bne_iff_ne]
    exact fun h => hne.elim (fun hn => by rw [ht] at hn; cases hn) fun hne => hne (eq_of_key hw he hc h ht)

end Poised

end Sys2Proof.Machine

/-! PROOFS. The link reset after a deadline and after a lost link (R112, R119, R120, R125, R166). -/

namespace Sys2Proof.Machine

section Event

variable {s u : State} {i : SlotId} {d : DriveTag} {c : Cmd} {a w : Slot} {runs : List Run} {f : BitVec 16} {now : Nat}

theorem exec_deadlineExpiry_none (h : (s.slot i).traffic.cmds.find? (Cmd.atTag d) = none) :
    exec (.deadlineExpiry i d) s = .next s := by
  show Host.Outcome.next (s.deadlineExpiry i d) = _
  rw [State.deadlineExpiry, h]

theorem exec_deadlineExpiry_some (h : (s.slot i).traffic.cmds.find? (Cmd.atTag d) = some c) :
    exec (.deadlineExpiry i d) s = .next (((s.advanceTo c.deadline).commit i
      (((Act.start (s.slot i)).expired i (s.advanceTo c.deadline).shelf.clock d c).linkReset i
        (s.advanceTo c.deadline).shelf.clock)).settle i) := by
  show Host.Outcome.next (s.deadlineExpiry i d) = _
  rw [State.deadlineExpiry, h]
  simp only [State.advanceTo_slot]
  rfl

theorem exec_linkLost (hp : (s.slot i).sup.power = true) (hl : (s.slot i).link.state = .up)
    (hf : (s.slot i).sup.phase ≠ .faulted) :
    exec (.linkLost i) s = .next ((s.commit i ((Act.start (s.slot i)).linkReset i s.shelf.clock)).settle i) := by
  refine congrArg Host.Outcome.next ?_
  rw [State.linkLost]
  exact (if_pos ⟨hp, hl⟩).trans (if_neg hf)

/-- What a deadline does before the link reset that it begins: one command less, if it is unposted (R119). -/
theorem Act.expired_poised (h : a.traffic.WF) (hc : c ∈ a.traffic.cmds) (hat : c.isAtDrive = true)
    (hd : c.driveTag = some d) :
    Slot.Poised now a ((Act.start a).expired i now d c).sl c.timeoutRuns 0x0100 ∧
      ((Act.start a).expired i now d c).sl.traffic.cmds = c.others a.traffic.cmds ∧
      ((Act.start a).expired i now d c).out = (c.tag.map fun u => [reply i u .timeout]).getD [] ∧
      ((Act.start a).expired i now d c).sl.timing.timeouts = min 4294967295 (a.timing.timeouts + 1) := by
  have htraffic : (a.timedOut now c).traffic = a.traffic := (Slot.timedOut_frame).2.2.2.2.2.2.2.2.1
  have htiming : (a.timedOut now c).timing.timeouts = min 4294967295 (a.timing.timeouts + 1) := by
    rw [(Slot.timedOut_frame).2.2.2.2.2.2.2.2.2]
  cases ht : c.tag with
  | none =>
    have hall : c.others a.traffic.cmds = a.traffic.cmds := by
      simp [Cmd.others, ht]
    rw [Act.expired_posted ht]
    exact ⟨Slot.poised_posted h, by rw [Act.start_sl, htraffic, hall], rfl, htiming⟩
  | some u =>
    have hothers : c.others a.traffic.cmds = a.traffic.cmds.filter fun e => e.tag != some u := by
      simp [Cmd.others, ht]
    rw [Act.expired_unposted ht]
    refine ⟨Slot.poised_unposted h hc hat hd ht, ?_, rfl, ?_⟩
    · rw [Slot.finish_traffic, Slot.modTraffic_traffic, htraffic, hothers]
    · rw [(Slot.finish_frame _ _).2.2.2.2.2.2.2.2.1]; exact htiming

theorem Slot.ResetFrom.hasFlag {e : EventFlag} (h : a.ResetFrom now w runs f) (hf : f &&& e.bit = e.bit) : w.HasFlag e := by
  obtain ⟨m, hm⟩ := h.trails.flags
  rw [Slot.HasFlag, hm, BitVec.or_comm (a.takeRuns now runs).events.flags]
  exact and_of_or (and_of_or hf)

theorem State.settle_hasFlag {e : EventFlag} (h : (s.slot i).HasFlag e) : ((s.settle i).slot i).HasFlag e := by
  obtain ⟨-, -, -, -, -, -, m, hm⟩ := State.settle_keeps (s := s) (i := i)
  rw [Slot.HasFlag, hm]
  exact and_of_or h

end Event

/-- Settles O37: each of the events is a link reset of a poised slot, and the tests that end it. -/
theorem linkResetTakesTheCommandsBack : Obligations.LinkResetTakesTheCommandsBack := by
  intro s i sl kept whole failed aborted reset stays leaves released recorded hwf
  have hfailed : sl.failedRuns = failed := rfl
  -- The slot after the reset and the tests that end the event.
  have settles {u : State} {w : Slot} {runs : List Run} {flag : BitVec 16} (hu : u.slot i = w)
      (h : sl.ResetFrom u.shelf.clock w runs (flag ||| failFlag failed.length))
      (hstays : stays → sl.closing.releasePending = false ∨ ∃ y ∈ w.traffic.cmds, y.state ≠ .atResponder)
      (hleaves : leaves → ∀ y ∈ w.traffic.cmds, y.state = .atResponder) :
      (stays → reset (u.settle i)) ∧ (leaves → released (u.settle i)) ∧ recorded (u.settle i) runs flag := by
    have hpending : w.closing.releasePending = sl.closing.releasePending := by rw [h.closing]
    have hstill (hs : sl.pass.state ≠ .running ∨ sl.pass.remaining ≠ 0) :
        (sl.takeRuns u.shelf.clock runs).Still := by
      rw [Slot.Still, Slot.takeRuns_counts]; exact hs
    have hstayed (hs : stays) : ∃ closed step, (u.settle i).slot i = w.regraded closed step := by
      have := State.settle_stays (s := u) (i := i) (by rw [hu, hpending]; exact hstays hs)
      rwa [hu] at this
    refine ⟨fun hs => ?reset, fun hs => ?released, ?recorded⟩
    case reset =>
      obtain ⟨closed, step, hslot⟩ := hstayed hs
      refine ⟨?_, ?_, ?_, ?_, ?_, ?_, fun e => ?_, ?_, ?_, ?_, ?_, ?_, ?_, ?_, ?_, ?_⟩
      all_goals rw [hslot]
      · exact congrArg Link.state h.link
      · rw [State.settle_shelf]; exact congrArg Link.upDeadline h.link
      · exact congrArg Link.out h.link
      · exact congrArg Timing.linkResets h.timing
      · exact (congrArg Timing.consecutive h.timing).trans rfl
      · exact h.jobs
      · exact h.held e
      · rw [Slot.regraded, h.sup]
      · rw [Slot.regraded, h.closing]
      · exact h.mon
      · exact h.ident
      · exact h.key
      · exact h.pending
      · exact h.active
      · exact h.command
      · exact h.mask
    case released =>
      obtain ⟨closed, step, hslot⟩ := State.settle_leaves (s := u) (i := i)
        (by rw [hu, hpending]; exact hs.1) (by rw [hu]; exact hleaves hs)
      rw [hu] at hslot
      refine ⟨?_, ?_, ?_, ?_, ?_, fun hp hn => ?_⟩
      all_goals rw [hslot]
      · rfl
      · rfl
      · rfl
      · rfl
      · rw [Slot.HasFlag, Slot.completeRelease, Slot.raise_events]
        exact or_and_self _ _
      · have hsup : w.sup = sl.sup :=
          (h.trails.still (hstill (.inl hn))).2.1.trans (Slot.takeRuns_frame u.shelf.clock runs sl).1
        refine (Slot.verdictAt_graded (sl := (w.regraded closed step).powerOff) ?_).trans ?_
        · exact (congrArg Supervisor.phase hsup).trans hp
        · show Verdict.unshipped ((w.closing.grade.map GradeRecord.bin).getD 0) = _
          rw [h.closing]
    case recorded =>
      obtain ⟨kdefects, ktiming, kzmap, ktally, kpass, -, m, kflags⟩ := State.settle_keeps (s := u) (i := i)
      obtain ⟨n, hn⟩ := h.trails.flags
      rw [hu] at kdefects ktiming kzmap ktally kpass kflags
      have hall : ((u.settle i).slot i).events.flags = _ := kflags.trans (congrArg (· ||| m) hn)
      obtain ⟨-, -, -, -, -, -, hzmap, htally, -⟩ := Slot.takeRuns_frame u.shelf.clock runs sl
      show _ ∧ _
      rw [State.settle_shelf]
      refine ⟨kdefects.trans h.trails.defects, fun f hf => ?_, fun hne => ?_, ?_, fun hs => ⟨?_, ?_, ?_, fun hst => ?_⟩⟩
      · rw [Slot.HasFlag, hall]
        exact and_of_or (and_of_or (and_of_or hf))
      · rw [Slot.HasFlag, hall, failFlag, if_neg (by simpa using hne), ← BitVec.or_assoc]
        exact and_of_or (and_of_or (or_and_self _ _))
      · rw [ktiming, h.timing]
      · exact kzmap.trans ((h.trails.still (hstill hs)).2.2.1.trans hzmap)
      · exact ktally.trans ((h.trails.still (hstill hs)).2.2.2.1.trans htally)
      · obtain ⟨-, -, -, -, k, hk⟩ := h.trails.still (hstill hs)
        rw [kpass, hk, Slot.takeRuns_counts]
      · obtain ⟨closed, step, hslot⟩ := hstayed hst
        have hempty : failFlag failed.length = if failed.isEmpty then 0 else 0x0080 := by
          rw [failFlag]
          cases failed <;> rfl
        rw [hslot, ← hempty]
        refine (h.trails.still (hstill hs)).1.trans ?_
        ac_rfl
  refine ⟨fun d c hc => ?deadline, fun d hd => exec_deadlineExpiry_none hd, fun hp hl hf => ?lost, fun hp hl hf => ?faulted,
    fun h => ?nothing⟩
  case deadline =>
    intro others
    obtain ⟨hmem, hat, hd⟩ := mem_of_atTag hc
    have hat' : c.isAtDrive = true := by rw [Cmd.isAtDrive, hat]; rfl
    obtain ⟨hpoised, hcmds, hout, htimeouts⟩ := Act.expired_poised (i := i) (now := (s.advanceTo c.deadline).shelf.clock)
      hwf hmem hat' hd
    rw [← show c.others sl.traffic.cmds = others from rfl]
    have hexec := exec_deadlineExpiry_some hc
    change exec (.deadlineExpiry i d) s = .next (((s.advanceTo c.deadline).commit i
      (((Act.start sl).expired i (s.advanceTo c.deadline).shelf.clock d c).linkReset i
        (s.advanceTo c.deadline).shelf.clock)).settle i) at hexec
    generalize (Act.start sl).expired i (s.advanceTo c.deadline).shelf.clock d c = x at hpoised hcmds hout htimeouts hexec
    have htraffic := Act.linkReset_traffic (x := x) (i := i) (now := (s.advanceTo c.deadline).shelf.clock) hpoised.apart
      hpoised.tagged
    have hleft : (x.linkReset i (s.advanceTo c.deadline).shelf.clock).sl.traffic.cmds =
        (c.others sl.traffic.cmds).filterMap Cmd.keptByReset := by rw [htraffic, hcmds]
    have hfrom := hpoised.resets (i := i)
    generalize hu : (s.advanceTo c.deadline).commit i (x.linkReset i (s.advanceTo c.deadline).shelf.clock) = u at hexec
    have hshelf : u.shelf = (s.advanceTo c.deadline).shelf := by rw [← hu]; rfl
    have hslot : u.slot i = (x.linkReset i (s.advanceTo c.deadline).shelf.clock).sl := by rw [← hu, State.commit_slot]
    obtain ⟨hresets, hreleases, hrecords⟩ := settles hslot (by rw [hshelf]; exact hfrom)
      (fun hs => hs.imp_right fun ⟨y, hy, hys, hyk⟩ => by
        obtain ⟨e, he, hes⟩ := Cmd.keptByReset_data hys hyk
        have hne : c.tag = none ∨ y ≠ c := by
          by_cases hyc : y = c
          · rw [hyc, hat', Cmd.posted, Option.isNone_iff_eq_none] at hyk
            exact .inl (hyk.resolve_left Bool.noConfusion).1
          · exact .inr hyc
        exact ⟨e, by rw [hleft]; exact List.mem_filterMap.mpr ⟨y, Cmd.mem_others hwf.tags hmem hy hne, he⟩, hes⟩)
      (fun hs e he => by
        rw [hleft] at he
        obtain ⟨y, hy, hye⟩ := List.mem_filterMap.mp he
        exact Cmd.keptByReset_responder (hs.2 y (List.mem_of_mem_filter hy)) hye)
    obtain ⟨-, ktiming, -, -, -, ktraffic, -⟩ := State.settle_keeps (s := u) (i := i)
    have hruns : c.timeoutRuns = if c.kind = .read ∨ c.kind = .write then [whole .timeout c] else [] := by
      simp only [Cmd.timeoutRuns, Cmd.hasRange, Bool.or_eq_true, beq_iff_eq]
      rfl
    refine ⟨u.settle i, hexec, hresets, hreleases, hruns ▸ hrecords, ?_, State.settle_hasFlag ?_, ?_, ?_, ?_⟩
    · rw [ktiming, hslot, Act.linkReset_timing, htimeouts]
    · rw [hslot]; exact hfrom.hasFlag (and_of_or rfl)
    · rw [ktraffic, hslot]; exact hleft
    · rw [State.settle_upstream, ← hu, State.commit_upstream, Act.linkReset_out, hout, hcmds, State.advanceTo_upstream,
        List.append_assoc]
      rfl
    · rw [State.settle_shelf, hshelf, State.advanceTo_eq]
  case lost =>
    have hleft : ((Act.start sl).linkReset i s.shelf.clock).sl.traffic.cmds =
        sl.traffic.cmds.filterMap Cmd.keptByReset := by
      rw [Act.linkReset_traffic (x := Act.start sl) hwf.driveTags hwf.tagged, Act.start_sl]
    have hfrom := Slot.Poised.resets (x := Act.start sl) (i := i) (now := s.shelf.clock) (.refl hwf)
    obtain ⟨hresets, hreleases, hrecords⟩ := settles (State.commit_slot s i ((Act.start sl).linkReset i s.shelf.clock)) hfrom
      (fun hs => hs.imp_right fun ⟨y, hy, hys, hyk⟩ => by
        obtain ⟨e, he, hes⟩ := Cmd.keptByReset_data hys hyk
        exact ⟨e, by rw [hleft]; exact List.mem_filterMap.mpr ⟨y, hy, he⟩, hes⟩)
      (fun hs e he => by
        rw [hleft] at he
        obtain ⟨y, hy, hye⟩ := List.mem_filterMap.mp he
        exact Cmd.keptByReset_responder (hs.2 y hy) hye)
    obtain ⟨-, ktiming, -, -, -, ktraffic, -⟩ := State.settle_keeps (i := i)
      (s := s.commit i ((Act.start sl).linkReset i s.shelf.clock))
    refine ⟨_, exec_linkLost hp hl hf, hresets, hreleases, hrecords, ?_, ?_, ?_, State.settle_shelf⟩
    · rw [ktiming, State.commit_slot, Act.linkReset_timing]; rfl
    · rw [ktraffic, State.commit_slot]; exact hleft
    · rw [State.settle_upstream, State.commit_upstream, Act.linkReset_out]; rfl
  case faulted =>
    refine congrArg Host.Outcome.next ?_
    rw [State.linkLost]
    exact (if_pos ⟨hp, hl⟩).trans (if_pos hf)
  case nothing =>
    refine congrArg Host.Outcome.next (if_neg ?_)
    rintro ⟨hp, hl⟩
    rcases h with h | h
    · exact Bool.noConfusion (h.symm.trans hp)
    · exact h hl

end Sys2Proof.Machine

/-! PROOFS. The words of the control window's blocks (10.8): codes, tables, the grade record, recipes and the shelf block. -/

namespace Sys2Proof.Machine

/-! ## Words and codes -/

section Words

variable {w x y : Word} {m n r : Nat}

theorem ofBytes_byteOf : ofBytes (byteOf w 0) (byteOf w 1) (byteOf w 2) (byteOf w 3) = w := by
  apply BitVec.eq_of_getLsbD_eq
  intro k hk
  simp only [ofBytes, byteOf, BitVec.getLsbD_append, BitVec.getLsbD_extractLsb']
  grind

theorem ofBytes_byteOf_low : ofBytes (byteOf w 0) 0 0 0 = w &&& 0xFF := by
  apply BitVec.eq_of_getLsbD_eq
  intro k hk
  have hff : (0xFF : Word).getLsbD k = decide (k < 8) := by
    interval_cases k <;> rfl
  simp only [ofBytes, byteOf, BitVec.getLsbD_append, BitVec.getLsbD_extractLsb', BitVec.getLsbD_and,
    BitVec.ofNat_eq_ofNat, BitVec.getLsbD_zero] at hff ⊢
  grind

theorem ofHalves_highHalf : ofHalves (byteOf w 1 ++ byteOf w 0) (highHalf w) = w := by
  apply BitVec.eq_of_getLsbD_eq
  intro k hk
  simp only [ofHalves, byteOf, highHalf, BitVec.getLsbD_append, BitVec.getLsbD_extractLsb']
  grind

theorem ofHalves_halves : ofHalves (lowHalf w) (highHalf w) = w := by
  apply BitVec.eq_of_getLsbD_eq
  intro k hk
  simp only [ofHalves, lowHalf, highHalf, BitVec.getLsbD_append, BitVec.getLsbD_extractLsb']
  grind

theorem append_low : (x ++ y).extractLsb' 0 32 = y := by
  apply BitVec.eq_of_getLsbD_eq
  intro k hk
  simp only [BitVec.getLsbD_append, BitVec.getLsbD_extractLsb']
  grind

theorem append_high : (x ++ y).extractLsb' 32 32 = x := by
  apply BitVec.eq_of_getLsbD_eq
  intro k hk
  simp only [BitVec.getLsbD_append, BitVec.getLsbD_extractLsb']
  grind

/-- A half word above zeros. -/
theorem ofHalves_zero (v : BitVec 16) : ofHalves v 0 = BitVec.ofNat 32 v.toNat := by
  apply BitVec.eq_of_toNat_eq
  have := v.isLt
  rw [ofHalves, BitVec.toNat_append, BitVec.toNat_ofNat]
  simp
  omega

theorem bitAt_getLsbD (k n : Nat) (p : Bool) (hn : n < 32) : (bitAt k p).getLsbD n = (p && decide (k = n)) := by
  cases p with
  | false => simp [bitAt]
  | true =>
    rw [bitAt, if_pos rfl, BitVec.getLsbD_ofNat, Nat.testBit_two_pow]
    simp [hn]

end Words

section Codes

theorem Phase.code_eq (p : Phase) : p.code = BitVec.ofNat 8 ([Phase.empty, .attaching, .ready, .running, .held, .soak,
    .grading, .graded, .shipping, .shipped, .released, .faulted].idxOf p) := by cases p <;> rfl

theorem FaultCause.code_eq (c : Option FaultCause) : (c.map FaultCause.code).getD 0 =
    BitVec.ofNat 8 ([none, some FaultCause.trip, some .linkLost, some .resetLimit].idxOf c) := by
  rcases c with _ | _ | _ | _ <;> rfl

theorem GradingStep.code_eq (g : GradingStep) :
    g.code = BitVec.ofNat 8 ([GradingStep.none, .draining, .queued, .computing].idxOf g) := by cases g <;> rfl

theorem RegionStatus.code_eq (g : RegionStatus) :
    g.code = BitVec.ofNat 8 ([RegionStatus.unidentified, .formatMismatch, .empty, .enabled].idxOf g) := by cases g <;> rfl

theorem LinkState.code_eq (l : LinkState) :
    l.code = BitVec.ofNat 8 ([LinkState.down, .up, .resetting].idxOf l) := by cases l <;> rfl

theorem PassKind.code_eq (k : PassKind) :
    k.code = BitVec.ofNat 8 ([PassKind.none, .write, .read, .ship].idxOf k) := by cases k <;> rfl

theorem PassState.code_eq (k : PassState) :
    k.code = BitVec.ofNat 8 ([PassState.none, .running, .held, .complete, .aborted].idxOf k) := by cases k <;> rfl

theorem CurrentLive.code_eq (l : CurrentLive) :
    l.code = BitVec.ofNat 8 ([CurrentLive.normal, .over].idxOf l) := by cases l <;> rfl

theorem TempLive.code_eq (l : TempLive) :
    l.code = BitVec.ofNat 8 ([TempLive.inWindow, .below, .above, .critical].idxOf l) := by cases l <;> rfl

theorem CmdOutcome.code_eq (o : CmdOutcome) :
    o.code = BitVec.ofNat 32 ([CmdOutcome.none, .done, .wrongPhase, .thermal, .passLimit, .noRegion, .closed,
      .unknown].idxOf o) := by cases o <;> rfl

theorem FailKind.code_eq (k : FailKind) :
    k.code = BitVec.ofNat 8 (1 + [FailKind.miscompare, .stale, .timeout, .writeFail, .media, .misplaced].idxOf k) := by
  cases k <;> rfl

theorem ExtentStatus.code_eq (s : ExtentStatus) :
    s.code = BitVec.ofNat 8 (1 + [ExtentStatus.suspect, .confirmed, .cleared].idxOf s) := by cases s <;> rfl

theorem ZoneState.word_eq (s : ZoneState) :
    ofBytes s.code 0 0 0 = BitVec.ofNat 32 (1 + [ZoneState.blank, .ordered, .mixed, .untracked].idxOf s) := by
  cases s <;> rfl

theorem CmdState.code_eq {s : CmdState} (h : s ≠ .cancelled) :
    s.code = 1 + [CmdState.waiting, .atDrive, .checking, .atResponder].idxOf s := by
  cases s
  case cancelled => exact absurd rfl h
  all_goals rfl

end Codes

/-! ## Tables of records of eight words -/

section Tables

variable {α : Type} {words : α → List Word}

theorem flatMap_getD (hw : ∀ a, (words a).length = 8) (xs : List α) (m n : Nat) (hn : n < 8) :
    (xs.flatMap words).getD (8 * m + n) 0 = (xs[m]?.map fun a => (words a).getD n 0).getD 0 := by
  induction xs generalizing m with
  | nil => simp
  | cons a xs ih =>
    rw [List.flatMap_cons]
    cases m with
    | zero =>
      rw [List.getD_append _ _ _ _ (by rw [hw]; omega)]
      simp
    | succ m =>
      rw [List.getD_append_right _ _ _ _ (by rw [hw]; omega), hw, show 8 * (m + 1) + n - 8 = 8 * m + n by omega, ih]
      simp

/-- Word `n` of record `m` of a table's block `k` (R40, R82). -/
theorem tableBlock_getD (hw : ∀ a, (words a).length = 8) (xs : List α) (k m n : Nat) (hm : m < 128) (hn : n < 8) :
    (tableBlock words k xs).getD (8 * m + n) 0 = (xs[128 * k + m]?.map fun a => (words a).getD n 0).getD 0 := by
  rw [tableBlock, flatMap_getD hw _ _ _ hn, List.getElem?_take, if_pos hm, List.getElem?_drop]

end Tables

/-! ## The blocks but STATUS -/

section Blocks

variable {s : State} {i : SlotId}

theorem State.windowBlock_extents (k : Fin 4) :
    s.windowBlock i (4 + k.val) = tableBlock Extent.words k.val (s.slot i).defects.extents := by
  fin_cases k <;> rfl

theorem State.windowBlock_zones (k : Fin 8) :
    s.windowBlock i (8 + k.val) = tableBlock Zone.words k.val (s.slot i).zmap.zones := by
  fin_cases k <;> rfl

/-- An offset past the assigned blocks shows nothing (R171). -/
theorem State.windowBlock_unassigned {n : Nat} (h : 18 ≤ n) (h' : n ≠ 32) : s.windowBlock i n = [] := by
  unfold State.windowBlock
  split
  iterate 18 · exact absurd h (by decide)
  · exact absurd rfl h'
  · rfl

theorem Extent.words_eq (e : Extent) :
    e.words =
      [ BitVec.ofNat 32 e.start, BitVec.ofNat 16 e.length ++ BitVec.ofNat 16 (e.start / 4294967296),
        ofBytes
          (BitVec.ofNat 8 (1 + [FailKind.miscompare, .stale, .timeout, .writeFail, .media, .misplaced].idxOf e.kind))
          (BitVec.ofNat 8 (1 + [ExtentStatus.suspect, .confirmed, .cleared].idxOf e.status))
          (BitVec.ofNat 8 e.hits) (if e.claimed.isSome then 1 else 0),
        BitVec.ofNat 16 e.firstSerial ++ BitVec.ofNat 16 e.worstB, BitVec.ofNat 32 e.firstTime,
        BitVec.ofNat 16 (e.claimed.getD 0 / 4294967296) ++ BitVec.ofNat 16 e.lastSerial,
        BitVec.ofNat 32 e.lastTime, BitVec.ofNat 32 (e.claimed.getD 0) ] := by
  have hclaimed : BitVec.ofNat 8 e.claimed.isSome.toNat = if e.claimed.isSome then 1 else 0 := by
    cases e.claimed <;> rfl
  rw [Extent.words, FailKind.code_eq, ExtentStatus.code_eq, hclaimed]
  rfl

/-- The first six words of a zone record are all it shows (R40). -/
theorem Zone.words_getD (z : Zone) (n : Nat) :
    z.words.getD n 0 =
      ([ BitVec.ofNat 32 (1 + [ZoneState.blank, .ordered, .mixed, .untracked].idxOf z.state),
        BitVec.ofNat 16 z.previous ++ BitVec.ofNat 16 z.current ] ++ twoWords z.wf ++ twoWords z.rf).getD n 0 := by
  rw [Zone.words, ZoneState.word_eq]
  by_cases hn : n < 6
  · exact List.getD_append _ _ _ _ hn
  · refine (List.getD_append_right _ _ _ _ (Nat.not_lt.mp hn)).trans ?_
    have hzeros (k : Nat) : [(0 : Word), 0].getD k 0 = 0 := by
      rcases k with _ | _ | k <;> rfl
    rw [hzeros, List.getD_eq_default]
    exact Nat.not_lt.mp hn

theorem Extent.words_length (e : Extent) : e.words.length = 8 := rfl

theorem Zone.words_length (z : Zone) : z.words.length = 8 := rfl

theorem ofHalves_append (lo mid : BitVec 8) (hi : BitVec 16) : ofHalves (mid ++ lo) hi = hi ++ mid ++ lo := by
  apply BitVec.eq_of_getLsbD_eq
  intro k hk
  simp only [ofHalves, BitVec.getLsbD_append]
  grind

theorem Recipe.words_eq (r : Recipe) :
    r.words =
      [ r.s0.extractLsb' 0 32, r.s0.extractLsb' 32 32, r.e0.extractLsb' 0 32, r.e0.extractLsb' 32 32, r.seed,
        ofBytes r.guardCode r.readReturn r.polarity r.posting, r.slow ++ r.timeout ++ r.priority, r.mask ++ r.checkpoint,
        ofBytes r.overCode r.tripCode r.lowCode r.highCode, ofBytes r.criticalCode 0 0 0,
        ofBytes r.wh r.ws r.we r.wt, ofBytes r.wl 0 0 0, 0, 0, 0, 0 ] := by
  rw [Recipe.words, ofHalves_append]
  rfl

/-- The recipe that a block spells reads back as the block, its unused bits and words zero (R171, R174). -/
theorem Recipe.words_ofBlock (b : Block) (n : Nat) :
    (Recipe.ofBlock b 0).words.getD n 0 =
      if n < 9 ∨ n = 10 then b.getD n 0 else if n = 9 ∨ n = 11 then b.getD n 0 &&& 0xFF else 0 := by
  have hwords : (Recipe.ofBlock b 0).words =
      [wordAt b 0, wordAt b 1, wordAt b 2, wordAt b 3, wordAt b 4, wordAt b 5, wordAt b 6, wordAt b 7, wordAt b 8,
        wordAt b 9 &&& 0xFF, wordAt b 10, wordAt b 11 &&& 0xFF, 0, 0, 0, 0] := by
    simp only [Recipe.words, Recipe.ofBlock, Nat.zero_add, append_low, append_high, ofBytes_byteOf, ofBytes_byteOf_low,
      ofHalves_highHalf, ofHalves_halves]
  rw [hwords]
  by_cases hn : n < 16
  · interval_cases n <;> rfl
  · rw [if_neg (by omega), if_neg (by omega), List.getD_eq_default]
    simpa using hn

theorem GradeRecord.commonWords_eq (g : GradeRecord) :
    g.commonWords =
      [ ofBytes (BitVec.ofNat 8 g.bin) (if g.inputs.coverage then 1 else 0) 0 0, BitVec.ofNat 32 g.score,
        BitVec.ofNat 32 g.inputs.confirmed, BitVec.ofNat 32 g.inputs.suspect,
        BitVec.ofNat 32 (g.inputs.misplaced % 65536) ]
      ++ twoWords g.inputs.overflow
      ++ [ BitVec.ofNat 16 g.inputs.currentCount ++ BitVec.ofNat 16 g.inputs.tempCount,
        BitVec.ofNat 32 g.inputs.timeouts, BitVec.ofNat 32 g.inputs.slow, BitVec.ofNat 32 g.inputs.soakMinutes,
        BitVec.ofNat 16 g.inputs.readPasses ++ BitVec.ofNat 16 g.inputs.writePasses ]
      ++ twoWords g.inputs.capacity ++ serialWords g.inputs.serial ++ [BitVec.ofNat 32 g.inputs.closedAt] := by
  have hcoverage : BitVec.ofNat 8 g.inputs.coverage.toNat = if g.inputs.coverage then 1 else 0 := by
    cases g.inputs.coverage <;> rfl
  rw [GradeRecord.commonWords, hcoverage, ofHalves_zero, BitVec.toNat_ofNat]
  rfl

theorem BinEntry.words_eq (e : BinEntry) :
    e.words =
      [ ofBytes (BitVec.ofNat 8 ((if e.enabled then 1 else 0) + if e.coverageRequired then 2 else 0)) e.maxMisplaced
          e.allowance 0,
        e.ceiling, BitVec.ofNat 32 e.minSoak.toNat, 0 ] := by
  have hflags : e.enabled.toNat + 2 * e.coverageRequired.toNat =
      (if e.enabled then 1 else 0) + if e.coverageRequired then 2 else 0 := by
    cases e.enabled <;> cases e.coverageRequired <;> rfl
  rw [BinEntry.words, hflags, ofHalves_zero]

end Blocks

end Sys2Proof.Machine

/-! PROOFS. The STATUS block (R95, R172), with the entry of the read that fetches it (log entry 30). -/

namespace Sys2Proof.Machine

/-! ## The command table's entries -/

section Entries

variable {cs : List Cmd} {c : Cmd} {n k base : Nat}

theorem entryCode_lt : entryCode cs n < 16 := by
  rw [entryCode]
  split
  · next c _ => cases c.state <;> decide
  · decide

/-- A digit of a sum of eight digits in base 16, the powers of 16 given as `w`. -/
theorem hexDigit {f w : Nat → Nat} (hf : ∀ m, f m < 16) (hw : ∀ m, w m = 16 ^ m) (hk : k < 8) :
    ((List.range 8).map fun m => f m * w m).sum / 16 ^ k % 16 = f k := by
  have h0 := hf 0; have h1 := hf 1; have h2 := hf 2; have h3 := hf 3
  have h4 := hf 4; have h5 := hf 5; have h6 := hf 6; have h7 := hf 7
  have hsum : ((List.range 8).map fun m => f m * w m).sum =
      f 0 * w 0 + (f 1 * w 1 + (f 2 * w 2 + (f 3 * w 3 + (f 4 * w 4 + (f 5 * w 5 +
        (f 6 * w 6 + (f 7 * w 7 + 0))))))) := rfl
  rw [hsum, hw 0, hw 1, hw 2, hw 3, hw 4, hw 5, hw 6, hw 7]
  interval_cases k <;> omega

/-- The four bits of an entry are its state code (10.8). -/
theorem entryWord_digit (hk : k < 8) :
    ((entryWord cs base).extractLsb' (4 * k) 4).toNat = entryCode cs (base + k) := by
  obtain ⟨x, hx, hdigit⟩ : ∃ x, entryWord cs base = BitVec.ofNat 32 x ∧ x / 16 ^ k % 16 = entryCode cs (base + k) :=
    ⟨_, rfl, hexDigit (f := fun m => entryCode cs (base + m)) (w := fun m => 16 ^ m) (fun _ => entryCode_lt)
      (fun _ => rfl) hk⟩
  rw [BitVec.extractLsb'_toNat, hx, BitVec.toNat_ofNat, Nat.shiftRight_eq_div_pow, Nat.pow_mul]
  interval_cases k <;> omega

/-- The four entry words of STATUS, one after the other, show the entry of every tag. -/
theorem entryWords_digit (u : Tag) :
    (([entryWord cs 0, entryWord cs 8, entryWord cs 16, entryWord cs 24].getD (u.val / 8) 0).extractLsb'
      (4 * (u.val % 8)) 4).toNat = entryCode cs u.val := by
  have hword : [entryWord cs 0, entryWord cs 8, entryWord cs 16, entryWord cs 24].getD (u.val / 8) 0 =
      entryWord cs (8 * (u.val / 8)) := by
    have : u.val / 8 < 4 := by have := u.isLt; omega
    generalize u.val / 8 = q at this ⊢
    interval_cases q <;> rfl
  rw [hword, entryWord_digit (Nat.mod_lt _ (by decide)), Nat.div_add_mod]

theorem entryCode_eq (u : Tag) : entryCode cs u.val = ((cs.find? fun c => c.tag == some u).map fun c => c.state.code).getD 0 := by
  have htag : (fun c : Cmd => (c.tag.map Fin.val) == some u.val) = fun c => c.tag == some u := by
    funext c
    cases h : c.tag with
    | none => rfl
    | some t => simp [Fin.ext_iff]
  rw [entryCode, htag]
  cases cs.find? fun c => c.tag == some u <;> rfl

/-- An entry under another tag shows as before. -/
theorem entryCode_append_ne {t : Tag} (ht : c.tag = some t) (hn : n ≠ t.val) :
    entryCode (cs ++ [c]) n = entryCode cs n := by
  have hno : [c].find? (fun c => (c.tag.map Fin.val) == some n) = none := by
    simp [ht, Ne.symm hn]
  rw [entryCode, entryCode, List.find?_append, hno, Option.or_none]

/-- The words of the other entries show as before. -/
theorem entryWord_append_ne {t : Tag} (ht : c.tag = some t) (hn : ∀ m < 8, base + m ≠ t.val) :
    entryWord (cs ++ [c]) base = entryWord cs base := by
  rw [entryWord, entryWord]
  congr 2
  refine List.map_congr_left fun m hm => ?_
  rw [entryCode_append_ne ht (hn m (List.mem_range.mp hm))]

/-- A new entry under a free tag shows its own state. -/
theorem entryCode_append_self {t : Tag} (ht : c.tag = some t) (hfree : cs.find? (fun c => c.tag == some t) = none) :
    entryCode (cs ++ [c]) t.val = c.state.code := by
  rw [entryCode_eq, List.find?_append, hfree]
  simp [ht]

end Entries

/-! ## The block -/

section Status

variable {s : State} {i : SlotId} {sl : Slot}

theorem State.gradePosition_eq :
    s.gradePosition i = if i ∈ s.grader.queue then s.grader.queue.idxOf i + 1 else 0 := by
  rw [State.gradePosition]
  by_cases hi : i ∈ s.grader.queue
  · rw [if_pos hi, List.findIdx?_eq_some_of_exists (p := (· == i)) ⟨i, hi, beq_self_eq_true i⟩]
    rfl
  · have hnone : s.grader.queue.findIdx? (· == i) = none := by
      rw [List.findIdx?_eq_none_iff]
      exact fun k hk => beq_eq_false_iff_ne.mpr fun h => hi (h ▸ hk)
    rw [if_neg hi, hnone]

theorem Slot.posted_count (f : Cmd → Bool) (cs : List Cmd) :
    countCmds f (cs.filter Cmd.posted) = (cs.filter fun c => c.tag.isNone && f c).length := by
  rw [countCmds, List.filter_filter]
  refine congrArg List.length (List.filter_congr fun c _ => ?_)
  rw [Cmd.posted, Bool.and_comm]

/-- The lines word of STATUS (R172). -/
def Slot.statusLines (sl : Slot) : Word :=
  bitAt 0 sl.sup.carrier ||| bitAt 1 sl.sup.latch ||| bitAt 2 sl.sup.power ||| bitAt 3 sl.sup.graceEnd.isSome
    ||| bitAt 4 sl.sup.warning ||| bitAt 5 sl.sup.closed ||| bitAt 6 sl.closing.releasePending
    ||| bitAt 7 sl.tally.writeCovered ||| bitAt 8 sl.tally.verified ||| bitAt 9 sl.mon.currentSticky
    ||| bitAt 10 sl.mon.tempSticky ||| bitAt 11 sl.closing.shipWritten ||| bitAt 12 sl.active.windowDisabled

theorem Slot.statusLines_bit (n : Fin 32) :
    sl.statusLines.getLsbD n = [sl.sup.carrier, sl.sup.latch, sl.sup.power, sl.sup.graceEnd.isSome, sl.sup.warning,
      sl.sup.closed, sl.closing.releasePending, sl.tally.writeCovered, sl.tally.verified, sl.mon.currentSticky,
      sl.mon.tempSticky, sl.closing.shipWritten, sl.active.windowDisabled].getD n false := by
  simp only [Slot.statusLines, BitVec.getLsbD_or, bitAt_getLsbD _ _ _ n.isLt]
  fin_cases n <;> simp

theorem State.statusCondition_eq :
    s.statusCondition i =
      [ ofBytes
          (BitVec.ofNat 8 ([Phase.empty, .attaching, .ready, .running, .held, .soak, .grading, .graded, .shipping,
            .shipped, .released, .faulted].idxOf (s.slot i).sup.phase))
          (BitVec.ofNat 8 ([none, some FaultCause.trip, some .linkLost, some .resetLimit].idxOf (s.slot i).sup.cause))
          (BitVec.ofNat 8 ([GradingStep.none, .draining, .queued, .computing].idxOf (s.slot i).closing.step))
          (BitVec.ofNat 8 (if i ∈ s.grader.queue then s.grader.queue.idxOf i + 1 else 0)),
        (s.slot i).statusLines,
        ofBytes (BitVec.ofNat 8 ([LinkState.down, .up, .resetting].idxOf (s.slot i).link.state))
          (BitVec.ofNat 8
            ([RegionStatus.unidentified, .formatMismatch, .empty, .enabled].idxOf (s.slot i).zmap.region.status))
          (s.slot i).closing.verdict.code (BitVec.ofNat 8 (s.slot i).closing.verdict.bin),
        (s.slot i).events.mask ++ (s.slot i).events.flags,
        ofBytes (BitVec.ofNat 8 (s.slot i).indicator)
          (BitVec.ofNat 8 ([CurrentLive.normal, .over].idxOf (s.slot i).mon.currentLive))
          (BitVec.ofNat 8 ([TempLive.inWindow, .below, .above, .critical].idxOf (s.slot i).mon.tempLive))
          (BitVec.ofNat 8 ((s.slot i).traffic.cmds.filter fun c => c.tag.isSome).length) ] := by
  have htagged : (fun c : Cmd => !c.posted) = fun c => c.tag.isSome := funext fun c => by
    cases h : c.tag <;> simp [Cmd.posted, h]
  rw [State.statusCondition, Phase.code_eq, FaultCause.code_eq, GradingStep.code_eq, State.gradePosition_eq,
    LinkState.code_eq, RegionStatus.code_eq, CurrentLive.code_eq, TempLive.code_eq, countCmds, htagged]
  rfl

theorem Slot.statusTraffic_eq :
    sl.statusTraffic =
      [ sl.mon.current, BitVec.ofNat 16 sl.mon.currentCount ++ sl.mon.temp,
        BitVec.ofNat 16 sl.defects.extents.length ++ BitVec.ofNat 16 sl.mon.tempCount ]
      ++ twoWords sl.defects.overflow
      ++ [ BitVec.ofNat 32 sl.defects.postClose,
        ofBytes (BitVec.ofNat 8 (sl.traffic.cmds.filter fun c => c.tag.isNone && true).length)
          (BitVec.ofNat 8 (sl.traffic.cmds.filter fun c => c.tag.isNone && c.state == .waiting).length)
          (BitVec.ofNat 8 (sl.traffic.cmds.filter fun c => c.tag.isNone && c.state == .atDrive).length)
          (BitVec.ofNat 8 (sl.traffic.cmds.filter fun c => c.tag.isNone && c.state == .cancelled).length),
        entryWord sl.traffic.cmds 0, entryWord sl.traffic.cmds 8, entryWord sl.traffic.cmds 16,
        entryWord sl.traffic.cmds 24 ] := by
  have hall : (sl.traffic.cmds.filter Cmd.posted).length =
      (sl.traffic.cmds.filter fun c => c.tag.isNone && true).length := by
    simp only [Bool.and_true]
    rfl
  rw [Slot.statusTraffic, hall, Slot.posted_count, Slot.posted_count, Slot.posted_count]
  rfl

theorem Slot.statusPass_eq :
    sl.statusPass =
      [ ofBytes (BitVec.ofNat 8 ([PassKind.none, .write, .read, .ship].idxOf sl.pass.kind))
          (BitVec.ofNat 8 ([PassState.none, .running, .held, .complete, .aborted].idxOf sl.pass.state))
          (BitVec.ofNat 8 ((if sl.pass.holdHost then 1 else 0) + if sl.pass.holdThermal then 2 else 0))
          (if sl.pass.endless then 1 else 0),
        BitVec.ofNat 16 sl.pass.epoch ++ BitVec.ofNat 16 sl.pass.serial ]
      ++ twoWords sl.pass.remaining
      ++ [ BitVec.ofNat 32 sl.pass.outstanding, BitVec.ofNat 32 sl.pass.laps, BitVec.ofNat 32 sl.pass.failures,
        BitVec.ofNat 32 sl.pass.checkpoint, BitVec.ofNat 16 sl.tally.writeEpochs ++ BitVec.ofNat 16 sl.tally.serials,
        BitVec.ofNat 16 sl.tally.readPasses ++ BitVec.ofNat 16 sl.tally.writePasses,
        BitVec.ofNat 32 (sl.tally.soakMs / 1000), BitVec.ofNat 32 sl.tally.soakGained,
        BitVec.ofNat 32 sl.tally.soakTarget ] := by
  have hholds : sl.pass.holdHost.toNat + 2 * sl.pass.holdThermal.toNat =
      (if sl.pass.holdHost then 1 else 0) + if sl.pass.holdThermal then 2 else 0 := by
    cases sl.pass.holdHost <;> cases sl.pass.holdThermal <;> rfl
  have hendless : BitVec.ofNat 8 sl.pass.endless.toNat = if sl.pass.endless then 1 else 0 := by
    cases sl.pass.endless <;> rfl
  rw [Slot.statusPass, PassKind.code_eq, PassState.code_eq, hholds, hendless]
  rfl

theorem Slot.statusIdentity_eq :
    sl.statusIdentity =
      (if sl.zmap.region.status = .enabled then
        twoWords sl.zmap.region.first ++ twoWords sl.zmap.region.stop
          ++ twoWords (sl.zmap.region.stop - sl.zmap.region.first) ++ twoWords sl.zmap.region.zoneLength
          ++ [BitVec.ofNat 32 sl.zmap.region.zoneCount]
      else List.replicate 9 0)
      ++ (match sl.ident with
        | none => List.replicate 8 0
        | some d => serialWords d.serial ++ twoWords d.capacity ++ [BitVec.ofNat 32 d.blockSize]) := by
  have henabled : sl.zmap.region.enabled = true ↔ sl.zmap.region.status = .enabled := by
    simp [Region.enabled]
  rw [Slot.statusIdentity]
  simp only [henabled]
  congr 1
  by_cases h : sl.zmap.region.status = .enabled
  · simp only [if_pos h, Region.blocks, henabled]
  · simp only [if_neg h]; rfl

end Status

end Sys2Proof.Machine

/-! PROOFS. The reads of the control window (R93 to R95, R156, R170 to R174): answered with the block as it stands, the read
itself an entry of it, or held. -/

namespace Sys2Proof.Machine

/-! ## The entry of the read that fetches STATUS -/

section Entry

variable {sl : Slot} {c : Cmd} {t : Tag} {n p : Nat}

/-- The STATUS block of a slot at place `p` of the grading unit's list. -/
def Slot.statusWords (p : Nat) (sl : Slot) : Block :=
  [ ofBytes sl.sup.phase.code ((sl.sup.cause.map FaultCause.code).getD 0) sl.closing.step.code (BitVec.ofNat 8 p),
    sl.statusLines,
    ofBytes sl.link.state.code sl.zmap.region.status.code sl.closing.verdict.code
      (BitVec.ofNat 8 sl.closing.verdict.bin),
    ofHalves sl.events.flags sl.events.mask,
    ofBytes (BitVec.ofNat 8 sl.indicator) sl.mon.currentLive.code sl.mon.tempLive.code
      (BitVec.ofNat 8 (countCmds (fun c => !c.posted) sl.traffic.cmds)) ]
  ++ sl.statusTraffic ++ sl.statusPass ++ sl.statusIdentity

theorem State.statusBlock_eq (s : State) (i : SlotId) :
    s.statusBlock i = (s.slot i).statusWords (s.gradePosition i) := rfl

theorem ofBytes_byte3 (b0 b1 b2 b3 : BitVec 8) : (ofBytes b0 b1 b2 b3).extractLsb' 24 8 = b3 := by
  apply BitVec.eq_of_getLsbD_eq
  intro k hk
  simp only [ofBytes, BitVec.getLsbD_append, BitVec.getLsbD_extractLsb']
  grind

/-- An entry under a tag counts as one more (R172). -/
theorem Slot.statusWords_count (ht : c.tag = some t) :
    (((sl.withCmd c).statusWords p).getD 4 0).extractLsb' 24 8 =
      ((sl.statusWords p).getD 4 0).extractLsb' 24 8 + 1 := by
  have hword (x : Slot) : ((x.statusWords p).getD 4 0).extractLsb' 24 8 =
      BitVec.ofNat 8 (countCmds (fun c => !c.posted) x.traffic.cmds) := ofBytes_byte3 ..
  have hcount : countCmds (fun c => !c.posted) (sl.withCmd c).traffic.cmds =
      countCmds (fun c => !c.posted) sl.traffic.cmds + 1 := by
    simp [countCmds, Slot.withCmd, List.filter_append, Cmd.posted, ht]
  rw [hword, hword, hcount, BitVec.ofNat_add]
  rfl

/-- The entry words of STATUS. -/
theorem Slot.statusWords_entries (q : Nat) (hq : q < 4) :
    (sl.statusWords p).getD (12 + q) 0 =
      [entryWord sl.traffic.cmds 0, entryWord sl.traffic.cmds 8, entryWord sl.traffic.cmds 16,
        entryWord sl.traffic.cmds 24].getD q 0 := by
  interval_cases q <;> rfl

/-- The entry of a control read shows AT-RESPONDER under its tag (R95). -/
theorem Slot.statusWords_entry (ht : c.tag = some t) (hs : c.state = .atResponder) (hb : sl.tagBusy t = false) :
    (((sl.withCmd c).statusWords p).getD (12 + t.val / 8) 0).extractLsb' (4 * (t.val % 8)) 4 = 4 := by
  have hfree : sl.traffic.cmds.find? (fun c => c.tag == some t) = none := by
    rw [List.find?_eq_none]
    intro d hd h
    rw [Slot.tagBusy, List.any_eq_false] at hb
    exact hb d hd h
  apply BitVec.eq_of_toNat_eq
  rw [Slot.statusWords_entries _ (by have := t.isLt; omega), entryWords_digit]
  exact (entryCode_append_self ht hfree).trans (by rw [hs]; rfl)

/-- Words 0 to 4 of STATUS, and words 5 to 11. -/
def Slot.statusFront (p : Nat) (sl : Slot) : List Word :=
  [ ofBytes sl.sup.phase.code ((sl.sup.cause.map FaultCause.code).getD 0) sl.closing.step.code (BitVec.ofNat 8 p),
    sl.statusLines,
    ofBytes sl.link.state.code sl.zmap.region.status.code sl.closing.verdict.code
      (BitVec.ofNat 8 sl.closing.verdict.bin),
    ofHalves sl.events.flags sl.events.mask,
    ofBytes (BitVec.ofNat 8 sl.indicator) sl.mon.currentLive.code sl.mon.tempLive.code
      (BitVec.ofNat 8 (countCmds (fun c => !c.posted) sl.traffic.cmds)) ]
def Slot.statusSense (sl : Slot) : List Word :=
  [ sl.mon.current, ofHalves sl.mon.temp (BitVec.ofNat 16 sl.mon.currentCount),
    ofHalves (BitVec.ofNat 16 sl.mon.tempCount) (BitVec.ofNat 16 sl.defects.extents.length) ]
  ++ twoWords sl.defects.overflow
  ++ [ BitVec.ofNat 32 sl.defects.postClose,
    ofBytes (BitVec.ofNat 8 (sl.traffic.cmds.filter Cmd.posted).length)
      (BitVec.ofNat 8 (countCmds (·.state == .waiting) (sl.traffic.cmds.filter Cmd.posted)))
      (BitVec.ofNat 8 (countCmds (·.state == .atDrive) (sl.traffic.cmds.filter Cmd.posted)))
      (BitVec.ofNat 8 (countCmds (·.state == .cancelled) (sl.traffic.cmds.filter Cmd.posted))) ]

/-- The words after the first twelve. -/
def Slot.statusRest (sl : Slot) : List Word :=
  [entryWord sl.traffic.cmds 0, entryWord sl.traffic.cmds 8, entryWord sl.traffic.cmds 16, entryWord sl.traffic.cmds 24]
  ++ (sl.statusPass ++ sl.statusIdentity)

theorem Slot.statusWords_parts : sl.statusWords p = sl.statusFront p ++ (sl.statusSense ++ sl.statusRest) := by
  have htraffic : sl.statusTraffic = sl.statusSense ++ [entryWord sl.traffic.cmds 0, entryWord sl.traffic.cmds 8,
      entryWord sl.traffic.cmds 16, entryWord sl.traffic.cmds 24] := by
    rw [Slot.statusTraffic, Slot.statusSense, List.append_assoc, List.append_assoc, List.append_assoc]
    rfl
  have hwords : sl.statusWords p = sl.statusFront p ++ sl.statusTraffic ++ sl.statusPass ++ sl.statusIdentity := rfl
  rw [hwords, htraffic, Slot.statusRest, List.append_assoc, List.append_assoc, List.append_assoc]

theorem Slot.statusFront_length : (sl.statusFront p).length = 5 := rfl

theorem Slot.statusSense_length : sl.statusSense.length = 7 := rfl

/-- STATUS shows nothing else of a control read's entry. -/
theorem Slot.statusWords_same (ht : c.tag = some t) (h4 : n ≠ 4) (hn : n ≠ 12 + t.val / 8) :
    ((sl.withCmd c).statusWords p).getD n 0 = (sl.statusWords p).getD n 0 := by
  have hposted : (sl.withCmd c).traffic.cmds.filter Cmd.posted = sl.traffic.cmds.filter Cmd.posted := by
    simp [Slot.withCmd, List.filter_append, Cmd.posted, ht]
  have hsense : (sl.withCmd c).statusSense = sl.statusSense := by
    rw [Slot.statusSense, hposted]
    rfl
  have hwords (base : Nat) (hb : ∀ m < 8, base + m ≠ t.val) :
      entryWord (sl.withCmd c).traffic.cmds base = entryWord sl.traffic.cmds base := entryWord_append_ne ht hb
  have hpass : (sl.withCmd c).statusPass = sl.statusPass := rfl
  have hident : (sl.withCmd c).statusIdentity = sl.statusIdentity := rfl
  rw [Slot.statusWords_parts, Slot.statusWords_parts, hsense]
  by_cases h5 : n < 5
  · rw [List.getD_append _ _ _ _ h5, List.getD_append _ _ _ _ h5]
    obtain rfl | rfl | rfl | rfl : n = 0 ∨ n = 1 ∨ n = 2 ∨ n = 3 := by omega
    all_goals rfl
  have hfront (x : Slot) (rest : List Word) : (x.statusFront p ++ rest).getD n 0 = rest.getD (n - 5) 0 :=
    List.getD_append_right _ _ _ _ (Nat.not_lt.mp h5)
  rw [hfront, hfront]
  by_cases h12 : n < 12
  · rw [List.getD_append _ _ _ _ (by rw [Slot.statusSense_length]; omega),
      List.getD_append _ _ _ _ (by rw [Slot.statusSense_length]; omega)]
  have hskip (rest : List Word) : (sl.statusSense ++ rest).getD (n - 5) 0 = rest.getD (n - 12) 0 := by
    rw [List.getD_append_right _ _ _ _ (by rw [Slot.statusSense_length]; omega), Slot.statusSense_length,
      show n - 5 - 7 = n - 12 by omega]
  rw [hskip, hskip, Slot.statusRest, Slot.statusRest, hpass, hident]
  by_cases h16 : n < 16
  · obtain ⟨q, rfl⟩ := Nat.exists_eq_add_of_le (Nat.not_lt.mp h12)
    have hq : q < 4 := by omega
    rw [Nat.add_sub_cancel_left, List.getD_append _ _ _ _ hq, List.getD_append _ _ _ _ hq]
    interval_cases q
    · exact hwords 0 fun m hm h => by omega
    · exact hwords 8 fun m hm h => by omega
    · exact hwords 16 fun m hm h => by omega
    · exact hwords 24 fun m hm h => by omega
  · have hge : 4 ≤ n - 12 := by omega
    have hrest (w x y z : Word) (rest : List Word) :
        ([w, x, y, z] ++ rest).getD (n - 12) 0 = rest.getD (n - 12 - 4) 0 := List.getD_append_right _ _ _ _ hge
    rw [hrest, hrest]

end Entry

/-! ## Reads of the window -/

section Reads

variable {s : State} {i : SlotId} {t : Tag}

theorem State.windowBlock_portGivenUp (n : Nat) : s.portGivenUp.windowBlock i n = s.windowBlock i n := by
  unfold State.portGivenUp
  split <;> rfl

/-- The record of a one-block READ of block `n` of the control window. -/
def windowReadRecord (t : Tag) (n : Nat) : Record :=
  bareRecord (some .read) t (BitVec.ofNat 48 (281474976710592 + n)) 1 false 0

theorem windowReadRecord_start {n : Nat} (hn : n < 64) : (windowReadRecord t n).start = Config.controlBase + n :=
  controlAddress n hn

/-- A one-block READ of the control window under a free tag (R93, R170). -/
theorem exec_read_window {n : Nat} (hn : n < 64) (hb : (s.slot i).tagBusy t = false) :
    exec (.read i t (BitVec.ofNat 48 (281474976710592 + n)) 1 false) s =
      .next (s.portGivenUp.controlRead i (windowReadRecord t n)) := by
  have hstart := windowReadRecord_start (t := t) hn
  have hmalformed : (windowReadRecord t n).malformed = false := by
    have haddr : (windowReadRecord t n).addr.toNat = 281474976710592 + n := hstart
    have hcount : (windowReadRecord t n).count.toNat = 1 := rfl
    rw [← Bool.not_eq_true, Record.malformed_iff _ (.inl rfl), haddr, hcount]
    rintro (h | h | h | h | h | h | h)
    · cases h
    · omega
    · omega
    · cases h.1
    · cases h
    · exact h.2 rfl
    · cases h.1
  have hcontrol : (windowReadRecord t n).isControl = true := by
    rw [Record.isControl, hstart]
    exact decide_eq_true (Nat.le_add_right _ _)
  refine congrArg Host.Outcome.next ((State.arrive_eq s i (windowReadRecord t n)).trans ?_)
  rw [State.deliver_control _ i _ .read rfl hmalformed hcontrol (by rw [State.portGivenUp_slot]; exact hb), if_pos rfl]

/-- A read that is not held is answered with the block as it stands with the read's own entry (R93, R95). -/
theorem State.controlRead_answered {r : Record} {n : Nat} (hr : r.start = Config.controlBase + n)
    (hb : (s.slot i).tagBusy r.tag = false) (hh : n ≠ 16 ∨ (s.slot i).holdsGradeRead = false) :
    s.controlRead i r =
      s.say [.frame i ((s.takeEntry i (r.toControl .read)).windowBlock i n), reply i r.tag .good] := by
  have hoffset : r.start - Config.controlBase = n := by omega
  rw [State.controlRead_eq s i r hb]
  dsimp only
  rw [hoffset, if_neg]
  rintro ⟨h16, hholds⟩
  rcases hh with hh | hh
  · exact hh h16
  · rw [hh] at hholds; cases hholds

/-- The entry of a control read. -/
theorem takeEntry_eq (s : State) (i : SlotId) (c : Cmd) : s.takeEntry i c = s.setSlot i ((s.slot i).withCmd c) := rfl

theorem State.gradePosition_setSlot (s : State) (i : SlotId) (x : Slot) :
    (s.setSlot i x).gradePosition i = s.gradePosition i := rfl

theorem gradeReadRecord_start (t : Tag) : (gradeReadRecord t).start = Config.controlBase + 16 := by revert t; decide

theorem windowReadRecord_grade (t : Tag) : windowReadRecord t 16 = gradeReadRecord t := rfl

end Reads

end Sys2Proof.Machine

/-! PROOFS. What each block of the control window shows, and how a read of it is served (R93 to R95, R156, R170 to R179). -/

namespace Sys2Proof.Machine

section Served

variable {s : State} {i : SlotId} {t : Tag}

/-- A READ of a block that is neither STATUS nor GRADE RECORD. -/
theorem exec_read_block (hb : (s.slot i).tagBusy t = false) (n : Fin 64) (h0 : n ≠ 0) (h16 : n ≠ 16) :
    exec (.read i t (BitVec.ofNat 48 (281474976710592 + n.val)) 1 false) s =
      .next (s.portGivenUp.say [.frame i (s.windowBlock i n.val), reply i t .good]) := by
  have hval {k : Nat} {hk : k < 64} (h : n ≠ ⟨k, hk⟩) : n.val ≠ k := fun he => h (Fin.ext he)
  rw [exec_read_window n.isLt hb, State.controlRead_answered (windowReadRecord_start n.isLt)
    (by rw [State.portGivenUp_slot]; exact hb) (.inl (hval h16)), State.windowBlock_takeEntry _ _ _ _ (hval h0),
    State.windowBlock_portGivenUp]
  rfl

/-- The entry that a READ of STATUS takes. -/
def statusEntry (t : Tag) : Cmd :=
  { newEntry (some t) .read (BitVec.ofNat 48 281474976710592) 1 false 0 (some .control) [] with state := .atResponder }

/-- A READ of STATUS is answered with its own entry shown (R95; log entry 30). -/
theorem exec_read_status (hb : (s.slot i).tagBusy t = false) :
    exec (.read i t (BitVec.ofNat 48 281474976710592) 1 false) s =
      .next (s.portGivenUp.say [.frame i ((s.setSlot i ((s.slot i).withCmd (statusEntry t))).windowBlock i 0),
        reply i t .good]) := by
  have hblock : (s.portGivenUp.takeEntry i ((windowReadRecord t 0).toControl .read)).windowBlock i 0 =
      (s.setSlot i ((s.slot i).withCmd (statusEntry t))).windowBlock i 0 := by
    rw [takeEntry_eq, State.portGivenUp_slot]
    show State.statusBlock _ _ = State.statusBlock _ _
    rw [State.statusBlock_eq, State.statusBlock_eq, State.slot_setSlot, State.slot_setSlot, State.gradePosition_setSlot,
      State.gradePosition_setSlot, State.gradePosition, State.portGivenUp_grader]
    rfl
  refine (exec_read_window (n := 0) (by decide) hb).trans (congrArg Host.Outcome.next ?_)
  rw [State.controlRead_answered (n := 0) (windowReadRecord_start (by decide)) (by rw [State.portGivenUp_slot]; exact hb)
    (.inl (by decide)), hblock]
  rfl

theorem exec_gradeRecordRead (hb : (s.slot i).tagBusy t = false) :
    exec (.gradeRecordRead i t) s = .next (s.portGivenUp.controlRead i (gradeReadRecord t)) :=
  congrArg Host.Outcome.next (State.gradeRead_eq s i t hb)

/-- A read of the GRADE RECORD block that is not held (R156). -/
theorem exec_gradeRecordRead_answered (hb : (s.slot i).tagBusy t = false) (hh : (s.slot i).holdsGradeRead = false) :
    exec (.gradeRecordRead i t) s =
      .next (s.portGivenUp.say [.frame i (s.slot i).gradeBlock, reply i t .good]) := by
  rw [exec_gradeRecordRead hb, State.controlRead_answered (gradeReadRecord_start t)
    (by rw [State.portGivenUp_slot]; exact hb) (.inr (by rw [State.portGivenUp_slot]; exact hh)),
    State.windowBlock_takeEntry _ _ _ _ (by decide), State.windowBlock_portGivenUp]
  rfl

/-- A read of the GRADE RECORD block that the slot holds under its tag (R156). -/
theorem exec_gradeRecordRead_held (hb : (s.slot i).tagBusy t = false) (hh : (s.slot i).holdsGradeRead = true) :
    exec (.gradeRecordRead i t) s =
      .next (s.portGivenUp.setSlot i ((s.slot i).withCmd ((gradeReadRecord t).toControl .read))) := by
  have hoffset : (gradeReadRecord t).start - Config.controlBase = 16 := by rw [gradeReadRecord_start]; rfl
  rw [exec_gradeRecordRead hb, State.controlRead_eq _ _ _ (by rw [State.portGivenUp_slot]; exact hb)]
  dsimp only
  rw [hoffset, State.portGivenUp_slot, if_pos ⟨rfl, hh⟩, takeEntry_eq, State.portGivenUp_slot]

theorem Slot.gradeBlock_some {sl : Slot} {g : GradeRecord} (h : sl.closing.grade = some g) :
    sl.gradeBlock = 1 :: g.commonWords := by
  rw [Slot.gradeBlock, h]

theorem Slot.gradeBlock_none {sl : Slot} (h : sl.closing.grade = none) : sl.gradeBlock = [] := by
  rw [Slot.gradeBlock, h]

end Served

/-- Settles O23: how a read is served, and then each block by the lemma on its words. -/
theorem windowReadsAreAnsweredOrHeld : Obligations.WindowReadsAreAnsweredOrHeld := by
  intro s i t sl two serial recipe failure
  have hrecipe (r : Recipe) : r.words = recipe r := r.words_eq
  refine ⟨fun hb => ?reads, ?statusBlock, ?command, ?pendingBlock, ?activeBlock, ?extents, ?zones, ?grade, ?timing, ?shelf,
    ?unassigned⟩
  case reads =>
    refine ⟨?block, ?status, ?sameRead, fun g hg => ?answered, fun hg hp => ?held, fun hg hp => ?zeros, fun data => ?written⟩
    case block => exact exec_read_block hb
    case status =>
      intro status
      have hread := State.statusBlock_eq (s.setSlot i (sl.withCmd (statusEntry t))) i
      rw [State.slot_setSlot, State.gradePosition_setSlot] at hread
      have hstatus : status = (sl.withCmd (statusEntry t)).statusWords (s.gradePosition i) := hread
      have hold : s.windowBlock i 0 = sl.statusWords (s.gradePosition i) := State.statusBlock_eq s i
      rw [hold]
      refine ⟨exec_read_status hb, ?_, ?_, fun n h4 hn => ?_⟩
      · rw [hstatus]; exact Slot.statusWords_count rfl
      · rw [hstatus]; exact Slot.statusWords_entry rfl rfl hb
      · rw [hstatus]; exact Slot.statusWords_same rfl h4 hn
    case sameRead => rfl
    case answered =>
      have hh : (s.slot i).holdsGradeRead = false := by
        have hg' : (s.slot i).closing.grade = some g := hg
        simp [Slot.holdsGradeRead, hg']
      rw [exec_gradeRecordRead_answered hb hh, Slot.gradeBlock_some hg]
    case held =>
      have hg' : (s.slot i).closing.grade = none := hg
      have hp' : (s.slot i).sup.phase = .grading := hp
      exact exec_gradeRecordRead_held hb (by simp [Slot.holdsGradeRead, hg', hp'])
    case zeros =>
      have hp' : (s.slot i).sup.phase ≠ .grading := hp
      rw [exec_gradeRecordRead_answered hb (by simp [Slot.holdsGradeRead, hp']), Slot.gradeBlock_none hg]
    case written =>
      refine ⟨_, (windowBlocksTakeAWrite s i t data hb).1, fun n => ?_⟩
      rw [← Recipe.words_ofBlock]
      have hpending : ((s.portGivenUp.setSlot i { s.slot i with pending := Recipe.ofBlock data 0 }).slot i).pending =
          Recipe.ofBlock data 0 := by rw [State.slot_setSlot]
      exact congrArg (fun r : Recipe => r.words.getD n 0) hpending
  case statusBlock =>
    refine ⟨sl.statusLines, entryWord sl.traffic.cmds 0, entryWord sl.traffic.cmds 8, entryWord sl.traffic.cmds 16,
      entryWord sl.traffic.cmds 24, Slot.statusLines_bit, fun u => ?entries, ?words⟩
    case entries =>
      have hcode := (entryWords_digit (cs := sl.traffic.cmds) u).trans (entryCode_eq u)
      refine ⟨fun h => ?_, fun c h hc => ?_⟩
      · rw [h] at hcode; exact hcode
      · rw [h] at hcode; exact hcode.trans (CmdState.code_eq hc)
    case words =>
      intro p q g posts verdict
      have hcode : sl.closing.verdict.code = BitVec.ofNat 8 verdict.1 := by
        simp only [verdict]
        cases sl.closing.verdict <;> rfl
      have hbin : sl.closing.verdict.bin = verdict.2 := by
        simp only [verdict]
        cases sl.closing.verdict <;> rfl
      have hcondition := State.statusCondition_eq (s := s) (i := i)
      rw [show (s.slot i).closing.verdict.code = _ from hcode, show (s.slot i).closing.verdict.bin = _ from hbin]
        at hcondition
      show s.statusCondition i ++ sl.statusTraffic ++ sl.statusPass ++ sl.statusIdentity = _
      rw [hcondition, Slot.statusTraffic_eq, Slot.statusPass_eq, Slot.statusIdentity_eq]
      simp only [List.append_assoc, List.cons_append, List.nil_append]
      rfl
  case command =>
    show sl.command.words = _
    rw [CommandBlock.words, CmdOutcome.code_eq]
  case pendingBlock => exact hrecipe sl.pending
  case activeBlock => exact hrecipe sl.active
  case extents =>
    intro k m n
    rw [State.windowBlock_extents, tableBlock_getD Extent.words_length _ _ _ _ m.isLt n.isLt]
    cases sl.defects.extents[128 * k.val + m.val]? with
    | none => rfl
    | some e => exact congrArg (fun ws : List Word => ws.getD n.val 0) e.words_eq
  case zones =>
    intro k m n
    rw [State.windowBlock_zones, tableBlock_getD Zone.words_length _ _ _ _ m.isLt n.isLt]
    cases sl.zmap.zones[128 * k.val + m.val]? with
    | none => rfl
    | some z => exact z.words_getD n.val
  case grade => exact GradeRecord.commonWords_eq
  case timing => rfl
  case shelf =>
    show s.shelfBlock = _
    have hbins : (fun n => (s.shelf.bins.getD n BinEntry.disabled).words) = fun n => _ :=
      funext fun n => BinEntry.words_eq (s.shelf.bins.getD n BinEntry.disabled)
    rw [State.shelfBlock, hrecipe, hbins]
    rfl
  case unassigned => exact fun n hn h32 => State.windowBlock_unassigned hn fun h => h32 (Fin.ext h)

end Sys2Proof.Machine
